-- ==== Sys2Proof/Word.lean ====
section
/-! DEFINITION. The word types of the KN-4832: bytes of frames, 16-bit and 32-bit words. -/

namespace Sys2Proof

/-- One character of a line, one byte of a frame. -/
abbrev Byte := BitVec 8

/-- A 16-bit word: the check register of R169 and the signed speeds of the frames (9.5). -/
abbrev Word16 := BitVec 16

/-- A 32-bit wrapping word: rim counts and the ms counter (00_scope, Units and number ranges). -/
abbrev Word32 := BitVec 32

end Sys2Proof
end

