-- ==== Sys2Proof/Syntax.lean ====
section
/-! DEFINITION. The commands of the KN-4832: one constructor per row of spec/opcode_table.json,
with the operands the rules give the event. -/

namespace Sys2Proof

/-- The three serial lines of the part (00_scope, Placement in the system). -/
inductive Line where
  | console
  | drive
  | field
  deriving DecidableEq, Repr

/-- The characters of one received frame as they came off a line, up to the line-idle gap that ended
it (R168).  `stopBitsValid` is false when any character came without a valid stop bit. -/
structure RawFrame where
  chars : List Byte
  stopBitsValid : Bool
  deriving DecidableEq, Repr

/-- The payload of an accepted FEEDBACK frame, field by field (9.5). -/
structure FeedbackFields where
  /-- measured speed, signed, mm/s -/
  speed : Word16
  /-- rim count, mm -/
  rim : Word32
  /-- marker present flag -/
  marker : Bool
  /-- marker latch count L, read only when the marker present flag is 1 -/
  latch : Word32
  /-- brake state: true for 1 RELEASED, false for 0 APPLIED -/
  released : Bool
  /-- drive status: 0 OK, 1 to 255 FAULT with that code -/
  status : Byte
  deriving DecidableEq, Repr

/-- The commands of the part.  A request row is the arrival of the REQUEST frame that spells that
request (log entry 1); every other row is the event its rule describes. -/
inductive Instr where
  /-- RESETN (R165): power-on or assertion of RESETN. -/
  | resetn
  /-- SETPOINT (R2): an accepted SETPOINT frame with this requested speed. -/
  | setpoint (speed : Word16)
  /-- FEEDBACK (R15): an accepted FEEDBACK frame. -/
  | feedback (f : FeedbackFields)
  /-- REQUEST (R172): an accepted REQUEST frame, whatever its code and arguments. -/
  | request (code tag : Byte) (args : List Byte)
  /-- AUX_FRAME (R177): an accepted AUX frame from the console or the drive line. -/
  | auxFrame (line : Line) (kind : Byte) (payload : List Byte)
  /-- DISCARDED_FRAME (R168): the end of a received frame that fails the tests of its line. -/
  | discardedFrame (line : Line) (raw : RawFrame)
  /-- ANSWER (R84): the end of the frame that settles the entry in flight. -/
  | answer (raw : RawFrame)
  /-- LATE_ANSWER (R85): the end of a frame that began within a late window. -/
  | lateAnswer (raw : RawFrame)
  /-- UNSOLICITED_FRAME (R83): the end of a frame that began after the entry settled or in IDLE. -/
  | unsolicitedFrame (raw : RawFrame)
  /-- REPLY_WAIT_EXPIRY (R83): the reply timeout runs out with no character received. -/
  | replyWaitExpiry
  /-- LATE_WINDOW_END (R85): the late window runs out. -/
  | lateWindowEnd
  /-- SETTLING_FRAME_OVERRUN (R83): the settling frame reaches its 66th character or lasts too long. -/
  | settlingFrameOverrun
  /-- POLL (R82): the next POLL of the walk is sent. -/
  | poll
  /-- POLL_TIMER_EXPIRY (R80). -/
  | pollTimerExpiry
  /-- DRIVE_PERIOD_EXPIRY (R5). -/
  | drivePeriodExpiry
  /-- STALE_EXPIRY (R21). -/
  | staleExpiry
  /-- LOSS_EXPIRY (R22). -/
  | lossExpiry
  /-- FEEDBACK_TIMEOUT (R18). -/
  | feedbackTimeout
  /-- STATUS_PERIOD_EXPIRY (R184). -/
  | statusPeriodExpiry
  /-- DWELL_TIMER_EXPIRY (R145). -/
  | dwellTimerExpiry
  /-- DURATION_TIMER_EXPIRY (R149). -/
  | durationTimerExpiry
  /-- RESTART_TAKES_EFFECT (R167). -/
  | restartTakesEffect
  /-- CONSOLE_FRAME_SENT (R174): the last character of the console queue's first frame is sent. -/
  | consoleFrameSent
  /-- DRIVE_FRAME_SENT (R176): the frame being sent on the drive line is sent. -/
  | driveFrameSent
  /-- STATUS_READ (R182). -/
  | statusRead (tag : Byte)
  /-- MODE_SET_SERVICE (R161): MODE SET with mode code 2. -/
  | modeSetService (tag : Byte)
  /-- MODE_SET_SETUP (R164): MODE SET with mode code 1. -/
  | modeSetSetup (tag : Byte)
  /-- RESTART (R166). -/
  | restart (tag : Byte)
  /-- TABLE_WRITE (R157). -/
  | tableWrite (tag table first : Byte) (data : List Byte)
  /-- TABLE_READ (R159). -/
  | tableRead (tag table first count : Byte)
  /-- CABIN_READ (R187). -/
  | cabinRead (tag first count : Byte)
  /-- CABIN_SET_VERIFY (R75): CABIN SET with action 1. -/
  | cabinSetVerify (tag cabin count : Byte)
  /-- CABIN_SET_CORRECT (R75): CABIN SET with action 2. -/
  | cabinSetCorrect (tag cabin count : Byte)
  /-- CABIN_SET_TAKE_OUT (R76): CABIN SET with action 3; the count byte is disregarded. -/
  | cabinSetTakeOut (tag cabin count : Byte)
  /-- CABIN_SET_RETURN (R76): CABIN SET with action 4; the count byte is disregarded. -/
  | cabinSetReturn (tag cabin count : Byte)
  /-- HOLD_PLACE (R128). -/
  | holdPlace (tag cls : Byte)
  /-- HOLD_RELEASE (R129). -/
  | holdRelease (tag source : Byte)
  /-- HOLD_LIST (R131). -/
  | holdList (tag : Byte)
  /-- SNAPSHOT_TAKE (R135). -/
  | snapshotTake (tag : Byte)
  /-- PROFILE_RUN (R140, R141). -/
  | profileRun (tag profile repeats wait : Byte)
  /-- PROFILE_STOP (R151). -/
  | profileStop (tag : Byte)
  /-- PROFILE_STATUS (R154). -/
  | profileStatus (tag : Byte)
  /-- WIND_READ (R114). -/
  | windRead (tag : Byte)
  /-- TRACE_TAKE (R110). -/
  | traceTake (tag n : Byte)
  /-- POLL_NOW (R81). -/
  | pollNow (tag : Byte)
  /-- POLL_RESULTS (R92). -/
  | pollResults (tag : Byte)
  /-- UNKNOWN_REQUEST (R180): a request whose code is none of the eighteen. -/
  | unknownRequest (code tag : Byte) (args : List Byte)
  /-- ENTRY_SETTLED (R83, R85): the first character of a field-line frame arrives. -/
  | entrySettled
  deriving DecidableEq, Repr

end Sys2Proof
end

