-- ==== Sys2Proof/Decode.lean ====
section
/-! DEFINITION. Decoding the words of spec/opcode_table.json.  No row of this hardware's table gives bits
("fields" is empty in every row and none has "fixed"), so no word spells a command. -/

namespace Sys2Proof

/-- The command that a word spells by the table's bits: none, since no row gives bits. -/
def decodeTableWord (_nbits _w : Nat) : Option Instr := none

end Sys2Proof
end

