-- ==== Sys2Proof/Config.lean ====
section
/-! DEFINITION. The choices the spec leaves open, as constants without a body: no proof can see
what they are, so a claim holds whatever they are. -/

namespace Sys2Proof

/-- Which of several timer expiries that fall at the same ms counter value is taken first: the spec
says "either may be taken first" (R18, R20, R80, R149).  The argument is the number of free choices
made before, so that every tie is a fresh one.  Assumption log entry 3. -/
opaque Config.tieBreak : Nat → Nat

/-- Whether the forwarded copy of a FEEDBACK (R175) stands in the console queue before the final
reply of a profile run that the same FEEDBACK ended (R153): the spec puts both in one event and
gives no order between them.  Assumption log entry 4. -/
opaque Config.copyBeforeFinalReply : Nat → Bool

end Sys2Proof
end

