-- ==== Sys2Proof/Machine/State.lean ====
section
/-! DEFINITION. The state of the part: every record, table, queue, counter and timer that the spec
names, as plain data, and the state after reset (R165). -/

namespace Sys2Proof.Machine

/-! ### Ride modes and tables (chapter 8) -/

/-- The ride mode of the mode record (R156). -/
inductive Mode where
  | setup
  | service
  deriving DecidableEq, Repr

/-- The RIDE table, one element of 21 fields (R160). -/
structure RideTable where
  /-- number of cabins N -/
  n : Nat
  /-- pitch, mm -/
  pitch : Nat
  /-- ride max speed, mm/s -/
  maxSpeed : Nat
  /-- reverse limit, mm/s -/
  reverseLimit : Nat
  /-- creep speed, mm/s -/
  creepSpeed : Nat
  /-- restrict ceiling, mm/s -/
  restrictCeiling : Nat
  /-- platform speed, mm/s -/
  platformSpeed : Nat
  /-- door speed limit, mm/s -/
  doorSpeedLimit : Nat
  /-- acceleration, mm/s² -/
  accel : Nat
  /-- deceleration, mm/s² -/
  decel : Nat
  /-- hold deceleration, mm/s² -/
  holdDecel : Nat
  /-- drive period T, ms -/
  period : Nat
  /-- stale time, ms -/
  staleTime : Nat
  /-- loss time, ms -/
  lossTime : Nat
  /-- feedback timeout, ms -/
  feedbackTimeout : Nat
  /-- standstill band, mm/s -/
  stillBand : Nat
  /-- standstill time, ms -/
  stillTime : Nat
  /-- marker tolerance W, mm -/
  w : Nat
  /-- miss limit -/
  missLimit : Nat
  /-- lock margin, mm -/
  lockMargin : Nat
  /-- status period, ms -/
  statusPeriod : Nat
  deriving DecidableEq, Repr

/-- The rim circumference C = N × pitch (00_scope, Terms). -/
def RideTable.circumference (r : RideTable) : Nat := r.n * r.pitch

/-- The ZONE table, one element of seven fields (R51). -/
structure ZoneTable where
  idStart : Nat
  idEnd : Nat
  aStart : Nat
  bStart : Nat
  bEnd : Nat
  /-- tag floor strength -/
  tagFloor : Nat
  /-- required reads -/
  requiredReads : Nat
  deriving DecidableEq, Repr

/-- The WIND table (R111). -/
structure WindTable where
  /-- mean shift k -/
  meanShift : Nat
  /-- gust window length G -/
  gustLength : Nat
  watchMean : Nat
  watchGust : Nat
  restrictMean : Nat
  restrictGust : Nat
  holdMean : Nat
  holdGust : Nat
  /-- mean hysteresis -/
  meanHyst : Nat
  /-- gust hysteresis -/
  gustHyst : Nat
  /-- entry persistence -/
  entryPersistence : Nat
  /-- exit persistence -/
  exitPersistence : Nat
  /-- minimum fresh count -/
  minFresh : Nat
  deriving DecidableEq, Repr

/-- Element 0 of the POLL table (R77). -/
structure PollParams where
  /-- poll period, ms -/
  period : Nat
  /-- reply timeout, ms -/
  replyTimeout : Nat
  staleAfter : Nat
  freshAfter : Nat
  deriving DecidableEq, Repr

/-- The kind of a poll list entry (R77). -/
inductive StationKind where
  | unset
  | mast
  | alight
  | board
  | tagReader
  deriving DecidableEq, Repr

/-- A poll list entry: elements 1 to 16 of the POLL table (R77). -/
structure PollEntry where
  address : Nat
  kind : StationKind
  endMark : Bool
  deriving DecidableEq, Repr

/-- An element of the PASS table (R177).  Direction 0 and kind 0 mark an unset element. -/
structure PassElement where
  kind : Nat
  direction : Nat
  setupAllowed : Bool
  serviceAllowed : Bool
  deriving DecidableEq, Repr

/-- The condition kind of a profile step (R137); `clear` is the 0 of a clear step. -/
inductive StepKind where
  | clear
  | speed
  | dwell
  | cabinAt
  | allEmpty
  | revolution
  | windBelow
  deriving DecidableEq, Repr

/-- A step of a profile table (R137). -/
structure Step where
  /-- target, mm/s -/
  target : Int
  /-- rate, mm/s² -/
  rate : Nat
  kind : StepKind
  param : Nat
  /-- maximum duration, ms -/
  maxDuration : Nat
  /-- last-step mark -/
  last : Bool
  deriving DecidableEq, Repr

/-- A clear step: every field 0 (R137). -/
def Step.clearStep : Step :=
  { target := 0, rate := 0, kind := .clear, param := 0, maxDuration := 0, last := false }

/-- The mode record (R156).  `checked` is the tables mark: true for CHECKED. -/
structure ModeRecord where
  mode : Mode
  checked : Bool
  restartPending : Bool
  deriving DecidableEq, Repr

/-! ### The drive gate (chapter 1) -/

/-- The speed source of the requested-speed record (R1). -/
inductive SpeedSource where
  | console
  | profile
  deriving DecidableEq, Repr

/-- The requested-speed record (R1). -/
structure RequestedSpeed where
  /-- the last SETPOINT received, after clamping, mm/s -/
  value : Int
  armed : Bool
  ageBase : Word32
  stale : Bool
  source : SpeedSource
  deriving DecidableEq, Repr

/-- The stale and loss expiries on the setpoint age (R20): true while armed and not yet taken. -/
structure AgeExpiries where
  staleArmed : Bool
  lossArmed : Bool
  deriving DecidableEq, Repr

/-- The brake request of a DRIVE ORDER (R12). -/
inductive BrakeRequest where
  | apply
  | release
  deriving DecidableEq, Repr

/-- The output record (R13). -/
structure OutputRecord where
  /-- output speed V, µm/s -/
  v : Int
  /-- last order setpoint, mm/s -/
  setpoint : Int
  /-- last brake request -/
  brake : BrakeRequest
  /-- last forward ceiling Cf, mm/s -/
  cf : Nat
  /-- last reverse ceiling Cr, mm/s -/
  cr : Nat
  /-- sequence count of the next order, 0 to 255 -/
  seq : Byte
  deriving DecidableEq, Repr

/-- The feedback state (R14). -/
inductive FeedbackState where
  | absent
  | present
  | silent
  deriving DecidableEq, Repr

/-- The brake state of the feedback record (R14). -/
inductive BrakeState where
  | applied
  | released
  | unknown
  deriving DecidableEq, Repr

/-- The feedback record (R14) with its feedback timer.  `speed` is none for UNKNOWN; `faultCode` is 0
for drive status OK and 1 to 255 for FAULT with that code. -/
structure FeedbackRecord where
  state : FeedbackState
  speed : Option Int
  brake : BrakeState
  faultCode : Nat
  lastArrival : Word32
  /-- the feedback timer: stopped, or the ms counter value at which it runs out (R15, R18) -/
  timer : Option Word32
  deriving DecidableEq, Repr

/-- The standstill state (R16). -/
structure Standstill where
  /-- run start, none for NONE -/
  runStart : Option Word32
  flag : Bool
  deriving DecidableEq, Repr

/-! ### The rim tracker (chapter 2) -/

/-- The tracker state (R27). -/
inductive TrackerState where
  | searching
  | locked
  | coasting
  | lost
  deriving DecidableEq, Repr

/-- The direction of the tracker record (R27, R30). -/
inductive Direction where
  | forward
  | reverse
  | still
  deriving DecidableEq, Repr

/-- The tracker record (R27).  `index` is I, `m` the reference count M. -/
structure Tracker where
  state : TrackerState
  phaseKnown : Bool
  m : Word32
  index : Option Nat
  missStreak : Nat
  lastRim : Option Word32
  direction : Direction
  candidate : Option Nat
  candidateReads : Nat
  /-- mismatch memory: the shift of the last outcome, if it was MISMATCH -/
  mismatch : Option Nat
  /-- cabin travel was known when the tracker finished with the last FEEDBACK and has been known
  since: the condition of R28 for handing before-figures with the next frame -/
  travelHanded : Bool
  deriving DecidableEq, Repr

/-! ### The boarding controller (chapter 3) -/

/-- The state of a cabin (R47). -/
inductive CabinState where
  | outOfService
  | unverified
  | empty
  | loaded
  | alighting
  | boarding
  deriving DecidableEq, Repr

/-- The reason of a withheld flag (R47, R59). -/
inductive WithheldReason where
  | identity
  | position
  deriving DecidableEq, Repr

/-- The outcome of an identity window (R58); a MISMATCH carries its shift. -/
inductive IdOutcome where
  | none
  | matched
  | mismatch (shift : Nat)
  deriving DecidableEq, Repr

/-- The last door state of a cabin (R47); the first five are the door states a station reports. -/
inductive DoorState where
  | none
  | open
  | closed
  | locked
  | fault
  | notReported
  | notAtPlatform
  deriving DecidableEq, Repr

/-- The identity window of a cabin with its reads (R47, R56). -/
structure IdWindow where
  isOpen : Bool
  matching : Nat
  /-- other cabin, none for NONE -/
  other : Option Nat
  otherReads : Nat
  deriving DecidableEq, Repr

/-- A CLOSED window with its reads cleared. -/
def IdWindow.closed : IdWindow := { isOpen := false, matching := 0, other := none, otherReads := 0 }

/-- A cabin record (R47). -/
structure Cabin where
  /-- tag identity, 8 bytes -/
  tag : List Byte
  /-- capacity, 0 for a record not loaded -/
  capacity : Nat
  /-- in-service mark -/
  inService : Bool
  state : CabinState
  count : Nat
  /-- count-saturated flag -/
  saturated : Bool
  /-- withheld flag and reason: none for CLEAR -/
  withheld : Option WithheldReason
  /-- entry-barred flag -/
  entryBarred : Bool
  /-- unlocked-exit mark -/
  unlockedExit : Bool
  window : IdWindow
  /-- last identity outcome -/
  outcome : IdOutcome
  /-- last door state -/
  door : DoorState
  /-- has-valid-answer flag -/
  hasValid : Bool
  zoneCount : Nat
  /-- time of last platform exit -/
  exitTime : Word32
  deriving DecidableEq, Repr

/-- A cabin record as power-on leaves it: not loaded (R47). -/
def Cabin.notLoaded : Cabin :=
  { tag := List.replicate 8 0, capacity := 0, inService := false, state := .outOfService, count := 0,
    saturated := false, withheld := none, entryBarred := false, unlockedExit := false,
    window := IdWindow.closed, outcome := .none, door := .notAtPlatform, hasValid := false,
    zoneCount := 0, exitTime := 0 }

/-- Freshness of a field station (R78). -/
inductive Freshness where
  | unknown
  | fresh
  | stale
  deriving DecidableEq, Repr

/-- A station record of the boarding controller (R66). -/
structure StationRecord where
  /-- cabin shown, none for NONE -/
  shown : Option Nat
  /-- stop button: true for PRESSED -/
  pressed : Bool
  freshness : Freshness
  deriving DecidableEq, Repr

/-- The reset value of a station record (R66). -/
def StationRecord.initial : StationRecord := { shown := none, pressed := false, freshness := .unknown }

/-! ### The field poller (chapter 4) -/

/-- The last result of a poll list entry (R78). -/
inductive PollResult where
  | notPolled
  | answered
  | noAnswer
  | bad
  deriving DecidableEq, Repr

/-- The result record of a poll list entry (R78). -/
structure ResultRecord where
  last : PollResult
  freshness : Freshness
  answerRun : Nat
  failureRun : Nat
  deriving DecidableEq, Repr

/-- The reset value of a result record (R78). -/
def ResultRecord.initial : ResultRecord :=
  { last := .notPolled, freshness := .unknown, answerRun := 0, failureRun := 0 }

/-- Where the poller stands.  `idle` is the poller state IDLE; the other four are IN_CYCLE (R79) and
say what the entry in flight waits for: its POLL to be sent (R82), its answer (the reply wait of
R83), the end of its settling frame (R83), or the end of its late window (R85). -/
inductive PollPhase where
  | idle
  | toPoll
  | replyWait
  | settling
  | lateWindow
  deriving DecidableEq, Repr

/-- A frame: kind, address and payload (9.5).  Length and check follow from them (R168, R169). -/
structure Frame where
  kind : Byte
  address : Byte
  payload : List Byte
  deriving DecidableEq, Repr

/-- The cycle state (R79) with the reply-wait timer and the field line's send state. -/
structure Poller where
  phase : PollPhase
  /-- the entry in flight: a walked-list entry number, or none for NONE -/
  inFlight : Option Nat
  pendingMark : Bool
  /-- the end of the reply wait, of the late window, or of the time the settling frame may take -/
  timer : Option Word32
  /-- the POLL last sent on the field line: what the part shows the station polled -/
  lastPoll : Option Frame
  deriving DecidableEq, Repr

/-! ### The wind monitor (chapter 5) -/

/-- A mast record (R93): the MAST table element and the dynamic fields. -/
structure Mast where
  address : Nat
  /-- correction factor f, in 1/256ths -/
  factor : Nat
  /-- resolution: true for HALVES -/
  halves : Bool
  freshness : Freshness
  seeded : Bool
  /-- mean accumulator A, in 1/16 wind unit -/
  acc : Nat
  /-- gust window, newest first -/
  window : List Nat
  lastDirection : Option Nat
  lastRaw : Option Nat
  deriving DecidableEq, Repr

/-- A mast record at power-on: absent, with the MAST table's defaults (R93). -/
def Mast.initial : Mast :=
  { address := 0, factor := 256, halves := false, freshness := .unknown, seeded := false, acc := 0,
    window := [], lastDirection := none, lastRaw := none }

/-- The wind level (5.3). -/
inductive WindLevel where
  | calm
  | watch
  | restrict
  | hold
  deriving DecidableEq, Repr

/-- The governing values (R100) and the level record (R102). -/
structure WindRecord where
  govMean : Nat
  govGust : Nat
  /-- recorded fresh mast count -/
  freshCount : Nat
  level : WindLevel
  up : Nat
  /-- run minimum, none for NONE -/
  runMin : Option WindLevel
  down : Nat
  deriving DecidableEq, Repr

/-- An entry of the wind trace (R106). -/
inductive TraceEntry where
  | full (value : Nat)
  | delta (deltas : List Int)
  | level (new : WindLevel)
  | gap
  deriving DecidableEq, Repr

/-- The wind trace (R106), oldest entry first; `last` and `boundary` are none for UNKNOWN. -/
structure WindTrace where
  entries : List TraceEntry
  last : Option Nat
  boundary : Option Nat
  gapMark : Bool
  deriving DecidableEq, Repr

/-- The reset value of the wind trace (R106). -/
def WindTrace.initial : WindTrace := { entries := [], last := none, boundary := none, gapMark := false }

/-- The reset value of the governing values and the level record (R100, R102). -/
def WindRecord.initial : WindRecord :=
  { govMean := 0, govGust := 0, freshCount := 0, level := .calm, up := 0, runMin := none, down := 0 }

/-! ### The hold manager (chapter 6) -/

/-- The hold sources (R115). -/
inductive HoldSource where
  | wind
  | masts
  | position
  | command
  | door
  | platform
  | drive
  | console
  deriving DecidableEq, Repr

/-- The hold classes (R115), in rising order. -/
inductive HoldClass where
  | noBoard
  | slow
  | creep
  | stop
  deriving DecidableEq, Repr

/-- A hold entry (R115).  `subject` is none for NONE. -/
structure HoldEntry where
  source : HoldSource
  cls : HoldClass
  cause : Nat
  subject : Option Nat
  time : Word32
  latched : Bool
  present : Bool
  deriving DecidableEq, Repr

/-- The cause-present states of DOOR, PLATFORM and DRIVE (R124). -/
structure CauseStates where
  door : Bool
  platform : Bool
  drive : Bool
  deriving DecidableEq, Repr

/-- A snapshot (R132). -/
structure Snapshot where
  time : Word32
  source : HoldSource
  cause : Nat
  subject : Option Nat
  cls : HoldClass
  /-- output setpoint -/
  setpoint : Int
  /-- measured speed, none for UNKNOWN -/
  speed : Option Int
  rim : Option Word32
  trackerState : TrackerState
  index : Option Nat
  level : WindLevel
  govMean : Nat
  govGust : Nat
  /-- hold entry count -/
  entries : Nat
  superseded : Bool
  deriving DecidableEq, Repr

/-- The two snapshot slots with the write index w and the read index r (R133). -/
structure SnapshotSlots where
  slot0 : Option Snapshot
  slot1 : Option Snapshot
  w : BitVec 2
  r : BitVec 2
  deriving DecidableEq, Repr

/-- The reset value of the slots and indexes (R133). -/
def SnapshotSlots.initial : SnapshotSlots := { slot0 := none, slot1 := none, w := 0, r := 0 }

/-! ### The profile unit (chapter 7) -/

/-- How a run ended (R150). -/
inductive EndStatus where
  | complete
  | aborted
  | held
  | timeout
  | fault
  deriving DecidableEq, Repr

/-- The run record (R139). -/
structure RunRecord where
  /-- run state: true for RUNNING -/
  running : Bool
  profile : Option Nat
  step : Nat
  repeats : Nat
  stepStart : Word32
  /-- step travel, a signed 32-bit number, mm -/
  travel : Word32
  ordersInStep : Bool
  dwellTimer : Option Word32
  durationTimer : Option Word32
  finalTime : Nat
  lastEnd : Option EndStatus
  /-- the current step began since the last FEEDBACK began to be taken: R142 and R144 keep a FEEDBACK
  from counting for a step that began while it was taken -/
  begunNow : Bool
  deriving DecidableEq, Repr

/-- The reset value of the run record (R139). -/
def RunRecord.initial : RunRecord :=
  { running := false, profile := none, step := 0, repeats := 0, stepStart := 0, travel := 0,
    ordersInStep := false, dwellTimer := none, durationTimer := none, finalTime := 0,
    lastEnd := none, begunNow := false }

/-! ### The line unit and the management responder (chapters 9 and 10) -/

/-- What the drive line is sending (R176): nothing, the frame of the order place, or the oldest frame
of the AUX places. -/
inductive DriveSending where
  | free
  | order
  | aux
  deriving DecidableEq, Repr

/-- The drive queue (R176): the order place, the AUX places, oldest first, and what is being sent. -/
structure DriveQueue where
  order : Option Frame
  aux : List Frame
  sending : DriveSending
  deriving DecidableEq, Repr

/-- The reset value of the drive queue (R176). -/
def DriveQueue.initial : DriveQueue := { order := none, aux := [], sending := .free }

/-- A REQUEST frame as the request buffer holds it (R172). -/
structure Request where
  code : Byte
  tag : Byte
  args : List Byte
  deriving DecidableEq, Repr

/-- What a line's receive buffer holds between commands (R168).  `receiving` is a frame begun and not
ended, whose characters the command of its end brings (log entry 11).  `lost` is an empty buffer on a
line where a frame that a reset cut short may still be coming in: nothing of it is stored, and its end
latches no event. -/
inductive ReceiveBuffer where
  | empty
  | receiving
  | lost
  deriving DecidableEq, Repr

/-- The receive buffers of the three lines (R168, R178). -/
structure ReceiveBuffers where
  console : ReceiveBuffer
  drive : ReceiveBuffer
  field : ReceiveBuffer
  deriving DecidableEq, Repr

/-- The reset value of the receive buffers (R178). -/
def ReceiveBuffers.initial : ReceiveBuffers :=
  { console := .empty, drive := .empty, field := .empty }

/-- The twelve latched events (R185). -/
inductive Event where
  | setpointClamped
  | countSaturated
  | sampleSaturated
  | strayMarker
  | missedMarker
  | identityFault
  | unknownTag
  | pollOverrun
  | frameDiscarded
  | queueFull
  | snapshotSuperseded
  | traceWrapped
  deriving DecidableEq, Repr

/-- The latched event set (R185): each event SET or CLEAR. -/
structure LatchedSet where
  setpointClamped : Bool
  countSaturated : Bool
  sampleSaturated : Bool
  strayMarker : Bool
  missedMarker : Bool
  identityFault : Bool
  unknownTag : Bool
  pollOverrun : Bool
  frameDiscarded : Bool
  queueFull : Bool
  snapshotSuperseded : Bool
  traceWrapped : Bool
  deriving DecidableEq, Repr

/-- The set with every event CLEAR. -/
def LatchedSet.clear : LatchedSet :=
  ⟨false, false, false, false, false, false, false, false, false, false, false, false⟩

/-- The three timers that always run, each with the ms counter value of its next expiry: the drive
order timer (R5), the poll timer (R80) and the status-period timer (R184). -/
structure Timers where
  drive : Word32
  poll : Word32
  status : Word32
  deriving DecidableEq, Repr

/-! ### The whole state -/

/-- The state of the part. -/
structure State where
  /-- the ms counter (R165) -/
  ms : Word32
  modeRec : ModeRecord
  ride : RideTable
  zone : ZoneTable
  windTable : WindTable
  pollParams : PollParams
  /-- poll list entries 0 to 15 (R77) -/
  pollEntries : List PollEntry
  /-- the pass list, 8 elements (R177) -/
  passList : List PassElement
  /-- profile tables 0 to 7 of 16 steps each (R137) -/
  profiles : List (List Step)
  req : RequestedSpeed
  expiries : AgeExpiries
  out : OutputRecord
  fb : FeedbackRecord
  still : Standstill
  tracker : Tracker
  /-- the cabin table, 64 records (R47) -/
  cabins : List Cabin
  alightStation : StationRecord
  boardStation : StationRecord
  poller : Poller
  /-- the result records of poll list entries 0 to 15 (R78) -/
  results : List ResultRecord
  /-- mast records 0 to 3 (R93) -/
  masts : List Mast
  wind : WindRecord
  trace : WindTrace
  /-- the hold list, oldest entry first (R115) -/
  holds : List HoldEntry
  causes : CauseStates
  snaps : SnapshotSlots
  run : RunRecord
  /-- the receive buffers (R168) -/
  rx : ReceiveBuffers
  /-- the console queue, the frame being sent first (R174) -/
  consoleQueue : List Frame
  driveQueue : DriveQueue
  /-- the request buffer, oldest request first (R172) -/
  requests : List Request
  /-- the pending profile-wait marker: the tag it holds, or none while it is clear (R141) -/
  waitTag : Option Byte
  latched : LatchedSet
  timers : Timers
  /-- the model's own counter of free choices taken (log entries 3 and 4) -/
  freeCount : Nat
  /-- the commands that are waiting, first in, first out -/
  pending : List Instr
  deriving DecidableEq, Repr

/-- Why the part can stop with a fault: no reason at all.  The spec names no condition that stops the
part and every command has its effect, so this type has no constructor.  Safe: nothing raises it. -/
inductive Fault where
  deriving DecidableEq, Repr

/-- Why the model gives a command no meaning. -/
inductive Refusal where
  /-- Raised by no arm of exec: every row of the table has its meaning.  It stands for a row without
  one, by the row's mnemonic.  Safe: a refused command proves nothing about the part. -/
  | notModelled (mnemonic : String)
  deriving DecidableEq, Repr

/-! ### Reset -/

/-- The RIDE table's defaults (R160). -/
def RideTable.default : RideTable :=
  { n := 0, pitch := 10000, maxSpeed := 260, reverseLimit := 50, creepSpeed := 50,
    restrictCeiling := 150, platformSpeed := 260, doorSpeedLimit := 300, accel := 20, decel := 30,
    holdDecel := 150, period := 20, staleTime := 60, lossTime := 300, feedbackTimeout := 100,
    stillBand := 5, stillTime := 500, w := 100, missLimit := 2, lockMargin := 1000,
    statusPeriod := 250 }

/-- The ZONE table's defaults (R51). -/
def ZoneTable.default : ZoneTable :=
  { idStart := 0, idEnd := 0, aStart := 0, bStart := 0, bEnd := 0, tagFloor := 40,
    requiredReads := 2 }

/-- The WIND table's defaults (R111). -/
def WindTable.default : WindTable :=
  { meanShift := 6, gustLength := 12, watchMean := 100, watchGust := 150, restrictMean := 140,
    restrictGust := 200, holdMean := 180, holdGust := 250, meanHyst := 10, gustHyst := 15,
    entryPersistence := 2, exitPersistence := 240, minFresh := 1 }

/-- The defaults of element 0 of the POLL table (R77). -/
def PollParams.default : PollParams :=
  { period := 250, replyTimeout := 10, staleAfter := 4, freshAfter := 2 }

/-- The UNSET poll list entry (R77). -/
def PollEntry.unsetEntry : PollEntry := { address := 0, kind := .unset, endMark := false }

/-- The unset element of the PASS table (R177). -/
def PassElement.unsetElement : PassElement :=
  { kind := 0, direction := 0, setupAllowed := false, serviceAllowed := false }

/-- The requested-speed record at a reset, with the age base at the ms counter (R1). -/
def RequestedSpeed.initial (ms : Word32) : RequestedSpeed :=
  { value := 0, armed := false, ageBase := ms, stale := false, source := .console }

/-- The output record at a reset (R13). -/
def OutputRecord.initial : OutputRecord :=
  { v := 0, setpoint := 0, brake := .apply, cf := 0, cr := 0, seq := 0 }

/-- The feedback record at a reset (R14). -/
def FeedbackRecord.initial : FeedbackRecord :=
  { state := .absent, speed := none, brake := .unknown, faultCode := 0, lastArrival := 0,
    timer := none }

/-- The tracker record at a reset (R27). -/
def Tracker.initial : Tracker :=
  { state := .searching, phaseKnown := false, m := 0, index := none, missStreak := 0,
    lastRim := none, direction := .still, candidate := none, candidateReads := 0, mismatch := none,
    travelHanded := false }

/-- The cycle state at a reset (R79), with the field line silent (R178). -/
def Poller.initial : Poller :=
  { phase := .idle, inFlight := none, pendingMark := false, timer := none, lastPoll := none }

/-- The two entries the hold list takes at a reset, with their first-entry time (R115, R136). -/
def resetHolds (time : Word32) : List HoldEntry :=
  [{ source := .position, cls := .creep, cause := 1, subject := none, time := time,
     latched := false, present := true },
   { source := .masts, cls := .creep, cause := 0, subject := none, time := time,
     latched := false, present := true }]

/-- The state right after power-on or RESETN (R165).  The spec gives every register its reset value;
`freeCount` and `pending` are the model's own. -/
def State.reset : State :=
  { ms := 0
    modeRec := { mode := .setup, checked := false, restartPending := false }
    ride := RideTable.default
    zone := ZoneTable.default
    windTable := WindTable.default
    pollParams := PollParams.default
    pollEntries := List.replicate 16 PollEntry.unsetEntry
    passList := List.replicate 8 PassElement.unsetElement
    profiles := List.replicate 8 (List.replicate 16 Step.clearStep)
    req := RequestedSpeed.initial 0
    expiries := { staleArmed := false, lossArmed := false }
    out := OutputRecord.initial
    fb := FeedbackRecord.initial
    still := { runStart := none, flag := false }
    tracker := Tracker.initial
    cabins := List.replicate 64 Cabin.notLoaded
    alightStation := StationRecord.initial
    boardStation := StationRecord.initial
    poller := Poller.initial
    results := List.replicate 16 ResultRecord.initial
    masts := List.replicate 4 Mast.initial
    wind := WindRecord.initial
    trace := WindTrace.initial
    holds := resetHolds 0
    causes := { door := false, platform := false, drive := false }
    snaps := SnapshotSlots.initial
    run := RunRecord.initial
    rx := ReceiveBuffers.initial
    consoleQueue := []
    driveQueue := DriveQueue.initial
    requests := []
    waitTag := none
    latched := LatchedSet.clear
    timers := { drive := 20, poll := 250, status := 250 }
    freeCount := 0
    pending := [] }

end Sys2Proof.Machine
end

