-- ==== Sys2Proof/Machine/Flags.lean ====
section
/-! DEFINITION. Flags: the latched event set (R185) and the flag bits of DRIVE ORDER and CABIN READ. -/

namespace Sys2Proof.Machine

/-- The set with the event SET; an event already SET stays so (R185). -/
def LatchedSet.with (l : LatchedSet) : Event → LatchedSet
  | .setpointClamped => { l with setpointClamped := true }
  | .countSaturated => { l with countSaturated := true }
  | .sampleSaturated => { l with sampleSaturated := true }
  | .strayMarker => { l with strayMarker := true }
  | .missedMarker => { l with missedMarker := true }
  | .identityFault => { l with identityFault := true }
  | .unknownTag => { l with unknownTag := true }
  | .pollOverrun => { l with pollOverrun := true }
  | .frameDiscarded => { l with frameDiscarded := true }
  | .queueFull => { l with queueFull := true }
  | .snapshotSuperseded => { l with snapshotSuperseded := true }
  | .traceWrapped => { l with traceWrapped := true }

/-- Whether the event is SET. -/
def LatchedSet.has (l : LatchedSet) : Event → Bool
  | .setpointClamped => l.setpointClamped
  | .countSaturated => l.countSaturated
  | .sampleSaturated => l.sampleSaturated
  | .strayMarker => l.strayMarker
  | .missedMarker => l.missedMarker
  | .identityFault => l.identityFault
  | .unknownTag => l.unknownTag
  | .pollOverrun => l.pollOverrun
  | .frameDiscarded => l.frameDiscarded
  | .queueFull => l.queueFull
  | .snapshotSuperseded => l.snapshotSuperseded
  | .traceWrapped => l.traceWrapped

/-- An occurrence of the event's cause (R185). -/
def latch (e : Event) (s : State) : State := { s with latched := s.latched.with e }

/-- An occurrence of the event's cause when the condition holds. -/
def latchIf (c : Bool) (e : Event) (s : State) : State := if c then latch e s else s

/-- A list of flags as the number that has flag k at bit k, bit 0 first. -/
def flagBits : List Bool → Nat
  | [] => 0
  | b :: bs => (if b then 1 else 0) + 2 * flagBits bs

/-- The latched events as the 2-byte field of the ride status record, bit 0 first; bits 12 to 15 are
0 (9.5). -/
def LatchedSet.bits (l : LatchedSet) : Nat :=
  flagBits [l.setpointClamped, l.countSaturated, l.sampleSaturated, l.strayMarker, l.missedMarker,
    l.identityFault, l.unknownTag, l.pollOverrun, l.frameDiscarded, l.queueFull,
    l.snapshotSuperseded, l.traceWrapped]

/-- The flags byte of a DRIVE ORDER: bit 0 STALE, bit 1 HOLD, bit 2 PROFILE, other bits 0 (9.5). -/
def orderFlags (stale hold profile : Bool) : Nat := flagBits [stale, hold, profile]

/-- The flags byte of a cabin in CABIN READ (R187). -/
def cabinFlags (c : Cabin) : Nat :=
  flagBits [c.inService, c.saturated, c.withheld.isSome, c.entryBarred, c.unlockedExit,
    c.window.isOpen, c.hasValid]

end Sys2Proof.Machine
end

