-- ==== Sys2Proof/Machine/Operands.lean ====
section
/-! DEFINITION. Operand forms: big-endian fields, the check (R169), the frame tests (R168, R170), the
frame payloads and the codes of 9.5, 10.1 and R116, and the fields of the table elements. -/

namespace Sys2Proof.Machine

/-! ### Big-endian fields (00_scope, Numbers and bytes) -/

/-- A number as one byte. -/
def byte (n : Nat) : Byte := BitVec.ofNat 8 n

/-- A number as a 2-byte big-endian field. -/
def be2 (n : Nat) : List Byte := [byte (n / 256), byte n]

/-- A number as a 4-byte big-endian field. -/
def be4 (n : Nat) : List Byte := [byte (n / 16777216), byte (n / 65536), byte (n / 256), byte n]

/-- A signed number as a 2-byte two's complement field. -/
def signed2 (z : Int) : List Byte := be2 (BitVec.ofInt 16 z).toNat

/-- The number a big-endian field holds. -/
def natOf (bs : List Byte) : Nat := bs.foldl (fun a b => a * 256 + b.toNat) 0

/-- A number of the width given, in bytes, read as two's complement. -/
def asSigned16 (n : Nat) : Int := (BitVec.ofNat 16 n).toInt

/-- The fields of the widths given, cut from a run of bytes in order. -/
def cutFields : List Nat → List Byte → List Nat
  | [], _ => []
  | w :: ws, bs => natOf (bs.take w) :: cutFields ws (bs.drop w)

/-- A field of the width given: the low `w` bytes of the number, high byte first. -/
def beField : Nat → Nat → List Byte
  | 0, _ => []
  | w + 1, n => byte (n / 256 ^ w) :: beField w n

/-- The fields laid out in order, each of its width. -/
def layFields : List Nat → List Nat → List Byte
  | w :: ws, n :: ns => beField w n ++ layFields ws ns
  | _, _ => []

/-- NONE is carried as 255 in a 1-byte field (9.5). -/
def orNone1 (o : Option Nat) : Byte := byte (o.getD 255)

/-- NONE or UNKNOWN is carried as 0xFFFF in a 2-byte field (9.5). -/
def orNone2 (o : Option Nat) : List Byte := be2 (o.getD 0xFFFF)

/-- A flag as one byte, 0 or 1. -/
def flag (b : Bool) : Byte := if b then 1 else 0

/-! ### The check and the frame (R168, R169, 9.5) -/

/-- One bit of the check (R169): shift left, and exclusive-or 0x1021 if the register's top bit and the
data bit differ. -/
def checkBit (reg : Word16) (bit : Bool) : Word16 :=
  if reg.msb != bit then (reg <<< 1) ^^^ 0x1021 else reg <<< 1

/-- One byte of the check, most significant bit first (R169). -/
def checkByte (reg : Word16) (b : Byte) : Word16 :=
  [7, 6, 5, 4, 3, 2, 1, 0].foldl (fun r k => checkBit r (b.getLsbD k)) reg

/-- The check over a run of bytes; the register starts at 0xFFFF (R169). -/
def check (bs : List Byte) : Word16 := bs.foldl checkByte 0xFFFF

/-- The bytes the check runs over: kind, address, length and payload. -/
def Frame.body (f : Frame) : List Byte :=
  f.kind :: f.address :: byte f.payload.length :: f.payload

/-- The characters of a frame: its body and its check, high byte first (9.5, R169). -/
def Frame.chars (f : Frame) : List Byte := f.body ++ be2 (check f.body).toNat

/-- The tests of R168 and R169 on a received frame: none when it is discarded. -/
def frameOf (raw : RawFrame) : Option Frame :=
  match raw.chars with
  | kind :: address :: length :: rest =>
    if raw.stopBitsValid ∧ 5 ≤ raw.chars.length ∧ raw.chars.length ≤ 65 ∧
        length.toNat + 5 = raw.chars.length ∧
        be2 (check (raw.chars.take (length.toNat + 3))).toNat = raw.chars.drop (length.toNat + 3)
    then some { kind := kind, address := address, payload := rest.take length.toNat }
    else none
  | _ => none

/-- The frame kinds (R170). -/
def kindSetpoint : Byte := 0x10
def kindRequest : Byte := 0x11
def kindRideStatus : Byte := 0x20
def kindReply : Byte := 0x21
def kindDriveOrder : Byte := 0x30
def kindFeedback : Byte := 0x31
def kindPoll : Byte := 0x50
def kindAnswer : Byte := 0x51

/-- The AUX kinds 0x60 to 0x6F (R170). -/
def isAuxKind (k : Byte) : Bool := 0x60 ≤ k.toNat && k.toNat ≤ 0x6F

/-- The payload of a FEEDBACK frame (9.5). -/
def feedbackPayload (f : FeedbackFields) : List Byte :=
  be2 f.speed.toNat ++ be4 f.rim.toNat ++ [flag f.marker] ++ be4 f.latch.toNat ++
    [flag f.released, f.status]

/-- The FEEDBACK frame of these fields, as it stood on the drive line. -/
def feedbackFrame (f : FeedbackFields) : Frame :=
  { kind := kindFeedback, address := 0, payload := feedbackPayload f }

/-- The fields of a FEEDBACK payload: none unless it is 13 bytes with flags 0 or 1 (R170). -/
def feedbackOf (p : List Byte) : Option FeedbackFields :=
  match cutFields [2, 4, 1, 4, 1, 1] p with
  | [speed, rim, marker, latch, brake, status] =>
    if p.length = 13 ∧ marker ≤ 1 ∧ brake ≤ 1 then
      some { speed := BitVec.ofNat 16 speed, rim := BitVec.ofNat 32 rim, marker := marker == 1,
             latch := BitVec.ofNat 32 latch, released := brake == 1, status := byte status }
    else none
  | _ => none

/-- Where a frame accepted on the console or drive line is delivered (R171). -/
inductive Delivery where
  | setpoint (speed : Word16)
  | feedback (f : FeedbackFields)
  | request (r : Request)
  | aux (f : Frame)
  deriving DecidableEq, Repr

/-- The tests of R170 on the console and drive lines: none when the frame is discarded. -/
def deliveryOf (line : Line) (f : Frame) : Option Delivery :=
  if f.address ≠ 0 then none
  else if isAuxKind f.kind ∧ line ≠ .field then some (.aux f)
  else match line with
    | .console =>
      if f.kind = kindSetpoint then
        if f.payload.length = 2 then some (.setpoint (BitVec.ofNat 16 (natOf f.payload))) else none
      else if f.kind = kindRequest then
        match f.payload with
        | code :: tag :: args => some (.request { code := code, tag := tag, args := args })
        | _ => none
      else none
    | .drive =>
      if f.kind = kindFeedback then (feedbackOf f.payload).map Delivery.feedback else none
    | .field => none

/-! ### Replies (R173, R181) -/

/-- The status codes of replies (10.1). -/
inductive Status where
  | ok
  | none
  | busy
  | mode
  | state
  | range
  | length
  | unknown
  | active
  | invalid
  | ended (e : EndStatus)
  deriving DecidableEq, Repr

/-- The code of an end status: 16 to 20 (10.1). -/
def EndStatus.code : EndStatus → Nat
  | .complete => 16
  | .aborted => 17
  | .held => 18
  | .timeout => 19
  | .fault => 20

/-- The code of a status (10.1). -/
def Status.code : Status → Nat
  | .ok => 0
  | .none => 1
  | .busy => 2
  | .mode => 3
  | .state => 4
  | .range => 5
  | .length => 6
  | .unknown => 7
  | .active => 8
  | .invalid => 9
  | .ended e => e.code

/-- One REPLY part: request code, tag, part number, last-part mark, status and data (9.5). -/
def replyPart (code tag : Byte) (part : Nat) (last : Bool) (st : Status) (data : List Byte) : Frame :=
  { kind := kindReply, address := 0,
    payload := [code, tag, byte part, flag last, byte st.code] ++ data }

/-- The parts of a reply from part number `part` on: at most 55 bytes of data each, the last part with
its mark SET (R173).  `fuel` bounds the number of parts that follow. -/
def replyPartsFrom (code tag : Byte) (st : Status) : Nat → Nat → List Byte → List Frame
  | 0, part, data => [replyPart code tag part true st data]
  | fuel + 1, part, data =>
    if data.length ≤ 55 then [replyPart code tag part true st data]
    else replyPart code tag part false st (data.take 55) ::
      replyPartsFrom code tag st fuel (part + 1) (data.drop 55)

/-- The parts of a reply (R173): one, two or three, since no reply exceeds 165 bytes of data. -/
def replyParts (code tag : Byte) (st : Status) (data : List Byte) : List Frame :=
  replyPartsFrom code tag st 2 0 data

/-! ### Codes of 9.5, R116 and R187 -/

def Mode.code : Mode → Nat
  | .setup => 1
  | .service => 2

def SpeedSource.code : SpeedSource → Nat
  | .console => 0
  | .profile => 1

def BrakeRequest.code : BrakeRequest → Nat
  | .apply => 0
  | .release => 1

def FeedbackState.code : FeedbackState → Nat
  | .absent => 0
  | .present => 1
  | .silent => 2

def BrakeState.code : BrakeState → Nat
  | .applied => 0
  | .released => 1
  | .unknown => 2

def TrackerState.code : TrackerState → Nat
  | .searching => 0
  | .locked => 1
  | .coasting => 2
  | .lost => 3

def WindLevel.code : WindLevel → Nat
  | .calm => 0
  | .watch => 1
  | .restrict => 2
  | .hold => 3

def Freshness.code : Freshness → Nat
  | .unknown => 0
  | .fresh => 1
  | .stale => 2

def PollResult.code : PollResult → Nat
  | .notPolled => 0
  | .answered => 1
  | .noAnswer => 2
  | .bad => 3

def StationKind.code : StationKind → Nat
  | .unset => 0
  | .mast => 1
  | .alight => 2
  | .board => 3
  | .tagReader => 4

/-- The kind of a poll list entry from its code (R77). -/
def stationKindOf : Nat → Option StationKind
  | 0 => some .unset
  | 1 => some .mast
  | 2 => some .alight
  | 3 => some .board
  | 4 => some .tagReader
  | _ => none

def HoldSource.code : HoldSource → Nat
  | .wind => 1
  | .masts => 2
  | .position => 3
  | .command => 4
  | .door => 5
  | .platform => 6
  | .drive => 7
  | .console => 8

/-- The hold source of a source code, 1 to 8 (R116, R129). -/
def holdSourceOf : Nat → Option HoldSource
  | 1 => some .wind
  | 2 => some .masts
  | 3 => some .position
  | 4 => some .command
  | 5 => some .door
  | 6 => some .platform
  | 7 => some .drive
  | 8 => some .console
  | _ => none

/-- The class code, 1 to 4, which is also the rising order of the classes (R115, R116). -/
def HoldClass.code : HoldClass → Nat
  | .noBoard => 1
  | .slow => 2
  | .creep => 3
  | .stop => 4

/-- The class of a class code, 1 to 4 (R116, R128). -/
def holdClassOf : Nat → Option HoldClass
  | 1 => some .noBoard
  | 2 => some .slow
  | 3 => some .creep
  | 4 => some .stop
  | _ => none

/-- The higher of two classes (R115, R118). -/
def HoldClass.higher (a b : HoldClass) : HoldClass := if a.code ≤ b.code then b else a

def CabinState.code : CabinState → Nat
  | .outOfService => 0
  | .unverified => 1
  | .empty => 2
  | .loaded => 3
  | .alighting => 4
  | .boarding => 5

def DoorState.code : DoorState → Nat
  | .none => 0
  | .open => 1
  | .closed => 2
  | .locked => 3
  | .fault => 4
  | .notReported => 5
  | .notAtPlatform => 6

/-- The door state a station reports by its code, 0 to 4 (9.5). -/
def doorStateOf : Nat → Option DoorState
  | 0 => some .none
  | 1 => some .open
  | 2 => some .closed
  | 3 => some .locked
  | 4 => some .fault
  | _ => none

def StepKind.code : StepKind → Nat
  | .clear => 0
  | .speed => 1
  | .dwell => 2
  | .cabinAt => 3
  | .allEmpty => 4
  | .revolution => 5
  | .windBelow => 6

/-- The condition kind of its code; 0 only in a clear step (R137). -/
def stepKindOf : Nat → Option StepKind
  | 0 => some .clear
  | 1 => some .speed
  | 2 => some .dwell
  | 3 => some .cabinAt
  | 4 => some .allEmpty
  | 5 => some .revolution
  | 6 => some .windBelow
  | _ => none

/-- The withheld reason of CABIN READ: 0 none, 1 IDENTITY, 2 POSITION (R187). -/
def withheldCode : Option WithheldReason → Nat
  | none => 0
  | some .identity => 1
  | some .position => 2

/-- The outcome and shift bytes of CABIN READ (R187). -/
def outcomeBytes : IdOutcome → List Byte
  | .none => [0, 0]
  | .matched => [1, 0]
  | .mismatch s => [2, byte s]

/-! ### Table elements (8.2) -/

/-- A table by its identity (8.2). -/
inductive TableId where
  | ride
  | zone
  | cabin
  | wind
  | mast
  | poll
  | pass
  | profile (n : Nat)
  deriving DecidableEq, Repr

/-- The table of a table identity (8.2). -/
def tableOf (id : Byte) : Option TableId :=
  match id.toNat with
  | 1 => some .ride
  | 2 => some .zone
  | 3 => some .cabin
  | 4 => some .wind
  | 5 => some .mast
  | 6 => some .poll
  | 7 => some .pass
  | n => if 16 ≤ n ∧ n ≤ 23 then some (.profile (n - 16)) else none

/-- The element count of a table (8.2). -/
def TableId.elements : TableId → Nat
  | .ride => 1
  | .zone => 1
  | .cabin => 64
  | .wind => 1
  | .mast => 4
  | .poll => 17
  | .pass => 8
  | .profile _ => 16

/-- The bytes of element `k` of a table (8.2). -/
def TableId.elementSize (t : TableId) (k : Nat) : Nat :=
  match t with
  | .ride => 35
  | .zone => 22
  | .cabin => 10
  | .wind => 22
  | .mast => 4
  | .poll => if k = 0 then 5 else 3
  | .pass => 4
  | .profile _ => 14

/-- The widths of the RIDE fields (R160). -/
def rideWidths : List Nat := [1, 2, 2, 2, 1, 2, 2, 2, 1, 1, 2, 1, 2, 2, 2, 1, 2, 2, 1, 2, 2]

/-- `n` lies in the closed range. -/
def within (lo n hi : Nat) : Bool := decide (lo ≤ n) && decide (n ≤ hi)

/-- The ranges of the RIDE table's fields, the loss time at or above the stale time (R160, R157). -/
def RideTable.inRange (r : RideTable) : Bool :=
  within 8 r.n 64 && within 2000 r.pitch 20000 && within 50 r.maxSpeed 600 &&
  within 0 r.reverseLimit 150 && within 10 r.creepSpeed 100 && within 20 r.restrictCeiling 600 &&
  within 10 r.platformSpeed 600 && within 0 r.doorSpeedLimit 600 && within 5 r.accel 200 &&
  within 5 r.decel 200 && within 50 r.holdDecel 500 && within 10 r.period 100 &&
  within 20 r.staleTime 500 && within r.staleTime r.lossTime 2000 &&
  within 20 r.feedbackTimeout 500 && within 1 r.stillBand 20 && within 100 r.stillTime 2000 &&
  within 10 r.w 500 && within 1 r.missLimit 4 && within 100 r.lockMargin 5000 &&
  within 100 r.statusPeriod 1000

/-- The RIDE element as bytes (R160). -/
def rideBytes (r : RideTable) : List Byte :=
  layFields rideWidths [r.n, r.pitch, r.maxSpeed, r.reverseLimit, r.creepSpeed, r.restrictCeiling,
    r.platformSpeed, r.doorSpeedLimit, r.accel, r.decel, r.holdDecel, r.period, r.staleTime,
    r.lossTime, r.feedbackTimeout, r.stillBand, r.stillTime, r.w, r.missLimit, r.lockMargin,
    r.statusPeriod]

/-- The RIDE element of 35 bytes: none when a field is out of range (R160). -/
def rideOf (bs : List Byte) : Option RideTable :=
  match cutFields rideWidths bs with
  | [n, pitch, maxSpeed, reverseLimit, creepSpeed, restrictCeiling, platformSpeed, doorSpeedLimit,
      accel, decel, holdDecel, period, staleTime, lossTime, feedbackTimeout, stillBand, stillTime, w,
      missLimit, lockMargin, statusPeriod] =>
    let r : RideTable := ⟨n, pitch, maxSpeed, reverseLimit, creepSpeed, restrictCeiling,
      platformSpeed, doorSpeedLimit, accel, decel, holdDecel, period, staleTime, lossTime,
      feedbackTimeout, stillBand, stillTime, w, missLimit, lockMargin, statusPeriod⟩
    if r.inRange then some r else none
  | _ => none

/-- The widths of the ZONE fields (R51). -/
def zoneWidths : List Nat := [4, 4, 4, 4, 4, 1, 1]

/-- The ranges of the ZONE table's fields (R51). -/
def ZoneTable.inRange (z : ZoneTable) : Bool :=
  within 0 z.idStart 1280000 && within 0 z.idEnd 1280000 && within 0 z.aStart 1280000 &&
  within 0 z.bStart 1280000 && within 0 z.bEnd 1280000 && within 0 z.tagFloor 255 &&
  within 1 z.requiredReads 4

def zoneBytes (z : ZoneTable) : List Byte :=
  layFields zoneWidths [z.idStart, z.idEnd, z.aStart, z.bStart, z.bEnd, z.tagFloor, z.requiredReads]

/-- The ZONE element of 22 bytes: none when a field is out of range (R51). -/
def zoneOf (bs : List Byte) : Option ZoneTable :=
  match cutFields zoneWidths bs with
  | [idStart, idEnd, aStart, bStart, bEnd, tagFloor, requiredReads] =>
    let z : ZoneTable := ⟨idStart, idEnd, aStart, bStart, bEnd, tagFloor, requiredReads⟩
    if z.inRange then some z else none
  | _ => none

/-- The configuration of a cabin as a CABIN element gives it (R49). -/
structure CabinConfig where
  tag : List Byte
  capacity : Nat
  inService : Bool
  deriving DecidableEq, Repr

/-- The CABIN element of 10 bytes: none when the capacity is 0 or above 40 or the mark is neither 0
nor 1 (R49). -/
def cabinOf (bs : List Byte) : Option CabinConfig :=
  match cutFields [1, 1] (bs.drop 8) with
  | [capacity, mark] =>
    if 1 ≤ capacity ∧ capacity ≤ 40 ∧ mark ≤ 1 then
      some { tag := bs.take 8, capacity := capacity, inService := mark == 1 }
    else none
  | _ => none

/-- The stored configuration of a cabin as a CABIN element (R49). -/
def cabinBytes (c : Cabin) : List Byte := c.tag ++ [byte c.capacity, flag c.inService]

/-- The widths of the WIND fields (R111). -/
def windWidths : List Nat := [1, 1, 2, 2, 2, 2, 2, 2, 2, 2, 1, 2, 1]

/-- The ranges of the WIND table's fields (R111). -/
def WindTable.inRange (t : WindTable) : Bool :=
  within 2 t.meanShift 10 && within 1 t.gustLength 16 && within 0 t.watchMean 1023 &&
  within 0 t.watchGust 1023 && within 0 t.restrictMean 1023 && within 0 t.restrictGust 1023 &&
  within 0 t.holdMean 1023 && within 0 t.holdGust 1023 && within 0 t.meanHyst 1023 &&
  within 0 t.gustHyst 1023 && within 1 t.entryPersistence 16 && within 1 t.exitPersistence 4800 &&
  within 1 t.minFresh 4

def windBytes (t : WindTable) : List Byte :=
  layFields windWidths [t.meanShift, t.gustLength, t.watchMean, t.watchGust, t.restrictMean,
    t.restrictGust, t.holdMean, t.holdGust, t.meanHyst, t.gustHyst, t.entryPersistence,
    t.exitPersistence, t.minFresh]

/-- The WIND element of 22 bytes: none when a field is out of range (R111). -/
def windOf (bs : List Byte) : Option WindTable :=
  match cutFields windWidths bs with
  | [meanShift, gustLength, watchMean, watchGust, restrictMean, restrictGust, holdMean, holdGust,
      meanHyst, gustHyst, entryPersistence, exitPersistence, minFresh] =>
    let t : WindTable := ⟨meanShift, gustLength, watchMean, watchGust, restrictMean, restrictGust,
      holdMean, holdGust, meanHyst, gustHyst, entryPersistence, exitPersistence, minFresh⟩
    if t.inRange then some t else none
  | _ => none

/-- The configuration of a mast record as a MAST element gives it (R93). -/
structure MastConfig where
  address : Nat
  factor : Nat
  halves : Bool
  deriving DecidableEq, Repr

/-- The MAST element of 4 bytes: none when a field is out of range (R93). -/
def mastOf (bs : List Byte) : Option MastConfig :=
  match cutFields [1, 2, 1] bs with
  | [address, factor, resolution] =>
    if address ≤ 30 ∧ 128 ≤ factor ∧ factor ≤ 512 ∧ resolution ≤ 1 then
      some { address := address, factor := factor, halves := resolution == 1 }
    else none
  | _ => none

def mastBytes (m : Mast) : List Byte :=
  layFields [1, 2, 1] [m.address, m.factor, if m.halves then 1 else 0]

/-- Element 0 of the POLL table, 5 bytes: none when a field is out of range (R77). -/
def pollParamsOf (bs : List Byte) : Option PollParams :=
  match cutFields [2, 1, 1, 1] bs with
  | [period, timeout, staleAfter, freshAfter] =>
    if (period = 125 ∨ period = 250 ∨ period = 500 ∨ period = 1000) ∧ 2 ≤ timeout ∧ timeout ≤ 50 ∧
        3 ≤ staleAfter ∧ staleAfter ≤ 10 ∧ 1 ≤ freshAfter ∧ freshAfter ≤ 4 then
      some { period := period, replyTimeout := timeout, staleAfter := staleAfter,
             freshAfter := freshAfter }
    else none
  | _ => none

def pollParamsBytes (p : PollParams) : List Byte :=
  layFields [2, 1, 1, 1] [p.period, p.replyTimeout, p.staleAfter, p.freshAfter]

/-- A poll list entry of 3 bytes: none when a field is out of range or exactly one of address and kind
is 0 (R77, R157). -/
def pollEntryOf (bs : List Byte) : Option PollEntry :=
  match cutFields [1, 1, 1] bs with
  | [address, kind, mark] =>
    match stationKindOf kind with
    | some k =>
      if address ≤ 30 ∧ mark ≤ 1 ∧ (address = 0 ↔ kind = 0) then
        some { address := address, kind := k, endMark := mark == 1 }
      else none
    | none => none
  | _ => none

def pollEntryBytes (e : PollEntry) : List Byte :=
  layFields [1, 1, 1] [e.address, e.kind.code, if e.endMark then 1 else 0]

/-- A PASS element of 4 bytes: none when a field is out of range or exactly one of kind and direction
is 0 (R177). -/
def passOf (bs : List Byte) : Option PassElement :=
  match cutFields [1, 1, 1, 1] bs with
  | [kind, direction, setup, service] =>
    if (kind = 0 ∨ (0x60 ≤ kind ∧ kind ≤ 0x6F)) ∧ direction ≤ 3 ∧ setup ≤ 1 ∧ service ≤ 1 ∧
        (kind = 0 ↔ direction = 0) then
      some { kind := kind, direction := direction, setupAllowed := setup == 1,
             serviceAllowed := service == 1 }
    else none
  | _ => none

def passBytes (e : PassElement) : List Byte :=
  layFields [1, 1, 1, 1] [e.kind, e.direction, if e.setupAllowed then 1 else 0,
    if e.serviceAllowed then 1 else 0]

/-- The widths of a profile step's fields (R137). -/
def stepWidths : List Nat := [2, 2, 1, 4, 4, 1]

/-- A profile step of 14 bytes: a clear step, or every field in its range (R137). -/
def stepOf (bs : List Byte) : Option Step :=
  match cutFields stepWidths bs with
  | [target, rate, kind, param, maxDuration, mark] =>
    match stepKindOf kind with
    | some k =>
      let t : Step := { target := asSigned16 target, rate := rate, kind := k, param := param,
                        maxDuration := maxDuration, last := mark == 1 }
      if t = Step.clearStep ∧ mark = 0 then some t
      else if -600 ≤ t.target ∧ t.target ≤ 600 ∧ 1 ≤ rate ∧ rate ≤ 500 ∧ k ≠ .clear ∧
          param ≤ 3600000 ∧ 100 ≤ maxDuration ∧ maxDuration ≤ 3600000 ∧ mark ≤ 1 then some t
      else none
    | none => none
  | _ => none

def stepBytes (t : Step) : List Byte :=
  signed2 t.target ++ layFields [2, 1, 4, 4, 1] [t.rate, t.kind.code, t.param, t.maxDuration,
    if t.last then 1 else 0]

end Sys2Proof.Machine
end

