-- ==== Sys2Proof/Machine/Ops.lean ====
section
/-! DEFINITION. The shared operations: the ms counter, the console queue, the end of a profile run,
snapshots, and the hold list with the effects of a STOP. -/

namespace Sys2Proof.Machine

/-! ### Time and numbers -/

/-- The ms counter value `n` ms from now. -/
def State.after (s : State) (n : Nat) : Word32 := s.ms + BitVec.ofNat 32 n

/-- The ms since a ms counter value, modulo 2^32 (R1). -/
def State.since (s : State) (t : Word32) : Nat := (s.ms - t).toNat

/-- The difference of two rim counts, a signed 32-bit number (R27). -/
def rimDiff (a b : Word32) : Int := (a - b).toInt

/-- A number clamped to a range. -/
def clamp (lo hi z : Int) : Int := max lo (min hi z)

/-! ### The console queue (R172, R174) -/

/-- The free places a request's reply may take (R172). -/
def State.freePlaces (s : State) : Nat :=
  16 - s.consoleQueue.length - (if s.waitTag.isSome then 1 else 0)

/-- Whether the console queue has ROOM for a RIDE STATUS, a forwarded FEEDBACK or an AUX frame: fewer
than 16 frames, or fewer than 15 while the pending profile-wait marker is set (R174). -/
def State.hasRoom (s : State) : Bool :=
  decide (s.consoleQueue.length < if s.waitTag.isSome then 15 else 16)

/-- Frames placed at the end of the console queue. -/
def queueFrames (fs : List Frame) (s : State) : State :=
  { s with consoleQueue := s.consoleQueue ++ fs }

/-- A reply placed in the console queue, every part in part order (R181). -/
def reply (code tag : Byte) (st : Status) (data : List Byte) (s : State) : State :=
  queueFrames (replyParts code tag st data) s

/-- A frame placed in the console queue if it has ROOM, and otherwise QUEUE_FULL latched (R174). -/
def queueOrFull (f : Frame) (s : State) : State :=
  if s.hasRoom then queueFrames [f] s else latch .queueFull s

/-! ### The end of a profile run (R150, R153) -/

/-- The request code of PROFILE RUN (10.1). -/
def codeProfileRun : Byte := 0x20

/-- The final reply of a waiting run: made with the tag of the pending profile-wait marker, which is
then cleared; nothing when no wait is outstanding (R153). -/
def finalReply (e : EndStatus) (s : State) : State :=
  match s.waitTag with
  | none => s
  | some tag =>
    { reply codeProfileRun tag (.ended e)
        [orNone1 s.run.profile, byte s.run.step, byte s.run.repeats] s with waitTag := none }

/-- The END of a run (R150): the run record goes IDLE with the end status, the speed source becomes
CONSOLE with value 0 and the armed flag CLEAR, and the final reply is made if one is waiting. -/
def endRun (e : EndStatus) (s : State) : State :=
  finalReply e
    { s with
      run := { s.run with running := false, finalTime := s.since s.run.stepStart,
                          dwellTimer := none, durationTimer := none, lastEnd := some e }
      req := { s.req with value := 0, armed := false, source := .console } }

/-! ### Snapshots (R132 to R134) -/

/-- The unread count (w − r) mod 4 (R133). -/
def SnapshotSlots.unread (k : SnapshotSlots) : Nat := (k.w - k.r).toNat

/-- The snapshot in the slot an index names: the index mod 2 (R133). -/
def SnapshotSlots.slot (k : SnapshotSlots) (i : BitVec 2) : Option Snapshot :=
  if i.getLsbD 0 then k.slot1 else k.slot0

/-- The slots with a snapshot written to the slot an index names (R133). -/
def SnapshotSlots.write (k : SnapshotSlots) (i : BitVec 2) (x : Snapshot) : SnapshotSlots :=
  if i.getLsbD 0 then { k with slot1 := some x } else { k with slot0 := some x }

/-- The snapshot that an entry added at STOP or raised to STOP captures (R132). -/
def snapshotOf (e : HoldEntry) (superseded : Bool) (s : State) : Snapshot :=
  { time := s.ms, source := e.source, cause := e.cause, subject := e.subject, cls := e.cls,
    setpoint := s.out.setpoint, speed := s.fb.speed, rim := s.tracker.lastRim,
    trackerState := s.tracker.state, index := s.tracker.index, level := s.wind.level,
    govMean := s.wind.govMean, govGust := s.wind.govGust, entries := s.holds.length,
    superseded := superseded }

/-- A capture: into slot w mod 2 with w going up by 1 while fewer than two are unread (R133), and over
the newer unread snapshot with SNAPSHOT_SUPERSEDED latched otherwise (R134). -/
def capture (e : HoldEntry) (s : State) : State :=
  if s.snaps.unread < 2 then
    { s with snaps := { s.snaps.write s.snaps.w (snapshotOf e false s) with w := s.snaps.w + 1 } }
  else
    latch .snapshotSuperseded
      { s with snaps := s.snaps.write (s.snaps.w - 1) (snapshotOf e true s) }

/-! ### The hold list (chapter 6) -/

/-- The entry of a source, if the list holds one (R115). -/
def State.entry (s : State) (src : HoldSource) : Option HoldEntry :=
  s.holds.find? (fun e => e.source == src)

/-- Whether the hold list holds an entry of class STOP. -/
def State.hasStop (s : State) : Bool := s.holds.any (fun e => e.cls == .stop)

/-- Whether a cause of a source is one of the latched forms of R116. -/
def latchedForm (src : HoldSource) (cause : Nat) : Bool :=
  match src with
  | .wind => false
  | .masts => false
  | .command => false
  | .position => cause == 3
  | .door => true
  | .platform => true
  | .drive => true
  | .console => true

/-- The cause-present flag an entry of a source carries (R117, R124): the kept state for DOOR,
PLATFORM and DRIVE, CLEAR for CONSOLE, SET for every other. -/
def presentFlag (src : HoldSource) (c : CauseStates) : Bool :=
  match src with
  | .door => c.door
  | .platform => c.platform
  | .drive => c.drive
  | .console => false
  | _ => true

/-- Every cabin in BOARDING has its entry-barred flag SET: the hold list has become nonempty (R62,
R117), or the board station's freshness has left FRESH (R62, R72). -/
def barBoarding (s : State) : State :=
  { s with cabins :=
      s.cabins.map fun c => if c.state = .boarding then { c with entryBarred := true } else c }

/-- The three effects of a STOP (R126), for the entry added or raised. -/
def stopEffects (e : HoldEntry) (s : State) : State :=
  capture e
    (if s.run.running then endRun .held { s with req := { s.req with armed := false } }
     else { s with req := { s.req with armed := false } })

/-- The effects of R126 when the entry has just come to class STOP. -/
def stopEffectsIf (c : Bool) (e : HoldEntry) (s : State) : State :=
  if c then stopEffects e s else s

/-- An entry added at the end of the list (R117). -/
def addEntry (e : HoldEntry) (s : State) : State :=
  stopEffectsIf (e.cls == .stop) e
    (if s.holds.isEmpty then barBoarding { s with holds := s.holds ++ [e] }
     else { s with holds := s.holds ++ [e] })

/-- An entry written over the entry of its source, in its place (R115). -/
def putEntry (e : HoldEntry) (s : State) : State :=
  { s with holds := s.holds.map fun h => if h.source = e.source then e else h }

/-- The form a cause report gives the entry of its source: a latched entry's class only rises (R118),
an automatic entry follows the report (R119), and a report of LOST turns POSITION into its latched
form (R120). -/
def reportedEntry (old : HoldEntry) (cause : Nat) (cls : HoldClass) (subject : Option Nat) :
    HoldEntry :=
  if old.latched then { old with cause := cause, subject := subject, cls := old.cls.higher cls }
  else { old with cause := cause, subject := subject, cls := cls,
                  latched := latchedForm old.source cause }

/-- A CAUSE REPORT (R117 to R120). -/
def causeReport (src : HoldSource) (cause : Nat) (cls : HoldClass) (subject : Option Nat)
    (s : State) : State :=
  match s.entry src with
  | none =>
    addEntry { source := src, cls := cls, cause := cause, subject := subject, time := s.ms,
               latched := latchedForm src cause, present := presentFlag src s.causes } s
  | some old =>
    let new := reportedEntry old cause cls subject
    stopEffectsIf (old.cls != .stop && new.cls == .stop) new (putEntry new s)

/-- The entry of a source REMOVED, the entries after it closing up (R121). -/
def removeEntry (src : HoldSource) (s : State) : State :=
  { s with holds := s.holds.filter fun h => h.source != src }

/-- An ABSENCE REPORT of an automatic source: its entry is removed; a latched entry stays (R119,
R45). -/
def absenceReport (src : HoldSource) (s : State) : State :=
  match s.entry src with
  | some e => if e.latched then s else removeEntry src s
  | none => s

/-- A TEST REPORT (R124): the three cause-present states, and the flags of the entries that carry
them. -/
def testReport (c : CauseStates) (s : State) : State :=
  { s with
    causes := c
    holds := s.holds.map fun h => { h with present := presentFlag h.source c } }

/-- The most severe class of the list, none for NONE (R122). -/
def State.mostSevere (s : State) : Option HoldClass :=
  s.holds.foldl (fun a h => some (match a with | none => h.cls | some c => c.higher h.cls)) none

end Sys2Proof.Machine
end

