-- ==== Sys2Proof/Machine/Profile.lean ====
section
/-! DEFINITION. The profile unit (chapter 7): profile lengths, the beginning and meeting of steps, and
the tests of step conditions. -/

namespace Sys2Proof.Machine

/-- The LENGTH of a profile: steps up to and including the first with its last-step mark SET; 0 when
no step carries the mark or step 0 is a clear step (R137). -/
def profileLength (steps : List Step) : Nat :=
  match steps with
  | [] => 0
  | first :: _ =>
    if first = Step.clearStep then 0
    else match steps.findIdx? (fun t => t.last) with
      | none => 0
      | some i => i + 1

/-- The steps of profile table `n` (R137). -/
def State.profileSteps (s : State) (n : Nat) : List Step := s.profiles.getD n []

/-- The steps of the profile the run record names. -/
def State.runSteps (s : State) : List Step :=
  match s.run.profile with
  | none => []
  | some n => s.profileSteps n

/-- The current step of the run record. -/
def State.currentStep (s : State) : Step := s.runSteps.getD s.run.step Step.clearStep

/-- Whether the parameter of a step is in the range its kind allows at commit (R138, check 10 of
R162).  A clear step is not allowed. -/
def Step.paramAllowed (t : Step) : Bool :=
  match t.kind with
  | .clear => false
  | .speed => t.param == 0
  | .dwell => within 1 t.param 3600000
  | .cabinAt => decide (t.param / 8 ≤ 63) && within 1 (t.param % 8) 5
  | .allEmpty => t.param == 0
  | .revolution => t.param == 0
  | .windBelow => decide (t.param ≤ 3)

/-- The ALL_EMPTY condition: of cabins 0 to N − 1 none is LOADED or UNVERIFIED, and none in ALIGHTING
or BOARDING has a count above 0 (R138, R146). -/
def State.allEmpty (s : State) : Bool :=
  (s.cabins.take s.ride.n).all fun c =>
    match c.state with
    | .loaded => false
    | .unverified => false
    | .alighting => c.count == 0
    | .boarding => c.count == 0
    | .empty => true
    | .outOfService => true

/-- Whether a CABIN_AT step's cabin is at or above N or OUT_OF_SERVICE (R142, R152). -/
def State.cabinAtFails (s : State) (t : Step) : Bool :=
  t.kind == .cabinAt &&
    (decide (s.ride.n ≤ t.param / 8) ||
      (s.cabins.getD (t.param / 8) Cabin.notLoaded).state == .outOfService)

/-- The run record as a step begins (R142, 1 and 2): its start time, travel 0, no order yet, the
duration timer started, and the dwell timer started for a DWELL step and stopped otherwise. -/
def startStep (s : State) : State :=
  { s with run :=
      { s.run with
        stepStart := s.ms
        travel := 0
        ordersInStep := false
        durationTimer := some (s.after s.currentStep.maxDuration)
        dwellTimer :=
          if s.currentStep.kind = .dwell then some (s.after s.currentStep.param) else none
        begunNow := true } }

/-- Where a met step leads (R148): the next step, step 0 of the next pass, or none for the end of the
run. -/
def nextStep (s : State) : Option State :=
  if s.run.step + 1 < profileLength s.runSteps then
    some { s with run := { s.run with step := s.run.step + 1 } }
  else if 0 < s.run.repeats then
    some { s with run := { s.run with repeats := s.run.repeats - 1, step := 0 } }
  else none

/-- A step BEGINS (R142).  A CABIN_AT step whose cabin fails ends the run with FAULT; an ALL_EMPTY step
met at once leads on in the same event.  `fuel` bounds the steps still to come. -/
def beginStep : Nat → State → State
  | 0, s => startStep s
  | fuel + 1, s =>
    if (startStep s).cabinAtFails (startStep s).currentStep then endRun .fault (startStep s)
    else if (startStep s).currentStep.kind == .allEmpty && (startStep s).allEmpty then
      match nextStep (startStep s) with
      | none => endRun .complete (startStep s)
      | some s' => beginStep fuel s'
    else startStep s

/-- A bound on the steps a run can still begin: 16 for the current pass and for each repeat. -/
def State.stepFuel (s : State) : Nat := 16 * s.run.repeats + 16

/-- The current step's condition is MET (R148). -/
def stepMet (s : State) : State :=
  match nextStep s with
  | none => endRun .complete s
  | some s' => beginStep s.stepFuel s'

/-- A change of a cabin's state reported to the profile unit: an ALL_EMPTY step is tested (R146). -/
def cabinChanged (s : State) : State :=
  if s.run.running && s.currentStep.kind == .allEmpty && s.allEmpty then stepMet s else s

/-- The report of a cabin taken out of service: a CABIN_AT step of that cabin ends the run with FAULT,
an ALL_EMPTY step is tested (R146). -/
def cabinTakenOut (k : Nat) (s : State) : State :=
  if s.run.running && s.currentStep.kind == .cabinAt && s.currentStep.param / 8 == k then
    endRun .fault s
  else cabinChanged s

/-- A platform point a cabin crosses (R51). -/
inductive Point where
  | idStart
  | idEnd
  | aStart
  | bStart
  | lock
  | bEnd
  deriving DecidableEq, Repr

/-- The point code of a CABIN_AT parameter; id_end has none, and no crossing of it is handed to the
profile unit (R138, R53). -/
def Point.code : Point → Option Nat
  | .idStart => some 1
  | .aStart => some 2
  | .bStart => some 3
  | .lock => some 4
  | .bEnd => some 5
  | .idEnd => none

/-- The limited target of the current step: its target clamped to the ceilings of the last order
(R144). -/
def State.limitedTarget (s : State) : Int :=
  clamp (-(s.out.cr : Int)) s.out.cf s.currentStep.target

/-- The SPEED condition at a FEEDBACK with this measured speed (R144). -/
def State.speedMet (s : State) (speed : Int) : Bool :=
  s.run.ordersInStep && decide (s.out.v = 1000 * s.limitedTarget) &&
    decide ((speed - s.out.setpoint).natAbs ≤ s.ride.stillBand)

/-- Whether the current step's condition is met by a FEEDBACK with this measured speed and these
crossings (R144). -/
def State.feedbackMeets (s : State) (speed : Int) (crossed : List (Nat × Point)) : Bool :=
  match s.currentStep.kind with
  | .speed => s.speedMet speed
  | .cabinAt =>
    crossed.any fun x => x.1 == s.currentStep.param / 8 && x.2.code == some (s.currentStep.param % 8)
  | .revolution => decide ((s.ride.circumference : Int) ≤ s.run.travel.toInt)
  | _ => false

/-- The profile unit's turn at a FEEDBACK (R144): the count difference joins the step travel, and the
condition of a step that began before the frame is tested. -/
def profileFeedback (diff : Int) (speed : Int) (crossed : List (Nat × Point)) (s : State) : State :=
  let s1 := { s with run := { s.run with travel := s.run.travel + BitVec.ofInt 32 diff } }
  if s1.run.running && !s1.run.begunNow && s1.feedbackMeets speed crossed then stepMet s1 else s1

/-- The profile unit's turn at an end-of-cycle event: a WIND_BELOW step is met when the level is at or
below the step's (R147). -/
def profileCycleEnd (s : State) : State :=
  if s.run.running && s.currentStep.kind == .windBelow &&
      decide (s.wind.level.code ≤ s.currentStep.param) then stepMet s else s

end Sys2Proof.Machine
end

