-- ==== Sys2Proof/Machine/Platform.lean ====
section
/-! DEFINITION. The boarding controller's records (chapter 3): totals, counts, conversion, the platform
stations, the cause-present tests, and the arguments of a platform POLL. -/

namespace Sys2Proof.Machine

/-! ### Cabins and counts -/

/-- Cabin `k` of the cabin table. -/
def State.cabin (s : State) (k : Nat) : Cabin := s.cabins.getD k Cabin.notLoaded

/-- A change of cabin `k`'s record. -/
def modifyCabin (k : Nat) (f : Cabin → Cabin) (s : State) : State :=
  { s with cabins := s.cabins.modify k f }

/-- The RIDER TOTAL: the sum of the counts of all 64 records (R48). -/
def State.riderTotal (s : State) : Nat := (s.cabins.map fun c => c.count).sum

/-- The UNVERIFIED TOTAL: the sum of the counts of the records in state UNVERIFIED (R48). -/
def State.unverifiedTotal (s : State) : Nat :=
  ((s.cabins.filter fun c => c.state == .unverified).map fun c => c.count).sum

/-- The number of the first cabin of a list whose state is the one given, counting from `k`. -/
def cabinIn (st : CabinState) : Nat → List Cabin → Option Nat
  | _, [] => none
  | k, c :: cs => if c.state = st then some k else cabinIn st (k + 1) cs

/-- The cabin in ALIGHTING, or none (R65, R67). -/
def State.alightingCabin (s : State) : Option Nat := cabinIn .alighting 0 s.cabins

/-- The cabin in BOARDING, or none (R65, R67). -/
def State.boardingCabin (s : State) : Option Nat := cabinIn .boarding 0 s.cabins

/-- Whether a cabin state is one of a platform pass: ALIGHTING or BOARDING. -/
def CabinState.onPlatform : CabinState → Bool
  | .alighting => true
  | .boarding => true
  | _ => false

/-- The PLATFORM IS OCCUPIED: some cabin is in ALIGHTING or BOARDING (R7). -/
def State.occupied (s : State) : Bool := s.cabins.any fun c => c.state.onPlatform

/-- A count written to a cabin: cut to the capacity, the count-saturated flag following (R48). -/
def Cabin.withCount (c : Cabin) (n : Nat) : Cabin :=
  { c with count := min n c.capacity, saturated := decide (c.capacity < n) }

/-- EMPTY for count 0 and LOADED above (R64, R75). -/
def confirmedState (count : Nat) : CabinState := if count = 0 then .empty else .loaded

/-! ### Conversion (R46, R54) -/

/-- A cabin as a conversion leaves it (R54): a platform cabin becomes UNVERIFIED and withheld for
POSITION, and every OPEN window closes without an outcome. -/
def Cabin.converted (ms : Word32) (c : Cabin) : Cabin :=
  if c.state.onPlatform then
    { c with
      state := .unverified
      withheld := some .position
      door := .notAtPlatform
      hasValid := false
      zoneCount := 0
      entryBarred := false
      exitTime := ms
      window := IdWindow.closed }
  else { c with window := IdWindow.closed }

/-- The CONVERSION of R54, with the change of state reported to the profile unit (R53). -/
def convert (s : State) : State :=
  let s1 := { s with cabins := s.cabins.map (Cabin.converted s.ms) }
  if s.occupied then cabinChanged s1 else s1

/-! ### The walked list and the platform stations (R66, R77, R78) -/

/-- The WALKED LIST of a poll list: entries up to and including the first with its end mark SET; empty
when none has it (R77). -/
def walkedList (es : List PollEntry) : List PollEntry :=
  match es.findIdx? (fun e => e.endMark) with
  | none => []
  | some i => es.take (i + 1)

/-- The walked list in use. -/
def State.walked (s : State) : List PollEntry := walkedList s.pollEntries

/-- The entry that gives a platform station its freshness: the first of its kind in the walked list
(R66, R78). -/
def sourceOf (kind : StationKind) (es : List PollEntry) : Option Nat :=
  (walkedList es).findIdx? fun e => e.kind == kind

/-- The entry that gives a mast record its freshness: the first MAST entry of the walked list whose
address is the record's (R78); an absent record has none (R93). -/
def mastSourceOf (address : Nat) (es : List PollEntry) : Option Nat :=
  if address = 0 then none
  else (walkedList es).findIdx? fun e => e.kind == .mast && e.address == address

/-- The station address of a poll list entry. -/
def State.addressOf (s : State) (i : Nat) : Nat :=
  (s.pollEntries.getD i PollEntry.unsetEntry).address

/-- One of the two platform stations. -/
inductive Station where
  | alight
  | board
  deriving DecidableEq, Repr

def Station.kind : Station → StationKind
  | .alight => .alight
  | .board => .board

/-- The cabin state of the station's zone (R69). -/
def Station.zone : Station → CabinState
  | .alight => .alighting
  | .board => .boarding

/-- The station record (R66). -/
def State.station (s : State) : Station → StationRecord
  | .alight => s.alightStation
  | .board => s.boardStation

/-- The station record written. -/
def writeStation (p : Station) (r : StationRecord) (s : State) : State :=
  match p with
  | .alight => { s with alightStation := r }
  | .board => { s with boardStation := r }

/-- The cabin in the station's zone, or none. -/
def State.zoneCabin (s : State) (p : Station) : Option Nat := cabinIn p.zone 0 s.cabins

/-- The poll list entry that is the station's, or none (R66). -/
def State.stationEntry (s : State) (p : Station) : Option Nat := sourceOf p.kind s.pollEntries

/-- The station's address as the subject of a PLATFORM cause (R116), none if it has no entry. -/
def State.stationAddress (s : State) (p : Station) : Option Nat :=
  (s.stationEntry p).map s.addressOf

/-! ### The cause-present tests (R74, R17, R124) -/

/-- Whether a cabin keeps the DOOR cause present (R74). -/
def doorCausePresent (alight board : Freshness) (c : Cabin) : Bool :=
  c.unlockedExit ||
  match c.state with
  | .alighting => c.door != .locked || alight != .fresh
  | .boarding => c.door != .locked || board != .fresh
  | _ => false

/-- The DOOR test (R74).  A kept unlocked-exit mark counts in all 64 records, also of a cabin numbered N
or above (log entry 29). -/
def State.doorTest (s : State) : Bool :=
  s.cabins.any (doorCausePresent s.alightStation.freshness s.boardStation.freshness)

/-- The PLATFORM test: a stop button PRESSED or a platform station STALE (R74). -/
def State.platformTest (s : State) : Bool :=
  s.alightStation.pressed || s.boardStation.pressed ||
  s.alightStation.freshness == .stale || s.boardStation.freshness == .stale

/-- The DRIVE test: feedback SILENT or drive status FAULT (R17). -/
def State.driveTest (s : State) : Bool := s.fb.state == .silent || s.fb.faultCode != 0

/-- The three tests as they stand. -/
def State.tests (s : State) : CauseStates :=
  { door := s.doorTest, platform := s.platformTest, drive := s.driveTest }

/-- The owning blocks report the result of every test that has changed (R74, R124). -/
def retest (s : State) : State := testReport s.tests s

/-! ### Platform causes (R63, R64, R70 to R72) -/

/-- A DOOR cause naming a cabin: 1 LATE_LOCK, 2 UNLOCKED_EXIT, 3 DOOR_FAULT, 4 STATION_STALE (R116). -/
def doorCause (cause k : Nat) (s : State) : State := causeReport .door cause .stop (some k) s

/-- A PLATFORM cause naming a station: 1 BUTTON, 2 STATION_STALE (R116). -/
def platformCause (cause : Nat) (p : Station) (s : State) : State :=
  causeReport .platform cause .stop (s.stationAddress p) s

/-- A platform station gone STALE (R72): the PLATFORM cause, then the DOOR cause if its zone holds a
cabin. -/
def stationStale (p : Station) (s : State) : State :=
  match s.zoneCabin p with
  | none => platformCause 2 p s
  | some k => doorCause 4 k (platformCause 2 p s)

/-- A freshness reported for a platform station: written to its record; a change to STALE acts under
R72, and a board station that leaves FRESH or goes STALE bars the cabin in BOARDING (R62, R72, R88). -/
def stationFreshness (p : Station) (f : Freshness) (s : State) : State :=
  if (s.station p).freshness = f then s
  else
    let s1 := writeStation p { s.station p with freshness := f } s
    let s2 := if p = .board ∧ ((s.station p).freshness = .fresh ∨ f = .stale) then barBoarding s1
              else s1
    retest (if f = .stale then stationStale p s2 else s2)

/-! ### The arguments of a platform POLL (R67, R68) -/

/-- Whether the last measured speed is known and within the door speed limit (R68). -/
def State.doorSpeedOk (s : State) : Bool :=
  match s.fb.speed with
  | none => false
  | some v => decide (v.natAbs ≤ s.ride.doorSpeedLimit)

/-- The DOOR RELEASE argument for the cabin shown (R68). -/
def State.doorRelease (s : State) (shown : Option Nat) : Bool :=
  match shown with
  | none => false
  | some k =>
    s.modeRec.mode == .service && s.tracker.state == .locked && s.fb.state == .present &&
      s.doorSpeedOk && (s.cabin k).withheld.isNone

/-- The ENTRY-BARRED LAMP argument for the cabin shown (R67). -/
def State.barredLamp (s : State) (p : Station) (shown : Option Nat) : Bool :=
  match p, shown with
  | .board, some k => (s.cabin k).entryBarred
  | _, _ => false

/-! ### Platform answers (R69 to R71) -/

/-- The content of a platform station's ANSWER (9.5). -/
structure StationAnswer where
  /-- cabin shown echoed, 255 for NONE -/
  echo : Nat
  present : Bool
  door : DoorState
  count : Nat
  pressed : Bool
  deriving DecidableEq, Repr

/-- Whether an answer is a VALID ANSWER for cabin `c` (R69). -/
def State.validAnswer (s : State) (p : Station) (a : StationAnswer) (c : Nat) : Bool :=
  (s.station p).shown == some c && a.echo == c && (s.cabin c).state == p.zone && a.present

/-- A valid answer applied to cabin `c` (R69), with the DOOR_FAULT cause of R70. -/
def applyAnswer (a : StationAnswer) (c : Nat) (s : State) : State :=
  let s1 := modifyCabin c
    (fun x => { x with door := a.door, zoneCount := a.count, hasValid := true }) s
  if a.door = .fault then doorCause 3 c s1 else s1

/-- The stop button of an ANSWERED platform answer (R71).  Each PRESSED answer reports BUTTON, so it
takes back an entry that another cause or station has meanwhile taken (log entry 27). -/
def takeButton (p : Station) (pressed : Bool) (s : State) : State :=
  let s1 := writeStation p { s.station p with pressed := pressed } s
  if pressed then platformCause 1 p s1 else s1

/-- A platform station's ANSWER taken by the boarding controller (R69 to R71).  Where one answer gives
both causes, DOOR is reported before PLATFORM (log entry 28). -/
def takeStationAnswer (p : Station) (a : StationAnswer) (s : State) : State :=
  let s1 := if s.validAnswer p a a.echo then applyAnswer a a.echo s else s
  retest (takeButton p a.pressed s1)

end Sys2Proof.Machine
end

