-- ==== Sys2Proof/Machine/Tracking.lean ====
section
/-! DEFINITION. The rim tracker (chapter 2): cabin travel, marker latches, missed markers, index
assignment, window outcomes, and the reports of its state. -/

namespace Sys2Proof.Machine

/-- A cabin number counted round the rim. -/
def roundRim (k : Int) (n : Nat) : Nat := (k % (n : Int)).toNat

/-- Whether cabin travel is known: phase known, an index, and a rim count (R28). -/
def Tracker.travelKnown (t : Tracker) : Bool :=
  t.phaseKnown && t.index.isSome && t.lastRim.isSome

/-- The CABIN TRAVEL of cabin `k`, or none when travel is unknown (R28). -/
def Tracker.travel (t : Tracker) (r : RideTable) (k : Nat) : Option Nat :=
  match t.phaseKnown, t.index, t.lastRim with
  | true, some i, some count =>
    some ((rimDiff count t.m + ((roundRim (i - k) r.n * r.pitch : Nat) : Int))
      % (r.circumference : Int)).toNat
  | _, _, _ => none

/-- The tracker SEARCHING with the phase unknown (R43, R44, R45): I NONE, miss streak 0, candidate and
mismatch memory NONE. -/
def Tracker.searchAnew (t : Tracker) : Tracker :=
  { t with state := .searching, phaseKnown := false, index := none, missStreak := 0,
           candidate := none, candidateReads := 0, mismatch := none, travelHanded := false }

/-- The tracker LOST (R37). -/
def Tracker.becomeLost (t : Tracker) : Tracker :=
  { t with state := .lost, phaseKnown := false, index := none, missStreak := 0,
           candidate := none, candidateReads := 0, mismatch := none, travelHanded := false }

/-! ### Work at each FEEDBACK (R29) -/

/-- The frame's count difference, none when the last rim count is NONE (R30). -/
def Tracker.countDiff (t : Tracker) (rim : Word32) : Option Int :=
  t.lastRim.map fun c => rimDiff rim c

/-- The direction a count difference sets (R30). -/
def directionOf : Option Int → Direction
  | none => .still
  | some d => if 0 < d then .forward else if d < 0 then .reverse else .still

/-- The resumption test of a frame after feedback silence (R43). -/
def Tracker.resumed (t : Tracker) (r : RideTable) (diff : Option Int) : Tracker :=
  match diff with
  | none => t
  | some d => if r.w < d.natAbs ∧ t.state ≠ .lost then t.searchAnew else t

/-- A valid crossing shifts the index by `by1` (+1 forward, −1 reverse) and M becomes `m` (R32, R33):
the streak becomes 0, COASTING becomes LOCKED, and a SEARCHING tracker's candidate shifts with M. -/
def Tracker.crossing (t : Tracker) (n : Nat) (by1 : Int) (m : Word32) : Tracker :=
  match t.state with
  | .locked =>
    { t with index := t.index.map (fun i => roundRim (i + by1) n), m := m, missStreak := 0 }
  | .coasting =>
    { t with index := t.index.map (fun i => roundRim (i + by1) n), m := m, missStreak := 0,
             state := .locked, mismatch := none }
  | .searching => { t with m := m, candidate := t.candidate.map (fun j => roundRim (j + by1) n) }
  | .lost => t

/-- The classification of a marker latch (R31 to R34); true with it for a STRAY. -/
def Tracker.takeLatch (t : Tracker) (r : RideTable) (latch : Word32) : Tracker × Bool :=
  if t.phaseKnown then
    if (rimDiff latch t.m - r.pitch).natAbs ≤ r.w then (t.crossing r.n 1 latch, false)
    else if (rimDiff latch t.m).natAbs ≤ r.w then
      if t.direction = .reverse then
        (t.crossing r.n (-1) (t.m - BitVec.ofNat 32 r.pitch), false)
      else (t, false)
    else (t, true)
  else if t.state = .searching then ({ t with m := latch, phaseKnown := true }, false)
  else (t, false)

/-- A synthetic crossing (`by1` = 1) or backing (`by1` = −1), which makes M the count given: COASTING, or
LOST when the miss streak rises above the miss limit (R35 to R37). -/
def Tracker.synthetic (t : Tracker) (r : RideTable) (by1 : Int) (m : Word32) : Tracker :=
  if r.missLimit < t.missStreak + 1 then { t with m := m }.becomeLost
  else { t with index := t.index.map (fun i => roundRim (i + by1) r.n), m := m,
                missStreak := t.missStreak + 1, state := .coasting, mismatch := none }

/-- The missed-marker tests of LOCKED and COASTING, applied again while they find a miss (R35, R36);
true with it when a marker was missed.  `fuel` bounds the misses of one frame. -/
def Tracker.missedMarkers (r : RideTable) (rim : Word32) : Nat → Tracker → Tracker × Bool
  | 0, t => (t, false)
  | fuel + 1, t =>
    if t.state = .locked ∨ t.state = .coasting then
      if (r.pitch : Int) + r.w < rimDiff rim t.m then
        ((Tracker.missedMarkers r rim fuel
          (t.synthetic r 1 (t.m + BitVec.ofNat 32 r.pitch))).1, true)
      else if rimDiff rim t.m < -(r.w : Int) then
        ((Tracker.missedMarkers r rim fuel
          (t.synthetic r (-1) (t.m - BitVec.ofNat 32 r.pitch))).1, true)
      else (t, false)
    else (t, false)

/-- The drift test of SEARCHING with the phase known (R38); true with it when the phase was lost. -/
def Tracker.drift (t : Tracker) (r : RideTable) (rim : Word32) : Tracker × Bool :=
  if t.state = .searching ∧ t.phaseKnown ∧
      ((r.pitch : Int) + r.w < rimDiff rim t.m ∨ rimDiff rim t.m < -(r.w : Int)) then
    ({ t with phaseKnown := false, candidate := none, candidateReads := 0 }, true)
  else (t, false)

/-- Step 4 of R29: the missed-marker tests in LOCKED and COASTING, the drift test in SEARCHING.  One
more miss than the miss limit makes the tracker LOST (R37), so `missLimit + 1` bounds the misses. -/
def Tracker.missTests (t : Tracker) (r : RideTable) (rim : Word32) : Tracker × Bool :=
  match t.state with
  | .searching => t.drift r rim
  | _ => Tracker.missedMarkers r rim (r.missLimit + 1) t

/-- The tracker after steps 1 to 3 of R29, with whether the latch was a STRAY. -/
def Tracker.upToLatch (t : Tracker) (r : RideTable) (resumption : Bool) (f : FeedbackFields) :
    Tracker × Bool :=
  let diff := t.countDiff f.rim
  let t1 := { t with direction := directionOf diff }
  let t2 := if resumption then t1.resumed r diff else t1
  if f.marker then t2.takeLatch r f.latch else (t2, false)

/-- The tracker's record after a FEEDBACK (R29, 1 to 5), with whether the latch was a STRAY and whether
a marker was missed or the phase lost. -/
def Tracker.afterFrame (t : Tracker) (r : RideTable) (resumption : Bool) (f : FeedbackFields) :
    Tracker × Bool × Bool :=
  let a := t.upToLatch r resumption f
  let b := a.1.missTests r f.rim
  let t' := { b.1 with lastRim := some f.rim }
  ({ t' with travelHanded := t'.travelKnown }, a.2, b.2)

/-! ### Reports of the tracker state (R45, R46) -/

/-- The tracker reports its state to the hold manager (R45) and to the boarding controller, which
converts the platform cabins in SEARCHING and LOST (R46, R54). -/
def reportTracker (s : State) : State :=
  match s.tracker.state with
  | .searching => convert (causeReport .position 1 .creep none s)
  | .coasting => causeReport .position 2 .creep none s
  | .locked => absenceReport .position s
  | .lost => convert (causeReport .position 3 .stop none s)

/-- A new tracker record, reported if its state has changed. -/
def setTracker (t : Tracker) (s : State) : State :=
  if t.state = s.tracker.state then { s with tracker := t }
  else reportTracker { s with tracker := t }

/-- The rim tracker's turn at a FEEDBACK (R29). -/
def trackFeedback (resumption : Bool) (f : FeedbackFields) (s : State) : State :=
  let x := s.tracker.afterFrame s.ride resumption f
  setTracker x.1 (latchIf x.2.2 .missedMarker (latchIf x.2.1 .strayMarker s))

/-! ### Index assignment (R39, R40) -/

/-- Whether the ZONE offsets open ID windows: a window not empty, within C and no longer than the pitch
(R51; in SERVICE commit check 3 makes it so). -/
def windowsOpen (z : ZoneTable) (r : RideTable) : Bool :=
  decide (z.idStart < z.idEnd) && decide (z.idEnd ≤ r.circumference) &&
    decide (z.idEnd - z.idStart ≤ r.pitch)

/-- The integer m for which x + m × pitch lies in the ID window, if there is one (R39). -/
def windowShift (x : Int) (pitch : Nat) (z : ZoneTable) : Option Int :=
  let m := -((x - z.idStart) / (pitch : Int))
  if x + m * pitch < z.idEnd then some m else none

/-- The cabin a read of cabin `j` proposes as the index, if the tracker takes the read (R39). -/
def State.proposal (s : State) (j : Nat) : Option Nat :=
  if s.tracker.phaseKnown && s.fb.state == .present && within 8 s.ride.n 64 &&
      windowsOpen s.zone s.ride then
    match s.tracker.lastRim with
    | none => none
    | some c =>
      (windowShift (rimDiff c s.tracker.m) s.ride.pitch s.zone).map fun m => roundRim (j + m) s.ride.n
  else none

/-- The tracker with the index assigned (R40). -/
def Tracker.assigned (t : Tracker) (i : Nat) : Tracker :=
  { t with state := .locked, index := some i, missStreak := 0, candidate := none,
           candidateReads := 0, mismatch := none }

/-- A proposed index joins the candidate's reads, or becomes the candidate; at the required reads the
index is assigned (R40). -/
def Tracker.propose (t : Tracker) (required i : Nat) : Tracker :=
  let reads := if t.candidate = some i then t.candidateReads + 1 else 1
  if required ≤ reads then t.assigned i
  else { t with candidate := some i, candidateReads := reads }

/-- A tag read naming cabin `j` taken by the SEARCHING tracker (R39, R40). -/
def searchRead (j : Nat) (s : State) : State :=
  match s.proposal j with
  | none => s
  | some i => setTracker (s.tracker.propose s.zone.requiredReads i) s

/-! ### Window outcomes (R41, R42) -/

/-- The tracker SEARCHING with the phase kept (R41). -/
def Tracker.dropIndex (t : Tracker) : Tracker :=
  { t with state := .searching, index := none, candidate := none, candidateReads := 0,
           missStreak := 0, mismatch := none, travelHanded := false }

/-- A window outcome in LOCKED (R41). -/
def Tracker.lockedOutcome (t : Tracker) : IdOutcome → Tracker
  | .mismatch sh =>
    if t.mismatch = some sh then t.dropIndex else { t with mismatch := some sh }
  | _ => { t with mismatch := none }

/-- The tracker resynchronised by a shift (R42). -/
def Tracker.resynchronised (t : Tracker) (n shift : Nat) : Tracker :=
  { t with index := t.index.map (fun i => (i + shift) % n), missStreak := 0 }

/-- A window outcome handed to the rim tracker (R41 in LOCKED, R42 in COASTING); a resynchronisation
with a nonzero shift converts the platform cabins (R46). -/
def takeOutcome (o : IdOutcome) (s : State) : State :=
  match s.tracker.state with
  | .locked => setTracker (s.tracker.lockedOutcome o) s
  | .coasting =>
    match o with
    | .none => s
    | .matched => { s with tracker := s.tracker.resynchronised s.ride.n 0 }
    | .mismatch sh =>
      if sh = 0 then { s with tracker := s.tracker.resynchronised s.ride.n 0 }
      else convert { s with tracker := s.tracker.resynchronised s.ride.n sh }
  | _ => s

end Sys2Proof.Machine
end

