-- ==== Sys2Proof/Machine/Boarding.lean ====
section
/-! DEFINITION. Crossings of the platform points (R52, R53), identity windows (R55 to R58), the
platform pass (R60 to R64), and CABIN SET (R75, R76). -/

namespace Sys2Proof.Machine

/-! ### Crossings (R51 to R53) -/

/-- The offset of a platform point (R51); the lock point is b_end − lock margin. -/
def State.offset (s : State) : Point → Int
  | .idStart => s.zone.idStart
  | .idEnd => s.zone.idEnd
  | .aStart => s.zone.aStart
  | .bStart => s.zone.bStart
  | .lock => (s.zone.bEnd : Int) - s.ride.lockMargin
  | .bEnd => s.zone.bEnd

/-- The points in the order of R53. -/
def allPoints : List Point := [.idStart, .idEnd, .aStart, .bStart, .lock, .bEnd]

/-- The MOVEMENT from before-figure `b` to after-figure `a`: a − b taken into (−C/2, C/2] (R52). -/
def movement (c : Nat) (b a : Nat) : Int :=
  let d := ((a : Int) - b) % (c : Int)
  if (c : Int) < 2 * d then d - c else d

/-- Whether a cabin with before-figure `b` crosses the offset `p` forward in a movement `mv`: the GAP
(p − b) mod C lies from 1 to the movement (R52). -/
def crosses (c : Nat) (b : Nat) (mv p : Int) : Bool :=
  decide (1 ≤ (p - b) % (c : Int)) && decide ((p - b) % (c : Int) ≤ mv)

/-- The crossings of one cabin in a frame, in order of offset, with the cabin's place in the order of
R53: its after-figure, or its after-figure plus C when it has passed the point 0. -/
structure CabinCrossings where
  place : Nat
  cabin : Nat
  points : List Point
  deriving DecidableEq, Repr

/-- The crossings of cabin `k` in a movement `mv` that brings it to after-figure `a`. -/
def State.cabinCrossings (s : State) (mv : Int) (k b a : Nat) : CabinCrossings :=
  { place := if (a : Int) < mv then a + s.ride.circumference else a
    cabin := k
    points := allPoints.filter fun p => crosses s.ride.circumference b mv (s.offset p) }

/-- A cabin's crossings placed before every cabin less far along (R53). -/
def insertCrossings (x : CabinCrossings) : List CabinCrossings → List CabinCrossings
  | [] => [x]
  | y :: ys => if y.place < x.place then x :: y :: ys else y :: insertCrossings x ys

/-- The crossings of the cabins 0 to n − 1 that have any, the cabin furthest along first (R53).
`before` is the tracker as it stood before the frame. -/
def State.crossingsUpTo (s : State) (before : Tracker) (mv : Int) : Nat → List CabinCrossings
  | 0 => []
  | k + 1 =>
    match before.travel s.ride k, s.tracker.travel s.ride k with
    | some b, some a =>
      let x := s.cabinCrossings mv k b a
      if x.points.isEmpty then s.crossingsUpTo before mv k
      else insertCrossings x (s.crossingsUpTo before mv k)
    | _, _ => s.crossingsUpTo before mv k

/-- The crossings of a frame as (cabin, point) pairs in the order in which they are taken (R53). -/
def State.crossingList (s : State) (before : Tracker) (mv : Int) : List (Nat × Point) :=
  (s.crossingsUpTo before mv s.ride.n).flatMap fun x => x.points.map fun p => (x.cabin, p)

/-! ### Identity windows (R56 to R58) -/

/-- The window of a cabin that crosses id_start forward OPENS with its reads cleared (R56). -/
def openWindow (k : Nat) (s : State) : State :=
  if windowsOpen s.zone s.ride then
    modifyCabin k (fun c => { c with window := { IdWindow.closed with isOpen := true } }) s
  else s

/-- The outcome judged at the closing of cabin `k`'s window (R58). -/
def judgeWindow (n required k : Nat) (w : IdWindow) : IdOutcome :=
  if required ≤ w.matching then .matched
  else match w.other with
    | some j => if required ≤ w.otherReads then .mismatch (roundRim ((j : Int) - k) n) else .none
    | none => .none

/-- The cabin's own record at the closing of its window: the outcome, the reads cleared, and withheld
for IDENTITY on MISMATCH (R58). -/
def Cabin.windowClosed (c : Cabin) (o : IdOutcome) : Cabin :=
  match o with
  | .mismatch _ =>
    { c with window := IdWindow.closed, outcome := o, withheld := some .identity }
  | _ => { c with window := IdWindow.closed, outcome := o }

/-- Whether an outcome is MISMATCH. -/
def IdOutcome.isMismatch : IdOutcome → Bool
  | .mismatch _ => true
  | _ => false

/-- A cabin crosses id_end forward: an OPEN window CLOSES with an outcome, which is then handed to the
rim tracker (R58). -/
def closeWindow (k : Nat) (s : State) : State :=
  if (s.cabin k).window.isOpen then
    let o := judgeWindow s.ride.n s.zone.requiredReads k (s.cabin k).window
    takeOutcome o
      (latchIf o.isMismatch .identityFault (modifyCabin k (fun c => c.windowClosed o) s))
  else s

/-! ### The platform pass (R60 to R64) -/

/-- Whether cabin `k` enters ALIGHTING at a_start (R60). -/
def State.mayAlight (s : State) (k : Nat) : Bool :=
  let c := s.cabin k
  c.inService && c.withheld.isNone && s.tracker.state == .locked && s.modeRec.mode == .service &&
    (c.state == .empty || c.state == .loaded || c.state == .unverified)

/-- Cabin `k` crosses a_start forward (R60). -/
def crossAStart (k : Nat) (s : State) : State :=
  if s.mayAlight k then
    cabinChanged (modifyCabin k (fun c =>
      { c with state := .alighting, door := .notReported, hasValid := false, zoneCount := 0,
               entryBarred := false }) s)
  else s

/-- The entry-barred flag of a cabin entering BOARDING: the hold list holds an entry, or the board
station is not FRESH (R62). -/
def State.entryBar (s : State) : Bool :=
  !s.holds.isEmpty || s.boardStation.freshness != .fresh

/-- An ALIGHTING cabin as it crosses b_start forward (R61). -/
def Cabin.leaveAlightZone (c : Cabin) (bar : Bool) (ms : Word32) : Cabin :=
  if c.hasValid then
    { c.withCount c.zoneCount with
      state := .boarding, door := .notReported, hasValid := false, zoneCount := 0,
      entryBarred := bar }
  else { c with state := .unverified, door := .notAtPlatform, exitTime := ms }

/-- Cabin `k` crosses b_start forward (R61); a count cut to the capacity latches COUNT_SATURATED
(R48). -/
def crossBStart (k : Nat) (s : State) : State :=
  if (s.cabin k).state = .alighting then
    cabinChanged
      (latchIf ((s.cabin k).hasValid && decide ((s.cabin k).capacity < (s.cabin k).zoneCount))
        .countSaturated
        (modifyCabin k (fun c => c.leaveAlightZone s.entryBar s.ms) s))
  else s

/-- Cabin `k` crosses the lock point forward: BOARDING with its door not LOCKED is LATE (R63).  A cabin
that backs over the point and crosses it again is tested again (R52; log entry 26). -/
def crossLock (k : Nat) (s : State) : State :=
  if (s.cabin k).state = .boarding ∧ (s.cabin k).door ≠ .locked then doorCause 1 k s else s

/-- Whether a BOARDING cabin leaves the board zone confirmed: LOCKED with a valid answer (R64). -/
def Cabin.confirmed (c : Cabin) : Bool := c.door == .locked && c.hasValid

/-- A BOARDING cabin as it crosses b_end forward (R64). -/
def Cabin.leaveBoardZone (c : Cabin) (ms : Word32) : Cabin :=
  let c1 : Cabin :=
    if c.confirmed then
      let d := c.withCount c.zoneCount
      { d with state := confirmedState d.count, unlockedExit := false }
    else { c with state := .unverified,
                  unlockedExit := if c.door = .locked then c.unlockedExit else true }
  { c1 with door := .notAtPlatform, hasValid := false, zoneCount := 0, entryBarred := false,
            exitTime := ms }

/-- The end of cabin `k`'s platform pass (R64), with the DOOR cause UNLOCKED_EXIT when its door is not
LOCKED. -/
def passEnd (k : Nat) (s : State) : State :=
  let c := s.cabin k
  let s1 := cabinChanged
    (latchIf (c.confirmed && decide (c.capacity < c.zoneCount)) .countSaturated
      (modifyCabin k (fun x => x.leaveBoardZone s.ms) s))
  if c.door = .locked then s1 else doorCause 2 k s1

/-- Cabin `k` crosses b_end forward: its withheld flag goes CLEAR in any state (R59), and a cabin in
BOARDING ends its pass (R64). -/
def crossBEnd (k : Nat) (s : State) : State :=
  let s1 := modifyCabin k (fun c => { c with withheld := none }) s
  if (s.cabin k).state = .boarding then passEnd k s1 else s1

/-- What a forward crossing does to the cabin (R53). -/
def takeCrossing (k : Nat) (p : Point) (s : State) : State :=
  match p with
  | .idStart => openWindow k s
  | .idEnd => closeWindow k s
  | .aStart => crossAStart k s
  | .bStart => crossBStart k s
  | .lock => crossLock k s
  | .bEnd => crossBEnd k s

/-- The crossings of a frame taken one after the other; those left when an outcome has changed the
tracker's state or index are abandoned (R53). -/
def takeCrossings : List (Nat × Point) → State → State
  | [], s => s
  | (k, p) :: rest, s =>
    let s1 := takeCrossing k p s
    if s1.tracker.state = s.tracker.state ∧ s1.tracker.index = s.tracker.index then
      takeCrossings rest s1
    else s1

/-- The crossings among those of a frame that were taken, and so handed to the profile unit (R53). -/
def crossingsTaken : List (Nat × Point) → State → List (Nat × Point)
  | [], _ => []
  | (k, p) :: rest, s =>
    let s1 := takeCrossing k p s
    if s1.tracker.state = s.tracker.state ∧ s1.tracker.index = s.tracker.index then
      (k, p) :: crossingsTaken rest s1
    else [(k, p)]

/-- The MOVEMENT of a frame, a property of the frame (R52): cabin 0's, or none when the tracker hands
no before-figure or no after-figure (R28). -/
def State.frameMovement (s : State) (before : Tracker) : Option Int :=
  if before.travelHanded then
    match before.travel s.ride 0, s.tracker.travel s.ride 0 with
    | some b, some a => some (movement s.ride.circumference b a)
    | _, _ => none
  else none

/-- The crossings of a frame in order, empty when it moves 0 or less, or a pitch or more, or has no
figures (R52). -/
def State.frameCrossings (s : State) (before : Tracker) : List (Nat × Point) :=
  match s.frameMovement before with
  | none => []
  | some mv => if 0 < mv ∧ mv < s.ride.pitch then s.crossingList before mv else []

/-- The boarding controller's turn at a FEEDBACK (R53); a movement of a pitch or more converts the
platform cabins and closes every window (R52). -/
def boardFeedback (before : Tracker) (s : State) : State :=
  match s.frameMovement before with
  | none => s
  | some mv =>
    if (s.ride.pitch : Int) ≤ mv then convert s else takeCrossings (s.frameCrossings before) s

/-! ### Tag reads (R55, R57) -/

/-- The content of a tag reader's ANSWER (9.5). -/
structure TagAnswer where
  present : Bool
  tag : List Byte
  strength : Nat
  deriving DecidableEq, Repr

/-- The cabin a tag names, counting from `k`: the lowest-numbered loaded cabin with that identity
(R49). -/
def lookupFrom (tag : List Byte) : Nat → List Cabin → Option Nat
  | _, [] => none
  | k, c :: cs => if c.capacity ≠ 0 ∧ c.tag = tag then some k else lookupFrom tag (k + 1) cs

/-- The LOOKUP of a tag among cabins 0 to N − 1 (R49). -/
def State.lookup (s : State) (tag : List Byte) : Option Nat :=
  lookupFrom tag 0 (s.cabins.take s.ride.n)

/-- The cabin below `n` whose window is OPEN and whose travel lies in the ID window, or none (R57). -/
def State.windowCabin (s : State) : Nat → Option Nat
  | 0 => none
  | k + 1 =>
    match s.tracker.travel s.ride k with
    | some d =>
      if (s.cabin k).window.isOpen && decide (s.zone.idStart ≤ d) && decide (d < s.zone.idEnd) then
        some k
      else s.windowCabin k
    | none => s.windowCabin k

/-- A read of cabin `j` counted in cabin `k`'s window; the counts stop at 255 (R57, R47). -/
def IdWindow.count (w : IdWindow) (k j : Nat) : IdWindow :=
  if j = k then { w with matching := min 255 (w.matching + 1) }
  else if w.other = some j then { w with otherReads := min 255 (w.otherReads + 1) }
  else { w with other := some j, otherReads := 1 }

/-- A read naming cabin `j` offered to the open window (R57); it is disregarded in SETUP when the stored
offsets open no window (R51). -/
def offerRead (j : Nat) (s : State) : State :=
  if windowsOpen s.zone s.ride then
    match s.windowCabin s.ride.n with
    | none => s
    | some k => modifyCabin k (fun c => { c with window := c.window.count k j }) s
  else s

/-- A tag reader's ANSWER taken by the boarding controller (R55). -/
def takeTagAnswer (a : TagAnswer) (s : State) : State :=
  if a.present && decide (s.zone.tagFloor ≤ a.strength) then
    match s.lookup a.tag with
    | none => latch .unknownTag s
    | some j =>
      match s.tracker.state with
      | .searching => searchRead j s
      | .locked => offerRead j s
      | .coasting => offerRead j s
      | .lost => s
  else s

/-! ### CABIN SET (R75, R76) -/

/-- A count confirmed by the console: cut to the capacity, the state following it (R75). -/
def confirmCount (k n : Nat) (f : Cabin → Cabin) (s : State) : State :=
  retest (cabinChanged
    (latchIf (decide ((s.cabin k).capacity < n)) .countSaturated
      (modifyCabin k (fun c =>
        let d := (f c).withCount n
        { d with state := confirmedState d.count }) s)))

/-- VERIFY of cabin `k` with count `n` (R75): none when the cabin's state refuses it. -/
def cabinVerify (k n : Nat) (s : State) : Option State :=
  if (s.cabin k).state = .unverified then
    some (confirmCount k n (fun c => { c with unlockedExit := false }) s)
  else none

/-- CORRECT of cabin `k` with count `n` (R75): none when the cabin's state refuses it. -/
def cabinCorrect (k n : Nat) (s : State) : Option State :=
  if (s.cabin k).state = .empty ∨ (s.cabin k).state = .loaded then
    some (confirmCount k n (fun c => c) s)
  else none

/-- TAKE_OUT of cabin `k` (R76): none when the cabin's state refuses it. -/
def cabinTakeOut (k : Nat) (s : State) : Option State :=
  if (s.cabin k).state = .empty then
    some (retest (cabinTakenOut k (modifyCabin k
      (fun c => { c with state := .outOfService, inService := false }) s)))
  else none

/-- RETURN of cabin `k` (R76): none when the cabin's state refuses it or its record is not loaded. -/
def cabinReturn (k : Nat) (s : State) : Option State :=
  if (s.cabin k).state = .outOfService ∧ (s.cabin k).capacity ≠ 0 then
    some (retest (cabinChanged (modifyCabin k
      (fun c => { c with state := .empty, count := 0, inService := true }) s)))
  else none

end Sys2Proof.Machine
end

