-- ==== Sys2Proof/Machine/Wind.lean ====
section
/-! DEFINITION. The wind monitor (chapter 5): mast samples, the end of a cycle, the level machine and
the wind trace. -/

namespace Sys2Proof.Machine

/-! ### Masts (R93 to R98) -/

/-- The content of a mast's ANSWER (9.5). -/
structure MastAnswer where
  raw : Nat
  direction : Nat
  deriving DecidableEq, Repr

/-- The mean of a mast: floor((A + 8) / 16) (R93). -/
def Mast.mean (m : Mast) : Nat := if m.seeded then (m.acc + 8) / 16 else 0

/-- The gust of a mast: the greatest sample in its window, 0 while it is empty (R93, R98). -/
def Mast.gust (m : Mast) : Nat := m.window.foldl max 0

/-- The normalised speed before it is cut to 700 (R94). -/
def Mast.normalised (m : Mast) (raw : Nat) : Nat := if m.halves then 5 * raw else raw

/-- The corrected sample s′ = min(1023, floor((s × f + 128) / 256)) (R96). -/
def Mast.corrected (m : Mast) (s : Nat) : Nat := min 1023 ((s * m.factor + 128) / 256)

/-- The mean accumulator after a corrected sample (R97): seeded from it, or moved by
floor((d + 2^(k−1)) / 2^k). -/
def Mast.accAfter (m : Mast) (k s' : Nat) : Nat :=
  if m.seeded then
    ((m.acc : Int) + ((16 * (s' : Int) - m.acc) + 2 ^ (k - 1)) / 2 ^ k).toNat
  else 16 * s'

/-- The gust window after a corrected sample (R98). -/
def windowAfter (g s' : Nat) (w : List Nat) : List Nat := (s' :: w).take g

/-- A mast record after an ANSWER (R94): raw value and direction always, the sample only while FRESH. -/
def Mast.sampled (m : Mast) (t : WindTable) (a : MastAnswer) : Mast :=
  let m1 : Mast :=
    { m with lastRaw := some a.raw,
             lastDirection := if a.direction ≤ 359 then some a.direction else m.lastDirection }
  if m.freshness = .fresh then
    let s' := m.corrected (min 700 (m.normalised a.raw))
    { m1 with acc := m.accAfter t.meanShift s', seeded := true,
              window := windowAfter t.gustLength s' m.window }
  else m1

/-- Whether a mast record takes the answers of an address (R93, R94). -/
def Mast.takes (m : Mast) (address : Nat) : Bool := m.address != 0 && m.address == address

/-- A mast's ANSWER taken by the wind monitor: every record with the address takes it, and a speed
above 700 latches SAMPLE_SATURATED (R94). -/
def takeMastAnswer (address : Nat) (a : MastAnswer) (s : State) : State :=
  latchIf (s.masts.any fun m => m.takes address && decide (700 < m.normalised a.raw))
    .sampleSaturated
    { s with masts :=
        s.masts.map fun m => if m.takes address then m.sampled s.windTable a else m }

/-- A mast record as its freshness changes (R95): a change away from FRESH clears its seed and
window. -/
def Mast.withFreshness (m : Mast) (f : Freshness) : Mast :=
  if m.freshness = f then m
  else if m.freshness = .fresh then
    { m with freshness := f, seeded := false, acc := 0, window := [] }
  else { m with freshness := f }

/-- A freshness reported for the station that is the source of some mast records (R78, R88). -/
def mastFreshness (entry : Nat) (f : Freshness) (s : State) : State :=
  { s with masts := s.masts.map fun m =>
      if mastSourceOf m.address s.pollEntries = some entry then m.withFreshness f else m }

/-! ### The level machine (R102 to R104) -/

/-- Whether a level is EXCEEDED by these governing values (R102). -/
def exceeded (t : WindTable) (mean gust : Nat) : WindLevel → Bool
  | .calm => true
  | .watch => decide (t.watchMean ≤ mean) || decide (t.watchGust ≤ gust)
  | .restrict => decide (t.restrictMean ≤ mean) || decide (t.restrictGust ≤ gust)
  | .hold => decide (t.holdMean ≤ mean) || decide (t.holdGust ≤ gust)

/-- The TARGET: the highest exceeded level, or CALM if none is (R102). -/
def windTarget (t : WindTable) (mean gust : Nat) : WindLevel :=
  if exceeded t mean gust .hold then .hold
  else if exceeded t mean gust .restrict then .restrict
  else if exceeded t mean gust .watch then .watch
  else .calm

/-- The lower of two levels (R103). -/
def WindLevel.lower (a b : WindLevel) : WindLevel := if a.code ≤ b.code then a else b

/-- The level one step below (R104). -/
def WindLevel.below : WindLevel → WindLevel
  | .calm => .calm
  | .watch => .calm
  | .restrict => .watch
  | .hold => .restrict

/-- Whether the cycle is CLEAR of the current level (R104). -/
def clearOf (t : WindTable) (mean gust : Nat) : WindLevel → Bool
  | .calm => false
  | .watch => decide (mean + t.meanHyst < t.watchMean) && decide (gust + t.gustHyst < t.watchGust)
  | .restrict =>
    decide (mean + t.meanHyst < t.restrictMean) && decide (gust + t.gustHyst < t.restrictGust)
  | .hold => decide (mean + t.meanHyst < t.holdMean) && decide (gust + t.gustHyst < t.holdGust)

/-- A cycle end whose target is above the level (R103). -/
def WindRecord.rise (w : WindRecord) (t : WindTable) (target : WindLevel) : WindRecord :=
  let least :=
    if w.up = 0 then target
    else match w.runMin with
      | none => target
      | some l => l.lower target
  if t.entryPersistence ≤ w.up + 1 then
    { w with level := least, up := 0, runMin := none, down := 0 }
  else { w with up := w.up + 1, runMin := some least, down := 0 }

/-- A cycle end whose target is at or below the level (R104). -/
def WindRecord.settle (w : WindRecord) (t : WindTable) : WindRecord :=
  if w.level = .calm then { w with up := 0, runMin := none, down := 0 }
  else if clearOf t w.govMean w.govGust w.level then
    if t.exitPersistence ≤ w.down + 1 then
      { w with up := 0, runMin := none, down := 0, level := w.level.below }
    else { w with up := 0, runMin := none, down := w.down + 1 }
  else { w with up := 0, runMin := none, down := 0 }

/-- The level machine at a cycle end with a counting mast (R102). -/
def WindRecord.stepLevel (w : WindRecord) (t : WindTable) : WindRecord :=
  if w.level.code < (windTarget t w.govMean w.govGust).code then
    w.rise t (windTarget t w.govMean w.govGust)
  else w.settle t

/-! ### The wind trace (R106 to R110) -/

/-- Whether a trace entry is value-bearing (R106). -/
def TraceEntry.bearsValue : TraceEntry → Bool
  | .full _ => true
  | .delta _ => true
  | _ => false

/-- The value at the end of an entry removed from the front of the trace, given the boundary value
before it (R106, R109): none for an entry that carries no value. -/
def TraceEntry.endValue (boundary : Option Nat) : TraceEntry → Option Nat
  | .full v => some v
  | .delta ds => some ((boundary.getD 0 : Int) + ds.sum).toNat
  | _ => none

/-- The boundary value after an entry is removed (R109, 1). -/
def TraceEntry.boundaryAfter (boundary : Option Nat) (e : TraceEntry) : Option Nat :=
  match e.endValue boundary with
  | some v => some v
  | none => boundary

/-- The oldest value-bearing entry, if it is a DELTA, CONVERTED to FULL (R109, 2). -/
def convertOldest (boundary : Option Nat) : List TraceEntry → List TraceEntry
  | [] => []
  | .delta ds :: es => .full ((boundary.getD 0 : Int) + ds.sum).toNat :: es
  | .full v :: es => .full v :: es
  | e :: es => e :: convertOldest boundary es

/-- Steps 2 and 3 of R109 on the trace that remains after a removal. -/
def WindTrace.repaired (t : WindTrace) : WindTrace :=
  { t with entries := convertOldest t.boundary t.entries
           last := if t.entries.any TraceEntry.bearsValue then t.last else none }

/-- The trace with its oldest entry removed as at step 1 of R109, without the latch. -/
def WindTrace.dropOldest (t : WindTrace) : WindTrace :=
  match t.entries with
  | [] => t
  | e :: es => { t with entries := es, boundary := e.boundaryAfter t.boundary }

/-- The trace with its `n` oldest entries removed. -/
def WindTrace.dropMany : Nat → WindTrace → WindTrace
  | 0, t => t
  | n + 1, t => WindTrace.dropMany n t.dropOldest

/-- The most entries the trace holds (R106). -/
def traceLimit : Nat := 1024

/-- The trace made ready for another entry: trimmed first when it is full (R109). -/
def WindTrace.trimmed (t : WindTrace) : WindTrace :=
  if traceLimit ≤ t.entries.length then t.dropOldest.repaired else t

/-- An entry appended, the trace trimmed first when it is full (R109). -/
def WindTrace.append (t : WindTrace) (e : TraceEntry) : WindTrace :=
  { t.trimmed with entries := t.trimmed.entries ++ [e] }

/-- The entries with a delta joined to the newest, if that is a DELTA of fewer than 3 (R107). -/
def joinDelta (d : Int) : List TraceEntry → Option (List TraceEntry)
  | [] => none
  | [.delta ds] => if ds.length < 3 then some [.delta (ds ++ [d])] else none
  | [_] => none
  | e :: es => (joinDelta d es).map fun r => e :: r

/-- The entry a sample that joins no DELTA is appended as: FULL with no last value or a step above 7, a
DELTA otherwise (R107). -/
def sampleEntry (last : Option Nat) (v : Nat) : TraceEntry :=
  match last with
  | none => .full v
  | some l => if ((v : Int) - l).natAbs ≤ 7 then .delta [(v : Int) - l] else .full v

/-- The entries with the sample joined to the newest DELTA, or none when the sample needs an entry of
its own (R107). -/
def WindTrace.joined (t : WindTrace) (v : Nat) : Option (List TraceEntry) :=
  match t.last with
  | none => none
  | some l => if ((v : Int) - l).natAbs ≤ 7 then joinDelta ((v : Int) - l) t.entries else none

/-- The sample of a cycle end appended (R107), with the gap mark cleared and the last value set.  A full
trace is trimmed before the entry is formed, since a trim may make the last value UNKNOWN (R109). -/
def WindTrace.sample (t : WindTrace) (v : Nat) : WindTrace :=
  match t.joined v with
  | some es => { t with entries := es, last := some v, gapMark := false }
  | none => { t.append (sampleEntry t.trimmed.last v) with last := some v, gapMark := false }

/-- A cycle end without a counting mast (R108). -/
def WindTrace.gapEnd (t : WindTrace) : WindTrace :=
  if t.gapMark then t
  else { t.append .gap with gapMark := true, last := none }

/-- The trace after the cycle end of a counting mast: the sample, then a LEVEL entry if the level
changed (R107). -/
def WindTrace.cycleEnd (t : WindTrace) (v : Nat) (old new : WindLevel) : WindTrace :=
  if old = new then t.sample v else (t.sample v).append (.level new)

/-- Whether the appends of this cycle end trim the trace, latching TRACE_WRAPPED (R109). -/
def WindTrace.wraps (t : WindTrace) (v : Nat) (old new : WindLevel) : Bool :=
  ((t.joined v).isNone && decide (traceLimit ≤ t.entries.length)) ||
  (old != new && decide (traceLimit ≤ (t.sample v).entries.length))

/-! ### The end of a cycle (R99 to R101, R105) -/

/-- The COUNTING MASTS: FRESH and seeded (R99). -/
def State.counting (s : State) : List Mast :=
  s.masts.filter fun m => m.freshness == .fresh && m.seeded

/-- The governing values and the level machine at a cycle end (R99, 1 and 2; R100). -/
def State.windAfter (s : State) : WindRecord :=
  if s.counting.isEmpty then { s.wind with freshCount := 0 }
  else
    WindRecord.stepLevel
      { s.wind with
        govMean := (s.counting.map Mast.mean).foldl max 0
        govGust := (s.counting.map Mast.gust).foldl max 0
        freshCount := s.counting.length } s.windTable

/-- The WIND cause reported from the level (R105). -/
def reportWind (s : State) : State :=
  match s.wind.level with
  | .calm => absenceReport .wind s
  | .watch => absenceReport .wind s
  | .restrict => causeReport .wind 2 .slow none s
  | .hold => causeReport .wind 3 .stop none s

/-- The MASTS cause reported from the recorded fresh mast count (R101). -/
def reportMasts (s : State) : State :=
  if s.wind.freshCount = 0 then causeReport .masts 0 .creep none s
  else if s.wind.freshCount < s.windTable.minFresh then
    causeReport .masts s.wind.freshCount .slow none s
  else absenceReport .masts s

/-- The trace entries of a cycle end (R99, 4), given the level before it. -/
def appendTrace (old : WindLevel) (s : State) : State :=
  if s.wind.freshCount = 0 then
    latchIf (!s.trace.gapMark && decide (traceLimit ≤ s.trace.entries.length)) .traceWrapped
      { s with trace := s.trace.gapEnd }
  else
    latchIf (s.trace.wraps s.wind.govGust old s.wind.level) .traceWrapped
      { s with trace := s.trace.cycleEnd s.wind.govGust old s.wind.level }

/-- The wind monitor's cycle work at an end-of-cycle event (R99). -/
def windCycleEnd (s : State) : State :=
  appendTrace s.wind.level (reportMasts (reportWind { s with wind := s.windAfter }))

end Sys2Proof.Machine
end

