-- ==== Sys2Proof/Machine/Polling.lean ====
section
/-! DEFINITION. The field poller (chapter 4): starting cycles, the walk, judging answers, freshness,
and the end of a cycle. -/

namespace Sys2Proof.Machine

/-- The poll list entry `i`. -/
def State.pollEntry (s : State) (i : Nat) : PollEntry := s.pollEntries.getD i PollEntry.unsetEntry

/-- The result record of poll list entry `i` (R78). -/
def State.result (s : State) (i : Nat) : ResultRecord := s.results.getD i ResultRecord.initial

/-- Whether the poller state is IN_CYCLE (R79). -/
def Poller.inCycle (p : Poller) : Bool := p.phase != .idle

/-! ### Starting and ending cycles (R80, R82, R89) -/

/-- The first entry that is not unset, at or after walked-list entry `i`, counted along the entries
from there (R82, 1). -/
def nextSet : Nat → List PollEntry → Option Nat
  | _, [] => none
  | i, e :: es => if e.kind = .unset then nextSet (i + 1) es else some i

/-- The next set entry of the walked list at or after entry `i`, or none when the walk has passed the
last entry (R82, R89). -/
def State.nextEntry (s : State) (i : Nat) : Option Nat := nextSet i (s.walked.drop i)

/-- Steps 1 to 3 of the end of a cycle (R89): the poller goes IDLE, and the end-of-cycle event is handed
to the wind monitor and then to the profile unit. -/
def finishCycle (s : State) : State :=
  profileCycleEnd (windCycleEnd
    { s with poller := { s.poller with phase := .idle, inFlight := none, timer := none } })

/-- A cycle starts with the entry in flight at the first entry of the walked list, unset entries passed
over (R82); an empty walked list starts none (R80, R81).  A walked list of unset entries alone ends
its cycle at once (R89). -/
def startCycle (s : State) : State :=
  if s.walked.isEmpty then s
  else match s.nextEntry 0 with
    | some i => { s with poller := { s.poller with phase := .toPoll, inFlight := some i } }
    | none => finishCycle s

/-- The end of a cycle (R89): a pending mark goes CLEAR and a new cycle starts at once. -/
def endCycle (s : State) : State :=
  let s1 := finishCycle s
  if s1.poller.pendingMark then
    startCycle { s1 with poller := { s1.poller with pendingMark := false } }
  else s1

/-- The walk moves on from entry `i`: to the next set entry, or to the end of the cycle (R82, R89). -/
def moveOn (i : Nat) (s : State) : State :=
  match s.nextEntry (i + 1) with
  | some j =>
    { s with poller := { s.poller with phase := .toPoll, inFlight := some j, timer := none } }
  | none => endCycle s

/-- A request for a cycle now (R81): a cycle starts from IDLE, and the pending mark goes SET in a
cycle. -/
def requestCycle (s : State) : State :=
  if s.poller.inCycle then { s with poller := { s.poller with pendingMark := true } }
  else startCycle s

/-! ### Freshness (R87, R88) -/

/-- The FRESHNESS MACHINE stepped by one result, ANSWERED or not (R87), with the last result
written. -/
def ResultRecord.stepped (r : ResultRecord) (p : PollParams) (result : PollResult) : ResultRecord :=
  if result = .answered then
    match r.freshness with
    | .fresh => { r with last := result, failureRun := 0 }
    | .unknown =>
      if p.freshAfter ≤ r.answerRun + 1 then
        { last := result, freshness := .fresh, answerRun := 0, failureRun := 0 }
      else { r with last := result, failureRun := 0, answerRun := r.answerRun + 1 }
    | .stale =>
      if p.freshAfter ≤ r.answerRun + 1 then
        { last := result, freshness := .fresh, answerRun := 0, failureRun := 0 }
      else { r with last := result, answerRun := r.answerRun + 1 }
  else
    match r.freshness with
    | .stale => { r with last := result, answerRun := 0 }
    | .unknown =>
      if p.staleAfter ≤ r.failureRun + 1 then
        { last := result, freshness := .stale, answerRun := 0, failureRun := 0 }
      else { r with last := result, answerRun := 0, failureRun := r.failureRun + 1 }
    | .fresh =>
      if p.staleAfter ≤ r.failureRun + 1 then
        { last := result, freshness := .stale, answerRun := 0, failureRun := 0 }
      else { r with last := result, failureRun := r.failureRun + 1 }

/-- A freshness change of entry `i` reported to the consumer of its station, if it has one (R78,
R88). -/
def reportFreshness (i : Nat) (f : Freshness) (s : State) : State :=
  match (s.pollEntry i).kind with
  | .mast => mastFreshness i f s
  | .alight => if s.stationEntry .alight = some i then stationFreshness .alight f s else s
  | .board => if s.stationEntry .board = some i then stationFreshness .board f s else s
  | .tagReader => s
  | .unset => s

/-- Steps 1 and 2 of R86: the result of entry `i` is written, its freshness machine is stepped, and a
change of freshness is reported. -/
def recordResult (i : Nat) (result : PollResult) (s : State) : State :=
  let r := (s.result i).stepped s.pollParams result
  let s1 := { s with results := s.results.set i r }
  if r.freshness = (s.result i).freshness then s1 else reportFreshness i r.freshness s1

/-! ### Judging answers (R84) -/

/-- The content of an ANSWERED frame. -/
inductive AnswerContent where
  | mast (a : MastAnswer)
  | station (p : Station) (a : StationAnswer)
  | tag (a : TagAnswer)
  deriving DecidableEq, Repr

/-- The payload length of an ANSWER from a station of a kind (9.5). -/
def answerLength : StationKind → Option Nat
  | .mast => some 5
  | .alight => some 5
  | .board => some 5
  | .tagReader => some 10
  | .unset => none

/-- The first four tests of R84 on the settling frame of an entry: none when the line unit discards
it. -/
def answerFrame (e : PollEntry) (raw : RawFrame) : Option Frame :=
  match frameOf raw with
  | some f =>
    if f.kind = kindAnswer ∧ f.address.toNat = e.address ∧
        answerLength e.kind = some f.payload.length then some f
    else none
  | none => none

/-- The content of a platform station's ANSWER, none when a coded field holds an undefined value
(R84). -/
def stationContent (p : Station) (payload : List Byte) : Option AnswerContent :=
  match cutFields [1, 1, 1, 1, 1] payload with
  | [echo, present, door, count, button] =>
    match doorStateOf door with
    | some d =>
      if present ≤ 1 ∧ count ≤ 63 ∧ button ≤ 1 then
        some (.station p { echo := echo, present := present == 1, door := d, count := count,
                           pressed := button == 1 })
      else none
    | none => none
  | _ => none

/-- The content of an ANSWER by its entry's kind: none when the result is BAD for an undefined coded
field or a mast's fault flag (R84). -/
def answerContent (kind : StationKind) (payload : List Byte) : Option AnswerContent :=
  match kind with
  | .mast =>
    match cutFields [2, 2, 1] payload with
    | [raw, direction, fault] =>
      if fault = 0 then some (.mast { raw := raw, direction := direction }) else none
    | _ => none
  | .alight => stationContent .alight payload
  | .board => stationContent .board payload
  | .tagReader =>
    match payload with
    | present :: rest =>
      if present.toNat ≤ 1 then
        some (.tag { present := present.toNat == 1, tag := rest.take 8,
                     strength := natOf (rest.drop 8) })
      else none
    | [] => none
  | .unset => none

/-- Step 3 of R86: an ANSWERED content handed to its consumer.  Only the first entry of a platform
station's kind speaks for the station (R66). -/
def handContent (i : Nat) (c : AnswerContent) (s : State) : State :=
  match c with
  | .mast a => takeMastAnswer (s.pollEntry i).address a s
  | .station p a => if s.stationEntry p = some i then takeStationAnswer p a s else s
  | .tag a => takeTagAnswer a s

/-- The settling frame of entry `i` at its end: ANSWERED or BAD (R84), recorded and handed on (R86),
and the walk moves on. -/
def settleFrame (i : Nat) (raw : RawFrame) (s : State) : State :=
  match answerFrame (s.pollEntry i) raw with
  | none => moveOn i (recordResult i .bad (latch .frameDiscarded s))
  | some f =>
    match answerContent (s.pollEntry i).kind f.payload with
    | none => moveOn i (recordResult i .bad s)
    | some c => moveOn i (handContent i c (recordResult i .answered s))

/-- The field line's receive buffer put in this condition (R168). -/
def setFieldBuffer (b : ReceiveBuffer) (s : State) : State :=
  { s with rx := { s.rx with field := b } }

/-- A field-line frame discarded at its end (R83, R85).  The end of a frame that a reset cut short is no
event (R168). -/
def discardFieldFrame (s : State) : State :=
  if s.rx.field = .lost then setFieldBuffer .empty s
  else latch .frameDiscarded (setFieldBuffer .empty s)

/-- Whether the frame that ends now settles entry `i` (R83): it is the settling frame, or it began in
the reply wait with this command alone (log entry 8), and it is none that a reset cut short (R168). -/
def State.settledBy (s : State) : Option Nat :=
  match s.poller.phase, s.rx.field with
  | _, .lost => none
  | .settling, _ => s.poller.inFlight
  | .replyWait, .empty => s.poller.inFlight
  | _, _ => none

/-- The end of a field-line frame (R83 to R85, R90): the settling frame of the entry in flight is
judged, every other frame is discarded, and the receive buffer is then empty (R168). -/
def fieldFrame (raw : RawFrame) (s : State) : State :=
  match s.settledBy with
  | some i => settleFrame i raw (setFieldBuffer .empty s)
  | none => discardFieldFrame s

/-! ### The events of the walk -/

/-- The POLL of entry `i` with the arguments decided for a platform station (R67, R82).  A platform
entry that is not the first of its kind is shown NONE with release and lamp off (R66). -/
def State.pollFrame (s : State) (i : Nat) : Frame :=
  let e := s.pollEntry i
  let arguments (p : Station) : List Byte :=
    if s.stationEntry p = some i then
      [orNone1 (s.zoneCabin p), flag (s.doorRelease (s.zoneCabin p)),
        flag (s.barredLamp p (s.zoneCabin p))]
    else [orNone1 none, 0, 0]
  { kind := kindPoll, address := byte e.address,
    payload :=
      match e.kind with
      | .alight => arguments .alight
      | .board => arguments .board
      | _ => [] }

/-- The cabin shown written to the station record as the POLL of entry `i` is sent (R67). -/
def showCabin (i : Nat) (s : State) : State :=
  match (s.pollEntry i).kind with
  | .alight =>
    if s.stationEntry .alight = some i then
      writeStation .alight { s.alightStation with shown := s.zoneCabin .alight } s
    else s
  | .board =>
    if s.stationEntry .board = some i then
      writeStation .board { s.boardStation with shown := s.zoneCabin .board } s
    else s
  | _ => s

/-- The POLL of entry `i` is sent, and its reply wait starts at its end (R82, R83). -/
def sendPoll (i : Nat) (s : State) : State :=
  let s1 := showCabin i s
  { s1 with poller := { s1.poller with phase := .replyWait, lastPoll := some (s.pollFrame i),
                                       timer := some (s.after s.pollParams.replyTimeout) } }

/-- The field-line timer run on by another reply timeout (R83, R85). -/
def State.extended (s : State) : Option Word32 :=
  s.poller.timer.map fun t => t + BitVec.ofNat 32 s.pollParams.replyTimeout

/-- The next POLL of the walk is sent, once the field line is idle: no frame is being received, nor one
that a reset cut short (R82). -/
def execPoll (s : State) : Host.Outcome State Fault Refusal :=
  match s.poller.phase, s.poller.inFlight with
  | .toPoll, some i => .next (if s.rx.field = .empty then sendPoll i s else s)
  | _, _ => .next s

/-- The first character of a field-line frame: in the reply wait it settles the entry (R83).  In a late
window it makes the frame a late answer (R85), before a POLL an unsolicited frame (R83), and in IDLE a
frame that R85 discards; the next POLL then waits for the frame's end (R82, R83, R85).  A frame that a
reset cut short has ended where another begins, and that one is received in full (R168). -/
def execEntrySettled (s : State) : Host.Outcome State Fault Refusal :=
  match s.poller.phase with
  | .replyWait =>
    .next (setFieldBuffer .receiving
      { s with poller := { s.poller with phase := .settling, timer := s.extended } })
  | .settling => .next s
  | _ => .next (setFieldBuffer .receiving s)

/-- A frame that settles the entry in flight is judged (R84). -/
def execAnswer (raw : RawFrame) (s : State) : Host.Outcome State Fault Refusal :=
  .next (fieldFrame raw s)

/-- A late answer is discarded, whatever it holds (R85). -/
def execLateAnswer (_raw : RawFrame) (s : State) : Host.Outcome State Fault Refusal :=
  .next (discardFieldFrame s)

/-- An unsolicited frame is discarded, whatever it holds (R83, R85). -/
def execUnsolicitedFrame (_raw : RawFrame) (s : State) : Host.Outcome State Fault Refusal :=
  .next (discardFieldFrame s)

/-- The reply timeout runs out with no character received: NO_ANSWER, and the late window follows (R83,
R85). -/
def execReplyWaitExpiry (s : State) : Host.Outcome State Fault Refusal :=
  match s.poller.phase, s.poller.inFlight with
  | .replyWait, some i =>
    .next (recordResult i .noAnswer
      { s with poller := { s.poller with phase := .lateWindow, timer := s.extended } })
  | _, _ => .next s

/-- The late window runs out and the walk moves on (R85). -/
def execLateWindowEnd (s : State) : Host.Outcome State Fault Refusal :=
  match s.poller.phase, s.poller.inFlight with
  | .lateWindow, some i => .next (moveOn i s)
  | _, _ => .next s

/-- A settling frame that overruns: BAD at that moment, the walk goes on, and the frame is discarded at
its end (R83). -/
def overrun (i : Nat) (s : State) : State :=
  moveOn i (recordResult i .bad (setFieldBuffer .receiving s))

/-- A settling frame reaches its 66th character or lasts past the second reply timeout (R83). -/
def execSettlingFrameOverrun (s : State) : Host.Outcome State Fault Refusal :=
  match s.poller.phase, s.poller.inFlight with
  | .settling, some i => .next (overrun i s)
  | .replyWait, some i => .next (overrun i s)
  | _, _ => .next s

/-- The poll timer expires and restarts with the stored poll period (R80). -/
def execPollTimerExpiry (s : State) : Host.Outcome State Fault Refusal :=
  let s1 := { s with timers := { s.timers with poll := s.after s.pollParams.period } }
  if s.poller.inCycle then .next (latch .pollOverrun s1) else .next (startCycle s1)

end Sys2Proof.Machine
end

