-- ==== Sys2Proof/Machine/Gate.lean ====
section
/-! DEFINITION. The drive gate (chapter 1): SETPOINT, the DRIVE ORDER, FEEDBACK with the turns of the
other blocks, the feedback timeout and the staleness expiries. -/

namespace Sys2Proof.Machine

/-! ### SETPOINT (R2) -/

/-- A SETPOINT clamped to −(reverse limit) … +(ride max speed) (R2, 1). -/
def State.clampedSetpoint (s : State) (speed : Word16) : Int :=
  clamp (-(s.ride.reverseLimit : Int)) s.ride.maxSpeed speed.toInt

/-- Steps 1 and 2 of R2: the value is written, the age base set, the stale flag cleared, and in SERVICE
the expiries rearmed (R20). -/
def storeSetpoint (speed : Word16) (s : State) : State :=
  latchIf (decide (s.clampedSetpoint speed ≠ speed.toInt)) .setpointClamped
    { s with
      req := { s.req with value := s.clampedSetpoint speed, ageBase := s.ms, stale := false }
      expiries := if s.modeRec.mode = .service then { staleArmed := true, lossArmed := true }
                  else s.expiries }

/-- Step 4 of R2: a zero value arms, unless an entry of class STOP stands. -/
def armIfZero (s : State) : State :=
  if s.req.value = 0 ∧ s.hasStop = false then { s with req := { s.req with armed := true } } else s

/-- A SETPOINT taken by the drive gate (R2).  One of 0 taken after a command loss removes the COMMAND
entry and arms, as R2 and R20 say, against the general line of R127 (log entry 32). -/
def takeSetpoint (speed : Word16) (s : State) : State :=
  armIfZero (absenceReport .command (storeSetpoint speed s))

/-- An accepted SETPOINT frame (R2). -/
def execSetpoint (speed : Word16) (s : State) : Host.Outcome State Fault Refusal :=
  .next (takeSetpoint speed s)

/-! ### The DRIVE ORDER (R5 to R13) -/

/-- The ceiling a class contributes, none for NO_BOARD (R7). -/
def classCeiling (r : RideTable) : HoldClass → Option Nat
  | .stop => some 0
  | .creep => some r.creepSpeed
  | .slow => some r.restrictCeiling
  | .noBoard => none

/-- The least of a limit and the class ceilings of all entries (R7). -/
def leastCeiling (r : RideTable) (limit : Nat) (holds : List HoldEntry) : Nat :=
  holds.foldl (fun c h => match classCeiling r h.cls with | some x => min c x | none => c) limit

/-- The forward ceiling Cf (R7). -/
def State.forwardCeiling (s : State) : Nat :=
  if s.occupied then min (leastCeiling s.ride s.ride.maxSpeed s.holds) s.ride.platformSpeed
  else leastCeiling s.ride s.ride.maxSpeed s.holds

/-- The reverse ceiling Cr: 0 while the platform is occupied (R7). -/
def State.reverseCeiling (s : State) : Nat :=
  if s.occupied then 0 else leastCeiling s.ride s.ride.reverseLimit s.holds

/-- The requested speed R (R3, R4). -/
def State.requested (s : State) : Int :=
  match s.req.source with
  | .console => if s.req.armed then s.req.value else 0
  | .profile => s.currentStep.target

/-- The target Q: R clamped to −Cr … +Cf (R8). -/
def State.target (s : State) : Int :=
  clamp (-(s.reverseCeiling : Int)) s.forwardCeiling s.requested

/-- The target output speed Vt: 1000 × Q, but 0 when V and it are nonzero and of opposite sign (R8). -/
def targetV (v q : Int) : Int :=
  if (0 < v ∧ 1000 * q < 0) ∨ (v < 0 ∧ 0 < 1000 * q) then 0 else 1000 * q

/-- The rate a (R9). -/
def State.rate (s : State) (vt : Int) : Nat :=
  if s.out.v.natAbs < vt.natAbs then
    match s.req.source with
    | .console => s.ride.accel
    | .profile => min s.currentStep.rate s.ride.accel
  else if s.hasStop then s.ride.holdDecel
  else match s.req.source with
    | .console => s.ride.decel
    | .profile => min s.currentStep.rate s.ride.decel

/-- V moved toward Vt by at most the step, waiting at 0 for the brake (R10). -/
def moveV (brake : BrakeState) (v vt : Int) (step : Nat) : Int :=
  if v = 0 ∧ brake ≠ .released then 0
  else if (vt - v).natAbs ≤ step then vt
  else if v < vt then v + step
  else v - step

/-- V / 1000 rounded to the nearest whole mm/s, halves away from zero (R11). -/
def roundSetpoint (v : Int) : Int :=
  if 0 ≤ v then (v + 500) / 1000 else -((-v + 500) / 1000)

/-- V after the move of a SERVICE order (R8 to R10). -/
def State.nextV (s : State) : Int :=
  moveV s.fb.brake s.out.v (targetV s.out.v s.target)
    (s.rate (targetV s.out.v s.target) * s.ride.period)

/-- The brake request of a SERVICE order, from V after the move (R12). -/
def State.nextBrake (s : State) (v : Int) : BrakeRequest :=
  if v = 0 ∧ s.target = 0 ∧ s.still.flag then .apply
  else if s.target ≠ 0 then .release
  else s.out.brake

/-- The output record an order leaves (R6 in SETUP, R13 in SERVICE). -/
def State.orderRecord (s : State) : OutputRecord :=
  match s.modeRec.mode with
  | .setup =>
    { v := 0, setpoint := 0, brake := .apply, cf := 0, cr := 0, seq := s.out.seq + 1 }
  | .service =>
    { v := s.nextV, setpoint := roundSetpoint s.nextV, brake := s.nextBrake s.nextV,
      cf := s.forwardCeiling, cr := s.reverseCeiling, seq := s.out.seq + 1 }

/-- The flags byte of the order (R6, R13). -/
def State.orderFlagsNow (s : State) : Nat :=
  match s.modeRec.mode with
  | .setup => orderFlags false (!s.holds.isEmpty) false
  | .service => orderFlags s.req.stale (!s.holds.isEmpty) (s.req.source == .profile)

/-- The DRIVE ORDER frame with the current sequence count (R13, 9.5). -/
def State.orderFrame (s : State) : Frame :=
  { kind := kindDriveOrder, address := 0,
    payload := signed2 s.orderRecord.setpoint ++
      [byte s.orderRecord.brake.code, byte s.orderFlagsNow, s.out.seq] }

/-- What a drive line that is free starts to send: the order, or else the oldest AUX frame (R176). -/
def DriveQueue.started (q : DriveQueue) : DriveQueue :=
  match q.sending with
  | .free =>
    { q with sending := if q.order.isSome then .order else if q.aux.isEmpty then .free else .aux }
  | _ => q

/-- A DRIVE ORDER placed in the order place (R176). -/
def DriveQueue.withOrder (q : DriveQueue) (f : Frame) : DriveQueue :=
  DriveQueue.started { q with order := some f }

/-- The DRIVE ORDER of an expiry: computed, recorded, placed in the order place, with orders in step
YES while a profile runs (R5, R6, R13, R143). -/
def driveOrder (s : State) : State :=
  { s with
    out := s.orderRecord
    driveQueue := s.driveQueue.withOrder s.orderFrame
    run := if s.run.running then { s.run with ordersInStep := true } else s.run
    timers := { s.timers with drive := s.after s.ride.period } }

/-- The drive order timer expires and restarts with the stored T (R5). -/
def execDrivePeriodExpiry (s : State) : Host.Outcome State Fault Refusal :=
  .next (driveOrder s)

/-! ### FEEDBACK (R15 to R19) -/

/-- The standstill state after a FEEDBACK with this measured speed (R16). -/
def Standstill.updated (st : Standstill) (r : RideTable) (ms : Word32) (speed : Int) : Standstill :=
  if r.stillBand < speed.natAbs then { runStart := none, flag := false }
  else match st.runStart with
    | none => { st with runStart := some ms }
    | some t => if r.stillTime ≤ (ms - t).toNat then { st with flag := true } else st

/-- The standstill state a feedback timeout leaves (R16). -/
def Standstill.ended : Standstill := { runStart := none, flag := false }

/-- The drive status reported to the hold manager (R17): FAULT is a cause, OK none. -/
def reportDrive (s : State) : State :=
  if s.fb.faultCode = 0 then s else causeReport .drive 2 .stop (some s.fb.faultCode) s

/-- The drive gate's turn at a FEEDBACK (R15 to R17), with the DRIVE test re-taken before the cause is
reported. -/
def gateFeedback (f : FeedbackFields) (s : State) : State :=
  reportDrive (retest
    { s with
      fb := { state := .present, speed := some f.speed.toInt,
              brake := if f.released then .released else .applied,
              faultCode := f.status.toNat, lastArrival := s.ms,
              timer := some (s.after s.ride.feedbackTimeout) }
      still := s.still.updated s.ride s.ms f.speed.toInt
      run := { s.run with begunNow := false } })

/-- The frame's count difference as the tracker hands it to the profile unit: 0 when it could not be
formed (R28, R144). -/
def State.frameDiff (s : State) (f : FeedbackFields) : Int :=
  (s.tracker.countDiff f.rim).getD 0

/-- The turns of the drive gate, the rim tracker, the boarding controller and the profile unit at a
FEEDBACK, in this order (R15). -/
def feedbackTurns (f : FeedbackFields) (s : State) : State :=
  let before := s.tracker
  let s1 := gateFeedback f s
  let s2 := trackFeedback (s.fb.state == .silent) f s1
  let s3 := boardFeedback before s2
  retest (profileFeedback (s.frameDiff f) f.speed.toInt (crossingsTaken (s2.frameCrossings before) s2)
    s3)

/-- The copy of a FEEDBACK placed in the console queue, or QUEUE_FULL latched (R174, R175).  `queued` is
the number of frames queued before the event: when a final reply was placed in the same event, the
spec does not say which of the two stands first, and the order is a free choice (log entry 4). -/
def forwardFeedback (f : FeedbackFields) (queued : Nat) (s : State) : State :=
  if s.hasRoom then
    if s.consoleQueue.length = queued then queueFrames [feedbackFrame f] s
    else
      { s with
        freeCount := s.freeCount + 1
        consoleQueue :=
          if Config.copyBeforeFinalReply s.freeCount then
            s.consoleQueue.take queued ++ [feedbackFrame f] ++ s.consoleQueue.drop queued
          else s.consoleQueue ++ [feedbackFrame f] }
  else latch .queueFull s

/-- An accepted FEEDBACK: delivered to the drive gate and the blocks after it, and forwarded (R15,
R175). -/
def takeFeedback (f : FeedbackFields) (s : State) : State :=
  forwardFeedback f s.consoleQueue.length (feedbackTurns f s)

/-- An accepted FEEDBACK frame (R15). -/
def execFeedback (f : FeedbackFields) (s : State) : Host.Outcome State Fault Refusal :=
  .next (takeFeedback f s)

/-- The feedback timeout (R18). -/
def feedbackSilent (s : State) : State :=
  causeReport .drive 1 .stop none (retest
    { s with
      fb := { s.fb with state := .silent, speed := none, brake := .unknown, timer := none }
      still := Standstill.ended })

/-- The feedback timer reaches the feedback timeout; it runs only in state PRESENT (R14, R18). -/
def execFeedbackTimeout (s : State) : Host.Outcome State Fault Refusal :=
  .next (if s.fb.state = .present then feedbackSilent s else s)

/-! ### Console staleness (R20 to R22) -/

/-- The stale expiry, taken in SERVICE while it is armed (R20, R21). -/
def execStaleExpiry (s : State) : Host.Outcome State Fault Refusal :=
  .next (if s.modeRec.mode = .service ∧ s.expiries.staleArmed then
    { s with req := { s.req with stale := true }, expiries := { s.expiries with staleArmed := false } }
    else s)

/-- The loss expiry, taken in SERVICE while it is armed (R20, R22). -/
def execLossExpiry (s : State) : Host.Outcome State Fault Refusal :=
  .next (if s.modeRec.mode = .service ∧ s.expiries.lossArmed then
    causeReport .command 1 .stop none { s with expiries := { s.expiries with lossArmed := false } }
    else s)

/-! ### The profile unit's timers (R145, R149) -/

/-- The dwell timer expires; it runs only while a DWELL step is current (R145). -/
def execDwellTimerExpiry (s : State) : Host.Outcome State Fault Refusal :=
  .next (if s.run.running ∧ s.run.dwellTimer.isSome then stepMet s else s)

/-- The duration timer of the current step expires: the run ends with TIMEOUT (R149). -/
def execDurationTimerExpiry (s : State) : Host.Outcome State Fault Refusal :=
  .next (if s.run.running ∧ s.run.durationTimer.isSome then endRun .timeout s else s)

/-- The drive line has sent its frame: it leaves its place, and the next is started (R176). -/
def DriveQueue.sent (q : DriveQueue) : DriveQueue :=
  match q.sending with
  | .free => DriveQueue.started q
  | .order => DriveQueue.started { q with order := none, sending := .free }
  | .aux => DriveQueue.started { q with aux := q.aux.drop 1, sending := .free }

/-- A drive-line frame has been sent and the line is free (R176). -/
def execDriveFrameSent (s : State) : Host.Outcome State Fault Refusal :=
  .next { s with driveQueue := s.driveQueue.sent }

end Sys2Proof.Machine
end

