-- ==== Sys2Proof/Machine/Tables.lean ====
section
/-! DEFINITION. Table writes and reads (R157 to R159), the effects of a stored write in each block, and
the commit checks (R162). -/

namespace Sys2Proof.Machine

/-! ### Elements of a write (R157) -/

/-- Element data cut into the given number of elements of `size` bytes. -/
def cutElements (size : Nat) : Nat → List Byte → List (List Byte)
  | 0, _ => []
  | n + 1, bs => bs.take size :: cutElements size n (bs.drop size)

/-- The elements a write carries from element `first` on, or none when the element data is empty or its
length is not the sum of the sizes of consecutive elements (R157, 4). -/
def TableId.cut (t : TableId) (first : Nat) (data : List Byte) : Option (List (List Byte)) :=
  let head := t.elementSize first
  let size := t.elementSize (first + 1)
  if data.length < head then none
  else if (data.length - head) % size = 0 then
    some (data.take head :: cutElements size ((data.length - head) / size) (data.drop head))
  else none

/-- Every element parsed, or none when one is refused (R157, 6). -/
def parseAll {α : Type} (f : List Byte → Option α) : List (List Byte) → Option (List α)
  | [] => some []
  | b :: bs =>
    match f b, parseAll f bs with
    | some x, some xs => some (x :: xs)
    | _, _ => none

/-- A list with the elements from number `first` on written over. -/
def overwrite {α : Type} (first : Nat) (xs l : List α) : List α :=
  l.take first ++ xs ++ l.drop (first + xs.length)

/-! ### What each block does with a stored write (R158) -/

/-- The RIDE table stored; a changed N or pitch sends the tracker to SEARCHING with the phase unknown,
unless it is LOST (R44). -/
def storeRide (r : RideTable) (s : State) : State :=
  let s1 := { s with ride := r }
  if (r.n ≠ s.ride.n ∨ r.pitch ≠ s.ride.pitch) ∧ s.tracker.state ≠ .lost then
    retest (setTracker s.tracker.searchAnew s1)
  else s1

/-- A cabin record loaded from a CABIN element: its dynamic fields reset, its time of last platform exit
kept (R49). -/
def Cabin.loadFrom (c : Cabin) (x : CabinConfig) : Cabin :=
  { Cabin.notLoaded with
    tag := x.tag, capacity := x.capacity, inService := x.inService,
    state := if x.inService then .unverified else .outOfService,
    exitTime := c.exitTime }

/-- CABIN elements stored from cabin `first` on (R49); the changes of state are reported to the profile
unit (R53). -/
def storeCabins (first : Nat) (xs : List CabinConfig) (s : State) : State :=
  let new := List.zipWith Cabin.loadFrom (s.cabins.drop first) xs
  retest (cabinChanged { s with cabins := overwrite first new s.cabins })

/-- The WIND table stored; a lowered G drops at once the oldest samples of every window (R111). -/
def storeWind (t : WindTable) (s : State) : State :=
  { s with windTable := t,
           masts := s.masts.map fun m => { m with window := m.window.take t.gustLength } }

/-- A mast record after a MAST element is stored: reset when the element differs, with the freshness the
field poller holds for its new address (R112). -/
def Mast.configured (m : Mast) (x : MastConfig) (f : Freshness) : Mast :=
  if m.address = x.address ∧ m.factor = x.factor ∧ m.halves = x.halves then m
  else { Mast.initial with address := x.address, factor := x.factor, halves := x.halves,
                           freshness := f }

/-- The freshness the field poller holds for a mast address: its source entry's, or UNKNOWN (R78). -/
def State.mastFresh (s : State) (address : Nat) : Freshness :=
  match mastSourceOf address s.pollEntries with
  | some i => (s.result i).freshness
  | none => .unknown

/-- MAST elements stored from record `first` on (R112). -/
def storeMasts (first : Nat) (xs : List MastConfig) (s : State) : State :=
  let new := List.zipWith (fun m x => m.configured x (s.mastFresh x.address)) (s.masts.drop first) xs
  { s with masts := overwrite first new s.masts }

/-- The result records after a write of the poll list: an entry whose address or kind has changed is
reset (R90). -/
def resetChanged : List PollEntry → List PollEntry → List ResultRecord → List ResultRecord
  | o :: os, n :: ns, r :: rs =>
    (if o.address = n.address ∧ o.kind = n.kind then r else ResultRecord.initial)
      :: resetChanged os ns rs
  | _, _, rs => rs

/-- The freshness a platform station takes from its source entry, or UNKNOWN (R78). -/
def State.stationFresh (s : State) (p : Station) : Freshness :=
  match s.stationEntry p with
  | some i => (s.result i).freshness
  | none => .unknown

/-- A platform station after a write of the poll list (R90): `before` is its source entry and address
before the write.  A changed source or address releases its stop button, and a difference from the
freshness it held is reported. -/
def resource (p : Station) (before : Option Nat × Option Nat) (s : State) : State :=
  let s1 :=
    if before = (s.stationEntry p, s.stationAddress p) then s
    else writeStation p { s.station p with pressed := false } s
  stationFreshness p (s1.stationFresh p) s1

/-- A cycle in flight CUT by a stored POLL write (R90): nothing is recorded, and a frame then arriving
is discarded as if the poller were IDLE, the field line's receive buffer holding it to its end.  A
pending mark starts a cycle on the new walked list. -/
def cutCycle (s : State) : State :=
  if s.poller.inCycle then
    let s1 := { s with poller :=
      { s.poller with phase := .idle, inFlight := none, timer := none, pendingMark := false } }
    if s.poller.pendingMark then startCycle s1 else s1
  else s

/-- Poll list entries stored: results of changed entries reset, and each consumer's freshness taken from
its source entry on the new walked list (R90): the alight station's, then the board station's, then
the masts' (log entry 31). -/
def storeEntries (es : List PollEntry) (s : State) : State :=
  let s1 := { s with pollEntries := es, results := resetChanged s.pollEntries es s.results }
  let s2 := resource .alight (s.stationEntry .alight, s.stationAddress .alight) s1
  let s3 := resource .board (s.stationEntry .board, s.stationAddress .board) s2
  retest { s3 with masts := s3.masts.map fun m => m.withFreshness (s3.mastFresh m.address) }

/-- POLL elements parsed: element 0 of the table first if the write holds it (R77). -/
def parsePoll (first : Nat) (es : List (List Byte)) :
    Option (Option PollParams × List PollEntry) :=
  if first = 0 then
    match es with
    | b :: bs =>
      match pollParamsOf b, parseAll pollEntryOf bs with
      | some p, some xs => some (some p, xs)
      | _, _ => none
    | [] => none
  else (parseAll pollEntryOf es).map fun xs => (none, xs)

/-- A stored POLL write (R90): the consumers take their new freshness before a pending mark starts the
new cycle (log entry 30). -/
def storePoll (first : Nat) (p : Option PollParams) (xs : List PollEntry) (s : State) : State :=
  cutCycle (storeEntries (overwrite (first - 1) xs s.pollEntries)
    { s with pollParams := p.getD s.pollParams })

/-- The elements of a write parsed and stored, or none when a field is out of range (R157, 6; R158). -/
def storeElements (t : TableId) (first : Nat) (es : List (List Byte)) (s : State) : Option State :=
  match t with
  | .ride => match parseAll rideOf es with
    | some [r] => some (storeRide r s)
    | _ => none
  | .zone => match parseAll zoneOf es with
    | some [z] => some { s with zone := z }
    | _ => none
  | .wind => match parseAll windOf es with
    | some [w] => some (storeWind w s)
    | _ => none
  | .cabin => (parseAll cabinOf es).map fun xs => storeCabins first xs s
  | .mast => (parseAll mastOf es).map fun xs => storeMasts first xs s
  | .poll => (parsePoll first es).map fun x => storePoll first x.1 x.2 s
  | .pass => (parseAll passOf es).map fun xs => { s with passList := overwrite first xs s.passList }
  | .profile n => (parseAll stepOf es).map fun xs =>
      { s with profiles := s.profiles.modify n (overwrite first xs) }

/-- The tables mark set UNCHECKED (R156, R158). -/
def markUnchecked (s : State) : State := { s with modeRec := { s.modeRec with checked := false } }

/-- A TABLE WRITE's tests in the order of R157, and its effects: the status, the number of elements
stored, and the state. -/
def writeTable (id first : Byte) (data : List Byte) (s : State) : Status × List Byte × State :=
  if s.modeRec.mode ≠ .setup then (.mode, [], s)
  else match tableOf id with
    | none => (.range, [], s)
    | some t =>
      if t.elements ≤ first.toNat then (.range, [], s)
      else match t.cut first.toNat data with
        | none => (.length, [], s)
        | some es =>
          if t.elements < first.toNat + es.length then (.range, [], s)
          else match storeElements t first.toNat es (markUnchecked s) with
            | none => (.range, [], s)
            | some s1 => (.ok, [byte es.length], s1)

/-! ### TABLE READ (R159) -/

/-- The stored elements of a table as bytes, each as its fields in order (R159). -/
def State.tableElements (s : State) : TableId → List (List Byte)
  | .ride => [rideBytes s.ride]
  | .zone => [zoneBytes s.zone]
  | .cabin => s.cabins.map cabinBytes
  | .wind => [windBytes s.windTable]
  | .mast => s.masts.map mastBytes
  | .poll => pollParamsBytes s.pollParams :: s.pollEntries.map pollEntryBytes
  | .pass => s.passList.map passBytes
  | .profile n => (s.profileSteps n).map stepBytes

/-- A TABLE READ's status and data (R159). -/
def State.readTable (s : State) (id first count : Byte) : Status × List Byte :=
  match tableOf id with
  | none => (.range, [])
  | some t =>
    if first.toNat < t.elements ∧ 1 ≤ count.toNat ∧ count.toNat ≤ 8 ∧
        first.toNat + count.toNat ≤ t.elements then
      (.ok, [id, first, count, flag s.modeRec.checked] ++
        (((s.tableElements t).drop first.toNat).take count.toNat).flatten)
    else (.range, [])

/-! ### Commit checks (R26, R162) -/

/-- ceil(a / b) for b above 0 (00_scope). -/
def ceilDiv (a b : Nat) : Nat := (a + b - 1) / b

/-- The STOPPING-DISTANCE FIGURE, mm (R26). -/
def RideTable.stoppingDistance (r : RideTable) : Nat :=
  ceilDiv (r.maxSpeed * r.maxSpeed) (2 * r.holdDecel) + ceilDiv (2 * r.maxSpeed * r.period) 1000

/-- Whether a list of numbers holds no number twice. -/
def allDifferent : List Nat → Bool
  | [] => true
  | x :: xs => !xs.contains x && allDifferent xs

/-- Check 3: the ZONE offsets in order within C, each stretch no longer than the pitch. -/
def zoneCheck (z : ZoneTable) (r : RideTable) : Bool :=
  decide (z.idStart < z.idEnd) && decide (z.idEnd ≤ z.aStart) && decide (z.aStart < z.bStart) &&
  decide (z.bStart < z.bEnd) && decide (z.bEnd ≤ r.circumference) &&
  decide (z.idEnd - z.idStart ≤ r.pitch) && decide (z.bStart - z.aStart ≤ r.pitch) &&
  decide (z.bEnd - z.bStart ≤ r.pitch)

/-- The set entries of a walked list. -/
def setEntries (es : List PollEntry) : List PollEntry := es.filter fun e => e.kind != .unset

/-- The number of entries of a kind. -/
def kindCount (k : StationKind) (es : List PollEntry) : Nat :=
  (es.filter fun e => e.kind == k).length

/-- Check 9: the poll list and MAST table agree. -/
def pollCheck (walked : List PollEntry) (masts : List Mast) (minFresh : Nat) : Bool :=
  let es := setEntries walked
  let addresses := (masts.filter fun m => m.address != 0).map fun m => m.address
  !walked.isEmpty && kindCount .alight es == 1 && kindCount .board es == 1 &&
  kindCount .tagReader es == 1 && allDifferent (es.map fun e => e.address) &&
  allDifferent addresses &&
  addresses.all (fun a => es.any fun e => e.kind == .mast && e.address == a) &&
  decide (minFresh ≤ addresses.length)

/-- Check 10 on one profile: each step within its length has its kind's parameter. -/
def profileCheck (steps : List Step) : Bool :=
  (steps.take (profileLength steps)).all Step.paramAllowed

/-- The COMMIT CHECKS 1 to 11, in order (R162). -/
def State.commitChecks (s : State) : List Bool :=
  [ within 8 s.ride.n 64,
    within 2000 s.ride.pitch 20000,
    zoneCheck s.zone s.ride,
    decide (s.ride.lockMargin < s.zone.bEnd - s.zone.bStart) &&
      decide (s.ride.stoppingDistance ≤ s.ride.lockMargin),
    decide (s.ride.platformSpeed ≤ s.ride.doorSpeedLimit),
    decide (s.ride.accel ≤ s.ride.holdDecel) && decide (s.ride.decel ≤ s.ride.holdDecel),
    decide (4 * s.ride.w < s.ride.pitch),
    decide (s.windTable.watchMean ≤ s.windTable.restrictMean) &&
      decide (s.windTable.restrictMean ≤ s.windTable.holdMean) &&
      decide (s.windTable.watchGust ≤ s.windTable.restrictGust) &&
      decide (s.windTable.restrictGust ≤ s.windTable.holdGust),
    pollCheck s.walked s.masts s.windTable.minFresh,
    s.profiles.all profileCheck,
    s.still.flag ]

/-- The number of the first check of a list that fails, counting from `k`; none when all pass. -/
def firstFailure : Nat → List Bool → Option Nat
  | _, [] => none
  | k, c :: cs => if c then firstFailure (k + 1) cs else some k

/-- The number of the first failing check among those a MODE SET(SERVICE) runs: 1 to 11 with the tables
mark UNCHECKED, 11 alone with it CHECKED (R161). -/
def State.commitFailure (s : State) : Option Nat :=
  if s.modeRec.checked then firstFailure 11 [s.still.flag] else firstFailure 1 s.commitChecks

end Sys2Proof.Machine
end

