-- ==== Sys2Proof/Machine/Requests.lean ====
section
/-! DEFINITION. The management responder (chapter 10) and the requests each block serves: the tests of
R180, the reply of every request, and the request buffer (R172). -/

namespace Sys2Proof.Machine

/-- What serving a request gives: its reply now, or none when the reply is made later (R141), and the
state. -/
abbrev Served := Option (Status × List Byte) × State

/-- A request refused, with no effect on any block. -/
def refusedWith (st : Status) (s : State) : Served := (some (st, []), s)

/-- A request served with status OK and this data. -/
def served (data : List Byte) (s : State) : Served := (some (.ok, data), s)

/-! ### STATUS READ and the ride status record (R182, R183, 9.5) -/

/-- The RIDE STATUS RECORD, 33 bytes (R183). -/
def State.statusRecord (s : State) : List Byte :=
  [byte s.modeRec.mode.code, byte s.req.source.code, flag s.req.armed] ++ signed2 s.out.setpoint ++
  [byte s.fb.state.code] ++ signed2 (if s.fb.state = .present then s.fb.speed.getD 0 else 0) ++
  [byte s.fb.brake.code, byte s.tracker.state.code, orNone1 s.tracker.index,
    orNone1 s.alightingCabin, orNone1 s.boardingCabin, byte s.wind.level.code] ++
  be2 s.wind.govMean ++ be2 s.wind.govGust ++
  [byte s.wind.freshCount, byte (match s.mostSevere with | none => 0 | some c => c.code),
    byte s.holds.length] ++
  be2 s.riderTotal ++ be2 s.unverifiedTotal ++ [flag s.run.running, byte s.snaps.unread] ++
  be2 s.latched.bits ++ be4 s.ms.toNat

/-- STATUS READ: the record, and then the latched event set cleared (R182). -/
def serveStatusRead (s : State) : Served :=
  served s.statusRecord { s with latched := LatchedSet.clear }

/-! ### MODE SET and RESTART (R161 to R166) -/

/-- The commit (R163, R23).  The brake request of the output record stays as the last order left it:
APPLY once a SETUP order has been computed, as R23 says, and otherwise unchanged, since R5 lets no
drive-gate field change here that R23 does not name as a change (log entry 25). -/
def commit (s : State) : State :=
  { s with
    modeRec := { s.modeRec with mode := .service, checked := true }
    req := { s.req with armed := false, ageBase := s.ms, stale := false }
    expiries := { staleArmed := true, lossArmed := true } }

/-- MODE SET(SERVICE) (R161). -/
def serveModeService (s : State) : Served :=
  if s.modeRec.mode = .service then served [] s
  else match s.commitFailure with
    | some k => (some (.invalid, [byte k]), s)
    | none => served [] (commit s)

/-- Whether MODE SET(SETUP) is accepted (R164). -/
def State.mayReturnToSetup (s : State) : Bool :=
  decide (s.out.v = 0) && s.still.flag && !s.occupied && !s.run.running

/-- The return to SETUP (R164, R24). -/
def returnToSetup (s : State) : State :=
  { s with
    modeRec := { s.modeRec with mode := .setup }
    req := { s.req with stale := false }
    expiries := { staleArmed := false, lossArmed := false } }

/-- MODE SET(SETUP) (R164). -/
def serveModeSetup (s : State) : Served :=
  if s.modeRec.mode = .setup then served [] s
  else if s.mayReturnToSetup then served [] (returnToSetup s)
  else refusedWith .state s

/-- MODE SET by its mode code: 1 SETUP, 2 SERVICE, any other RANGE (R161). -/
def serveModeSet (code : Byte) (s : State) : Served :=
  if code = 2 then serveModeService s
  else if code = 1 then serveModeSetup s
  else refusedWith .range s

/-- RESTART: refused with MODE in SERVICE; in SETUP the restart-pending flag goes SET (R166). -/
def serveRestart (s : State) : Served :=
  if s.modeRec.mode = .service then refusedWith .mode s
  else served [] { s with modeRec := { s.modeRec with restartPending := true } }

/-! ### TABLE WRITE and TABLE READ (R157, R159) -/

/-- TABLE WRITE (R157). -/
def serveTableWrite (id first : Byte) (data : List Byte) (s : State) : Served :=
  let x := writeTable id first data s
  (some (x.1, x.2.1), x.2.2)

/-- TABLE READ (R159). -/
def serveTableRead (id first count : Byte) (s : State) : Served :=
  (some (s.readTable id first count), s)

/-! ### CABIN READ and CABIN SET (R187, R75, R76) -/

/-- A cabin's 14 bytes in CABIN READ (R187). -/
def cabinReadBytes (k : Nat) (c : Cabin) : List Byte :=
  [byte k, byte c.state.code, byte c.count, byte c.capacity, byte (cabinFlags c),
    byte (withheldCode c.withheld)] ++ outcomeBytes c.outcome ++
  [byte c.door.code, byte c.zoneCount] ++ be4 c.exitTime.toNat

/-- The cabins of a CABIN READ, in number order from cabin `k` (R187). -/
def State.cabinsBytes (s : State) : Nat → Nat → List Byte
  | _, 0 => []
  | k, n + 1 => cabinReadBytes k (s.cabin k) ++ s.cabinsBytes (k + 1) n

/-- CABIN READ (R187). -/
def serveCabinRead (first count : Byte) (s : State) : Served :=
  if 1 ≤ count.toNat ∧ count.toNat ≤ 8 ∧ first.toNat + count.toNat ≤ 64 then
    served ([first, count] ++ be2 s.riderTotal ++ be2 s.unverifiedTotal ++
      s.cabinsBytes first.toNat count.toNat) s
  else refusedWith .range s

/-- The reply of a CABIN SET whose action is taken: the cabin's state, count and count-saturated flag
after it (10.1). -/
def cabinSetReply (k : Nat) (s : State) : Option State → Served
  | none => refusedWith .state s
  | some t =>
    served [byte (t.cabin k).state.code, byte (t.cabin k).count, flag (t.cabin k).saturated] t

/-- CABIN SET: cabin, action and count (R75, R76). -/
def serveCabinSet (cabin action count : Byte) (s : State) : Served :=
  if s.ride.n ≤ cabin.toNat then refusedWith .range s
  else if action = 1 then cabinSetReply cabin.toNat s (cabinVerify cabin.toNat count.toNat s)
  else if action = 2 then cabinSetReply cabin.toNat s (cabinCorrect cabin.toNat count.toNat s)
  else if action = 3 then cabinSetReply cabin.toNat s (cabinTakeOut cabin.toNat s)
  else if action = 4 then cabinSetReply cabin.toNat s (cabinReturn cabin.toNat s)
  else refusedWith .range s

/-! ### Holds and snapshots (R128 to R131, R135) -/

/-- HOLD PLACE (R128). -/
def serveHoldPlace (code : Byte) (s : State) : Served :=
  match holdClassOf code.toNat with
  | none => refusedWith .range s
  | some c =>
    let t := causeReport .console 1 c none s
    served [byte (match t.entry .console with | some e => e.cls.code | none => 0)] t

/-- The CREEP form a released LOST POSITION entry returns to (R120, R130). -/
def creepForm (e : HoldEntry) : HoldEntry :=
  { e with cls := .creep, cause := 1, latched := false, present := true }

/-- A released LOST POSITION entry (R130): the tracker goes to SEARCHING with the phase unknown, and the
entry returns to its CREEP form. -/
def releasePosition (e : HoldEntry) (s : State) : State :=
  retest (convert { putEntry (creepForm e) s with tracker := s.tracker.searchAnew })

/-- HOLD RELEASE (R129). -/
def serveHoldRelease (code : Byte) (s : State) : Served :=
  match holdSourceOf code.toNat with
  | none => refusedWith .range s
  | some src =>
    match s.entry src with
    | none => refusedWith .none s
    | some e =>
      match src with
      | .wind => refusedWith .state s
      | .masts => refusedWith .state s
      | .command => refusedWith .state s
      | .position => if e.latched then served [] (releasePosition e s) else refusedWith .state s
      | .console => served [] (removeEntry src s)
      | _ => if e.present then refusedWith .active s else served [] (removeEntry src s)

/-- An entry's 10 bytes in HOLD LIST (9.5). -/
def holdBytes (e : HoldEntry) : List Byte :=
  [byte e.source.code, byte e.cls.code, byte e.cause, orNone1 e.subject] ++ be4 e.time.toNat ++
  [flag e.latched, flag e.present]

/-- HOLD LIST (R131). -/
def serveHoldList (s : State) : Served :=
  served ([byte s.holds.length, flag s.causes.door, flag s.causes.platform, flag s.causes.drive] ++
    s.holds.flatMap holdBytes) s

/-- A snapshot's 25 bytes in SNAPSHOT TAKE, after the unread count (9.5). -/
def snapshotBytes (x : Snapshot) : List Byte :=
  be4 x.time.toNat ++ [byte x.source.code, byte x.cause, orNone1 x.subject, byte x.cls.code] ++
  signed2 x.setpoint ++ signed2 (x.speed.getD 0) ++ be4 (x.rim.getD 0).toNat ++
  [byte x.trackerState.code, orNone1 x.index, byte x.level.code] ++ be2 x.govMean ++
  be2 x.govGust ++
  [byte x.entries, byte (flagBits [x.speed.isSome, x.rim.isSome, x.superseded])]

/-- SNAPSHOT TAKE (R135). -/
def serveSnapshotTake (s : State) : Served :=
  if s.snaps.unread = 0 then refusedWith .none s
  else match s.snaps.slot s.snaps.r with
    | none => refusedWith .none s
    | some x =>
      let t := { s with snaps := { s.snaps with r := s.snaps.r + 1 } }
      served (byte t.snaps.unread :: snapshotBytes x) t

/-! ### Profiles (R140, R141, R151, R154) -/

/-- The refusal of a PROFILE RUN by the first test of R140 that fails, or none. -/
def State.runRefusal (s : State) (n wait : Nat) : Option Status :=
  if 7 < n ∨ 1 < wait then some .range
  else if s.modeRec.mode ≠ .service then some .mode
  else if s.run.running then some .busy
  else if s.hasStop ∨ profileLength (s.profileSteps n) = 0 then some .state
  else none

/-- Steps 1 and 2 of an accepted PROFILE RUN, but for the reply (R141). -/
def acceptRun (tag : Byte) (n repeats wait : Nat) (s : State) : State :=
  { s with
    run := { s.run with running := true, profile := some n, repeats := repeats, step := 0 }
    req := { s.req with source := .profile }
    waitTag := if wait = 1 then some tag else s.waitTag }

/-- PROFILE RUN (R140, R141): step 0 begins in the same event. -/
def serveProfileRun (tag n repeats wait : Byte) (s : State) : Served :=
  match s.runRefusal n.toNat wait.toNat with
  | some st => refusedWith st s
  | none =>
    let t := acceptRun tag n.toNat repeats.toNat wait.toNat s
    (if wait = 1 then none else some (.ok, [n]), beginStep t.stepFuel t)

/-- PROFILE STOP (R151). -/
def serveProfileStop (s : State) : Served :=
  if s.run.running then served [] (endRun .aborted s) else refusedWith .state s

/-- The time in step of PROFILE STATUS (R154). -/
def State.timeInStep (s : State) : Nat :=
  if s.run.running then s.since s.run.stepStart else s.run.finalTime

/-- PROFILE STATUS (R154). -/
def serveProfileStatus (s : State) : Served :=
  served ([flag s.run.running, orNone1 s.run.profile, byte s.run.step, byte s.run.repeats] ++
    be4 s.timeInStep ++
    [byte (match s.run.lastEnd with | none => 1 | some e => e.code), flag s.waitTag.isSome]) s

/-! ### Wind and polling (R114, R110, R81, R92) -/

/-- A mast's 12 bytes in WIND READ (9.5). -/
def mastReadBytes (m : Mast) : List Byte :=
  [byte m.address, byte m.freshness.code, flag m.seeded] ++ be2 m.mean ++ be2 m.gust ++
  [byte m.window.length] ++ orNone2 m.lastDirection ++ orNone2 m.lastRaw

/-- WIND READ (R114). -/
def serveWindRead (s : State) : Served :=
  served (s.masts.flatMap mastReadBytes ++ be2 s.wind.govMean ++ be2 s.wind.govGust ++
    [byte s.wind.freshCount, byte s.wind.level.code, byte s.wind.up,
      byte (match s.wind.runMin with | none => 255 | some l => l.code)] ++
    be2 s.wind.down ++ be2 s.trace.entries.length ++ orNone2 s.trace.last) s

/-- A delta as a signed byte (9.5). -/
def deltaByte (d : Int) : Byte := BitVec.ofInt 8 d

/-- A trace entry's 4 bytes in TRACE TAKE (9.5). -/
def traceBytes : TraceEntry → List Byte
  | .full v => 1 :: be2 v ++ [0]
  | .level l => [2, byte l.code, 0, 0]
  | .gap => [3, 0, 0, 0]
  | .delta ds =>
    byte (3 + ds.length) :: (ds.map deltaByte ++ List.replicate (3 - ds.length) 0)

/-- TRACE TAKE (R110). -/
def serveTraceTake (n : Byte) (s : State) : Served :=
  if n.toNat = 0 ∨ 16 < n.toNat then refusedWith .range s
  else if s.trace.entries.isEmpty then refusedWith .none s
  else
    let k := min n.toNat s.trace.entries.length
    let t := { s with trace := (s.trace.dropMany k).repaired }
    served (be2 t.trace.entries.length ++ [byte k] ++
      (s.trace.entries.take k).flatMap traceBytes) t

/-- POLL NOW: always OK (R81). -/
def servePollNow (s : State) : Served := served [] (requestCycle s)

/-- A walked-list entry's 4 bytes in POLL RESULTS; an unset entry shows NOT_POLLED and UNKNOWN (R92,
9.5). -/
def pollResultBytes (e : PollEntry) (r : ResultRecord) : List Byte :=
  if e.kind = .unset then [0, 0, 0, 0]
  else [byte e.address, byte e.kind.code, byte r.last.code, byte r.freshness.code]

/-- POLL RESULTS (R92). -/
def servePollResults (s : State) : Served :=
  served ([flag s.poller.inCycle, orNone1 s.poller.inFlight, flag s.poller.pendingMark,
      byte s.walked.length] ++
    (List.zipWith pollResultBytes s.walked s.results).flatten) s

/-! ### Request codes and the tests of R180 -/

/-- The eighteen requests (10.1). -/
inductive RequestKind where
  | statusRead
  | modeSet
  | restart
  | tableWrite
  | tableRead
  | cabinRead
  | cabinSet
  | holdPlace
  | holdRelease
  | holdList
  | snapshotTake
  | profileRun
  | profileStop
  | profileStatus
  | windRead
  | traceTake
  | pollNow
  | pollResults
  deriving DecidableEq, Repr

/-- The code of a request (10.1). -/
def RequestKind.code : RequestKind → Byte
  | .statusRead => 0x01
  | .modeSet => 0x02
  | .restart => 0x03
  | .tableWrite => 0x08
  | .tableRead => 0x09
  | .cabinRead => 0x10
  | .cabinSet => 0x11
  | .holdPlace => 0x18
  | .holdRelease => 0x19
  | .holdList => 0x1A
  | .snapshotTake => 0x1B
  | .profileRun => codeProfileRun
  | .profileStop => 0x21
  | .profileStatus => 0x22
  | .windRead => 0x28
  | .traceTake => 0x29
  | .pollNow => 0x30
  | .pollResults => 0x31

/-- Every request kind. -/
def allRequestKinds : List RequestKind :=
  [.statusRead, .modeSet, .restart, .tableWrite, .tableRead, .cabinRead, .cabinSet, .holdPlace,
    .holdRelease, .holdList, .snapshotTake, .profileRun, .profileStop, .profileStatus, .windRead,
    .traceTake, .pollNow, .pollResults]

/-- The request of a code, none when it is not one of the eighteen (R180, 1). -/
def requestKindOf (code : Byte) : Option RequestKind :=
  allRequestKinds.find? fun k => k.code == code

/-- A request with no arguments; any argument gives LENGTH (R180, 2). -/
def serve0 (f : State → Served) (args : List Byte) (s : State) : Served :=
  match args with
  | [] => f s
  | _ => refusedWith .length s

/-- A request with one 1-byte argument (R180, 2). -/
def serve1 (f : Byte → State → Served) (args : List Byte) (s : State) : Served :=
  match args with
  | [a] => f a s
  | _ => refusedWith .length s

/-- A request with two 1-byte arguments (R180, 2). -/
def serve2 (f : Byte → Byte → State → Served) (args : List Byte) (s : State) : Served :=
  match args with
  | [a, b] => f a b s
  | _ => refusedWith .length s

/-- A request with three 1-byte arguments (R180, 2). -/
def serve3 (f : Byte → Byte → Byte → State → Served) (args : List Byte) (s : State) : Served :=
  match args with
  | [a, b, c] => f a b c s
  | _ => refusedWith .length s

/-- A request with two 1-byte arguments and the bytes after them: at least 2 bytes (R180, 2). -/
def serveRest (f : Byte → Byte → List Byte → State → Served) (args : List Byte) (s : State) :
    Served :=
  match args with
  | a :: b :: data => f a b data s
  | _ => refusedWith .length s

/-- A request of a known code handed to the block that serves it, once its argument length is the one
listed (R180). -/
def serveKind (k : RequestKind) (tag : Byte) (args : List Byte) (s : State) : Served :=
  match k with
  | .statusRead => serve0 serveStatusRead args s
  | .modeSet => serve1 serveModeSet args s
  | .restart => serve0 serveRestart args s
  | .tableWrite => serveRest serveTableWrite args s
  | .tableRead => serve3 serveTableRead args s
  | .cabinRead => serve2 serveCabinRead args s
  | .cabinSet => serve3 serveCabinSet args s
  | .holdPlace => serve1 serveHoldPlace args s
  | .holdRelease => serve1 serveHoldRelease args s
  | .holdList => serve0 serveHoldList args s
  | .snapshotTake => serve0 serveSnapshotTake args s
  | .profileRun => serve3 (serveProfileRun tag) args s
  | .profileStop => serve0 serveProfileStop args s
  | .profileStatus => serve0 serveProfileStatus args s
  | .windRead => serve0 serveWindRead args s
  | .traceTake => serve1 serveTraceTake args s
  | .pollNow => serve0 servePollNow args s
  | .pollResults => serve0 servePollResults args s

/-- A request served (R180): UNKNOWN for a code that is none of the eighteen. -/
def serveRequest (r : Request) (s : State) : Served :=
  match requestKindOf r.code with
  | none => refusedWith .unknown s
  | some k => serveKind k r.tag r.args s

/-- The reply of a served request placed, every part of it, in the event of the take (R172, R181). -/
def placeReply (code tag : Byte) (x : Served) : State :=
  match x.1 with
  | some (st, data) => reply code tag st data x.2
  | none => x.2

/-- A request TAKEN: served whole, with its reply (R172). -/
def takeRequest (r : Request) (s : State) : State := placeReply r.code r.tag (serveRequest r s)

/-- Whether the management responder may take a request: no restart pending, and at least 3 free places
(R172). -/
def State.mayTake (s : State) : Bool := !s.modeRec.restartPending && decide (3 ≤ s.freePlaces)

/-- Requests taken from the buffer, oldest first, for as long as the conditions of R172 hold.  `fuel` is
the number of requests in the buffer. -/
def takeRequests : Nat → State → State
  | 0, s => s
  | fuel + 1, s =>
    match s.requests with
    | [] => s
    | r :: rest =>
      if s.mayTake then takeRequests fuel (takeRequest r { s with requests := rest }) else s

/-- The requests in the buffer taken while the conditions of R172 hold. -/
def takeWaiting (s : State) : State := takeRequests s.requests.length s

/-- An accepted REQUEST frame (R172): placed at the end of the buffer and taken in the event of its
arrival when the conditions hold; discarded with FRAME_DISCARDED when the buffer is full. -/
def receiveRequest (r : Request) (s : State) : State :=
  if s.requests.length < 2 then takeWaiting { s with requests := s.requests ++ [r] }
  else latch .frameDiscarded s

/-! ### The request rows of the table -/

/-- The REQUEST frame of a kind of request arrives (R172, R180). -/
def arrive (k : RequestKind) (tag : Byte) (args : List Byte) (s : State) :
    Host.Outcome State Fault Refusal :=
  .next (receiveRequest { code := k.code, tag := tag, args := args } s)

/-- An accepted REQUEST frame with any code and arguments (R172). -/
def execRequest (code tag : Byte) (args : List Byte) (s : State) :
    Host.Outcome State Fault Refusal :=
  .next (receiveRequest { code := code, tag := tag, args := args } s)

/-- STATUS READ (R182). -/
def execStatusRead (tag : Byte) (s : State) : Host.Outcome State Fault Refusal :=
  arrive .statusRead tag [] s

/-- MODE SET(SERVICE) (R161). -/
def execModeSetService (tag : Byte) (s : State) : Host.Outcome State Fault Refusal :=
  arrive .modeSet tag [2] s

/-- MODE SET(SETUP) (R164). -/
def execModeSetSetup (tag : Byte) (s : State) : Host.Outcome State Fault Refusal :=
  arrive .modeSet tag [1] s

/-- RESTART (R166). -/
def execRestart (tag : Byte) (s : State) : Host.Outcome State Fault Refusal :=
  arrive .restart tag [] s

/-- TABLE WRITE (R157). -/
def execTableWrite (tag table first : Byte) (data : List Byte) (s : State) :
    Host.Outcome State Fault Refusal :=
  arrive .tableWrite tag (table :: first :: data) s

/-- TABLE READ (R159). -/
def execTableRead (tag table first count : Byte) (s : State) : Host.Outcome State Fault Refusal :=
  arrive .tableRead tag [table, first, count] s

/-- CABIN READ (R187). -/
def execCabinRead (tag first count : Byte) (s : State) : Host.Outcome State Fault Refusal :=
  arrive .cabinRead tag [first, count] s

/-- CABIN SET VERIFY (R75). -/
def execCabinSetVerify (tag cabin count : Byte) (s : State) : Host.Outcome State Fault Refusal :=
  arrive .cabinSet tag [cabin, 1, count] s

/-- CABIN SET CORRECT (R75). -/
def execCabinSetCorrect (tag cabin count : Byte) (s : State) : Host.Outcome State Fault Refusal :=
  arrive .cabinSet tag [cabin, 2, count] s

/-- CABIN SET TAKE_OUT (R76). -/
def execCabinSetTakeOut (tag cabin count : Byte) (s : State) : Host.Outcome State Fault Refusal :=
  arrive .cabinSet tag [cabin, 3, count] s

/-- CABIN SET RETURN (R76). -/
def execCabinSetReturn (tag cabin count : Byte) (s : State) : Host.Outcome State Fault Refusal :=
  arrive .cabinSet tag [cabin, 4, count] s

/-- HOLD PLACE (R128). -/
def execHoldPlace (tag cls : Byte) (s : State) : Host.Outcome State Fault Refusal :=
  arrive .holdPlace tag [cls] s

/-- HOLD RELEASE (R129). -/
def execHoldRelease (tag source : Byte) (s : State) : Host.Outcome State Fault Refusal :=
  arrive .holdRelease tag [source] s

/-- HOLD LIST (R131). -/
def execHoldList (tag : Byte) (s : State) : Host.Outcome State Fault Refusal :=
  arrive .holdList tag [] s

/-- SNAPSHOT TAKE (R135). -/
def execSnapshotTake (tag : Byte) (s : State) : Host.Outcome State Fault Refusal :=
  arrive .snapshotTake tag [] s

/-- PROFILE RUN (R140, R141). -/
def execProfileRun (tag profile repeats wait : Byte) (s : State) :
    Host.Outcome State Fault Refusal :=
  arrive .profileRun tag [profile, repeats, wait] s

/-- PROFILE STOP (R151). -/
def execProfileStop (tag : Byte) (s : State) : Host.Outcome State Fault Refusal :=
  arrive .profileStop tag [] s

/-- PROFILE STATUS (R154). -/
def execProfileStatus (tag : Byte) (s : State) : Host.Outcome State Fault Refusal :=
  arrive .profileStatus tag [] s

/-- WIND READ (R114). -/
def execWindRead (tag : Byte) (s : State) : Host.Outcome State Fault Refusal :=
  arrive .windRead tag [] s

/-- TRACE TAKE (R110). -/
def execTraceTake (tag n : Byte) (s : State) : Host.Outcome State Fault Refusal :=
  arrive .traceTake tag [n] s

/-- POLL NOW (R81). -/
def execPollNow (tag : Byte) (s : State) : Host.Outcome State Fault Refusal :=
  arrive .pollNow tag [] s

/-- POLL RESULTS (R92). -/
def execPollResults (tag : Byte) (s : State) : Host.Outcome State Fault Refusal :=
  arrive .pollResults tag [] s

/-- A request whose code is none of the eighteen (R180). -/
def execUnknownRequest (code tag : Byte) (args : List Byte) (s : State) :
    Host.Outcome State Fault Refusal :=
  .next (receiveRequest { code := code, tag := tag, args := args } s)

end Sys2Proof.Machine
end

