-- ==== Sys2Proof/Machine/LineUnit.lean ====
section
/-! DEFINITION. The line unit (chapter 9): AUX frames and the pass list, received frames, the transmit
queues, RIDE STATUS, and the resets (R165, R167). -/

namespace Sys2Proof.Machine

/-! ### AUX frames (R174, R176, R177) -/

/-- Whether an element allows a direction: 1 CONSOLE_TO_DRIVE, 2 DRIVE_TO_CONSOLE, 3 BOTH (R177). -/
def PassElement.allowsDirection (e : PassElement) : Line → Bool
  | .console => e.direction == 1 || e.direction == 3
  | .drive => e.direction == 2 || e.direction == 3
  | .field => false

/-- Whether an element allows the mode by the matching permission (R177). -/
def PassElement.allowsMode (e : PassElement) : Mode → Bool
  | .setup => e.setupAllowed
  | .service => e.serviceAllowed

/-- Whether an AUX frame of a kind from a line is PASSED: by the lowest-numbered set element with its
kind (R177). -/
def State.passes (s : State) (line : Line) (kind : Byte) : Bool :=
  match s.passList.find? (fun e => e.kind != 0 && e.kind == kind.toNat) with
  | none => false
  | some e => e.allowsDirection line && e.allowsMode s.modeRec.mode

/-- A passed AUX frame placed in a free AUX place of the drive queue, or discarded with QUEUE_FULL
(R176). -/
def queueAux (f : Frame) (s : State) : State :=
  if s.driveQueue.aux.length < 3 then
    { s with driveQueue :=
        DriveQueue.started { s.driveQueue with aux := s.driveQueue.aux ++ [f] } }
  else latch .queueFull s

/-- An accepted AUX frame: forwarded unchanged to the other line's queue if it is passed, discarded with
FRAME_DISCARDED otherwise (R177). -/
def takeAux (line : Line) (f : Frame) (s : State) : State :=
  if s.passes line f.kind then
    match line with
    | .console => queueAux f s
    | _ => queueOrFull f s
  else latch .frameDiscarded s

/-- An accepted AUX frame from either line (R177). -/
def execAuxFrame (line : Line) (kind : Byte) (payload : List Byte) (s : State) :
    Host.Outcome State Fault Refusal :=
  .next (takeAux line { kind := kind, address := 0, payload := payload } s)

/-! ### Received frames (R168 to R171) -/

/-- Where a received frame of the console or drive line is delivered, or none when it is discarded
(R168 to R171). -/
def receptionOf (line : Line) (raw : RawFrame) : Option Delivery :=
  (frameOf raw).bind (deliveryOf line)

/-- A received frame delivered (R171). -/
def deliver (line : Line) (d : Delivery) (s : State) : State :=
  match d with
  | .setpoint v => takeSetpoint v s
  | .feedback f => takeFeedback f s
  | .request r => receiveRequest r s
  | .aux f => takeAux line f s

/-- A received frame at its end (R168 to R171): discarded with FRAME_DISCARDED when it fails a test of
its line, delivered otherwise.  On the field line it is judged against the POLL outstanding (R170). -/
def receiveFrame (line : Line) (raw : RawFrame) (s : State) : State :=
  match line with
  | .field => fieldFrame raw s
  | _ =>
    match receptionOf line raw with
    | none => latch .frameDiscarded s
    | some d => deliver line d s

/-- The end of a received frame that the tests of its line discard (R168, R170). -/
def execDiscardedFrame (line : Line) (raw : RawFrame) (s : State) :
    Host.Outcome State Fault Refusal :=
  .next (receiveFrame line raw s)

/-! ### RIDE STATUS (R184) -/

/-- The RIDE STATUS frame of the state (R184). -/
def State.statusFrame (s : State) : Frame :=
  { kind := kindRideStatus, address := 0, payload := s.statusRecord }

/-- The status-period timer expires: a RIDE STATUS frame is queued if there is room and skipped
otherwise, and the timer restarts with the stored status period (R184, R174). -/
def execStatusPeriodExpiry (s : State) : Host.Outcome State Fault Refusal :=
  let s1 := { s with timers := { s.timers with status := s.after s.ride.statusPeriod } }
  .next (if s.hasRoom then queueFrames [s.statusFrame] s1 else s1)

/-! ### Resets (R165, R167) -/

/-- A cabin record as RESTART leaves it: every window closed, the door, answer, zone-count and
entry-barred fields at their reset values, the rest kept (R50). -/
def Cabin.restarted (c : Cabin) : Cabin :=
  { c with window := IdWindow.closed, door := .notAtPlatform, hasValid := false, zoneCount := 0,
           entryBarred := false }

/-- A mast record as RESTART leaves it: its table element kept, its dynamic fields reset (R93, R113).
R99 says that samples of a cycle cut by a RESTART stay in the masts' means and windows; that the reset
wins is the model's choice (log entry 33, DEDUCED). -/
def Mast.restarted (m : Mast) : Mast :=
  { Mast.initial with address := m.address, factor := m.factor, halves := m.halves }

/-- The receive buffers after a reset (R168, R178): empty, and on the field line whatever frame was
coming in is lost. -/
def ReceiveBuffers.cut (b : ReceiveBuffers) : ReceiveBuffers :=
  { ReceiveBuffers.initial with field := if b.field = .empty then .empty else .lost }

/-- The state when a RESTART takes effect (R167): the power-on state, but for the tables, the tables
mark, the kept cabin fields, the ms counter and the stored timer periods.  The cause-present states
are re-taken from the owning blocks (R136). -/
def restart (s : State) : State :=
  retest
    { State.reset with
      ms := s.ms
      modeRec := { mode := s.modeRec.mode, checked := s.modeRec.checked, restartPending := false }
      ride := s.ride
      zone := s.zone
      windTable := s.windTable
      pollParams := s.pollParams
      pollEntries := s.pollEntries
      passList := s.passList
      profiles := s.profiles
      req := RequestedSpeed.initial s.ms
      cabins := s.cabins.map Cabin.restarted
      masts := s.masts.map Mast.restarted
      holds := resetHolds s.ms
      timers := { drive := s.after s.ride.period, poll := s.after s.pollParams.period,
                  status := s.after s.ride.statusPeriod }
      rx := s.rx.cut
      freeCount := s.freeCount
      pending := s.pending }

/-- The power-on state (R165), with a frame half received lost (R168); the queue of waiting commands and
the count of free choices are the model's own and stay. -/
def powerOn (s : State) : State :=
  { State.reset with rx := s.rx.cut, freeCount := s.freeCount, pending := s.pending }

/-- Power-on or assertion of RESETN (R165). -/
def execResetn (s : State) : Host.Outcome State Fault Refusal := .next (powerOn s)

/-- The line unit has finished sending the RESTART reply: the restart takes effect (R166, R167). -/
def execRestartTakesEffect (s : State) : Host.Outcome State Fault Refusal :=
  .next (if s.modeRec.restartPending then restart s else s)

/-! ### Frames sent (R174) -/

/-- Whether a frame is the OK reply of a RESTART (R166). -/
def isRestartReply (f : Frame) : Bool :=
  f.kind == kindReply &&
  match f.payload with
  | [code, _, _, _, status] => code == RequestKind.code .restart && status == 0
  | _ => false

/-- The last character of the console queue's first frame has been sent: the frame leaves the queue, and
waiting requests may be taken (R174, R172).  When it was the RESTART reply, the restart takes effect
(R166). -/
def consoleFrameSent (s : State) : State :=
  match s.consoleQueue with
  | [] => s
  | f :: rest =>
    if s.modeRec.restartPending && isRestartReply f then restart s
    else takeWaiting { s with consoleQueue := rest }

/-- A console queue frame has been sent (R174). -/
def execConsoleFrameSent (s : State) : Host.Outcome State Fault Refusal :=
  .next (consoleFrameSent s)

end Sys2Proof.Machine
end

