-- ==== Sys2Proof/Machine/Clock.lean ====
section
/-! DEFINITION. The part's clock: what happens when no command waits.  Every timer of the part holds the
ms counter value of its expiry; an expiry that has fallen due is taken, and otherwise the ms counter
goes up by 1 (log entry 2). -/

namespace Sys2Proof.Machine

/-- Whether a timer's expiry has been reached; differences of the ms counter are taken modulo 2^32
(R1). -/
def State.reached (s : State) (t : Word32) : Bool := decide (0 ≤ (s.ms - t).toInt)

/-- Whether a timer that may be stopped has reached its expiry. -/
def State.reachedBy (s : State) (t : Option Word32) : Bool :=
  match t with
  | none => false
  | some x => s.reached x

/-- The setpoint age (R20). -/
def State.setpointAge (s : State) : Nat := s.since s.req.ageBase

/-- Whether the stale expiry is due: armed in SERVICE with the age above the stale time (R20). -/
def State.staleDue (s : State) : Bool :=
  s.modeRec.mode == .service && s.expiries.staleArmed && decide (s.ride.staleTime < s.setpointAge)

/-- Whether the loss expiry is due; the stale expiry is taken first (R20). -/
def State.lossDue (s : State) : Bool :=
  s.modeRec.mode == .service && s.expiries.lossArmed && decide (s.ride.lossTime < s.setpointAge) &&
    !s.staleDue

/-- The expiry of the field-line timer, by what the entry in flight waits for (R83, R85). -/
def State.fieldDue (s : State) : List Instr :=
  if s.reachedBy s.poller.timer then
    match s.poller.phase with
    | .replyWait => [.replyWaitExpiry]
    | .settling => [.settlingFrameOverrun]
    | .lateWindow => [.lateWindowEnd]
    | _ => []
  else []

/-- A command if a condition holds. -/
def whenDue (c : Bool) (i : Instr) : List Instr := if c then [i] else []

/-- The expiries that are due now. -/
def State.dueExpiries (s : State) : List Instr :=
  whenDue (s.reached s.timers.drive) .drivePeriodExpiry ++
  whenDue (s.reached s.timers.poll) .pollTimerExpiry ++
  whenDue (s.reached s.timers.status) .statusPeriodExpiry ++
  whenDue (s.fb.state == .present && s.reachedBy s.fb.timer) .feedbackTimeout ++
  whenDue s.staleDue .staleExpiry ++ whenDue s.lossDue .lossExpiry ++
  whenDue (s.run.running && s.reachedBy s.run.dwellTimer) .dwellTimerExpiry ++
  whenDue (s.run.running && s.reachedBy s.run.durationTimer) .durationTimerExpiry ++
  s.fieldDue

/-- The expiry to take now, with the state it is taken in: of several due, the spec lets either be
taken first, and the choice is free (log entry 3). -/
def nextDue (s : State) : Option (Instr × State) :=
  match s.dueExpiries with
  | [] => none
  | [i] => some (i, s)
  | i :: is =>
    some ((i :: is).getD (Config.tieBreak s.freeCount % (i :: is).length) i,
      { s with freeCount := s.freeCount + 1 })

/-- One ms passes. -/
def tick (s : State) : State := { s with ms := s.ms + 1 }

end Sys2Proof.Machine
end

