-- ==== Sys2Proof/Machine/Dispatch.lean ====
section
/-! DEFINITION. One arm per command: the meaning of every row of spec/opcode_table.json. -/

namespace Sys2Proof.Machine

def exec (i : Instr) (s : State) : Host.Outcome State Fault Refusal :=
  match i with
  | .resetn => Sys2Proof.Machine.execResetn s
  | .setpoint speed => Sys2Proof.Machine.execSetpoint speed s
  | .feedback f => Sys2Proof.Machine.execFeedback f s
  | .request code tag args => Sys2Proof.Machine.execRequest code tag args s
  | .auxFrame line kind payload => Sys2Proof.Machine.execAuxFrame line kind payload s
  | .discardedFrame line raw => Sys2Proof.Machine.execDiscardedFrame line raw s
  | .answer raw => Sys2Proof.Machine.execAnswer raw s
  | .lateAnswer raw => Sys2Proof.Machine.execLateAnswer raw s
  | .unsolicitedFrame raw => Sys2Proof.Machine.execUnsolicitedFrame raw s
  | .replyWaitExpiry => Sys2Proof.Machine.execReplyWaitExpiry s
  | .lateWindowEnd => Sys2Proof.Machine.execLateWindowEnd s
  | .settlingFrameOverrun => Sys2Proof.Machine.execSettlingFrameOverrun s
  | .poll => Sys2Proof.Machine.execPoll s
  | .pollTimerExpiry => Sys2Proof.Machine.execPollTimerExpiry s
  | .drivePeriodExpiry => Sys2Proof.Machine.execDrivePeriodExpiry s
  | .staleExpiry => Sys2Proof.Machine.execStaleExpiry s
  | .lossExpiry => Sys2Proof.Machine.execLossExpiry s
  | .feedbackTimeout => Sys2Proof.Machine.execFeedbackTimeout s
  | .statusPeriodExpiry => Sys2Proof.Machine.execStatusPeriodExpiry s
  | .dwellTimerExpiry => Sys2Proof.Machine.execDwellTimerExpiry s
  | .durationTimerExpiry => Sys2Proof.Machine.execDurationTimerExpiry s
  | .restartTakesEffect => Sys2Proof.Machine.execRestartTakesEffect s
  | .consoleFrameSent => Sys2Proof.Machine.execConsoleFrameSent s
  | .driveFrameSent => Sys2Proof.Machine.execDriveFrameSent s
  | .statusRead tag => Sys2Proof.Machine.execStatusRead tag s
  | .modeSetService tag => Sys2Proof.Machine.execModeSetService tag s
  | .modeSetSetup tag => Sys2Proof.Machine.execModeSetSetup tag s
  | .restart tag => Sys2Proof.Machine.execRestart tag s
  | .tableWrite tag table first data => Sys2Proof.Machine.execTableWrite tag table first data s
  | .tableRead tag table first count => Sys2Proof.Machine.execTableRead tag table first count s
  | .cabinRead tag first count => Sys2Proof.Machine.execCabinRead tag first count s
  | .cabinSetVerify tag cabin count => Sys2Proof.Machine.execCabinSetVerify tag cabin count s
  | .cabinSetCorrect tag cabin count => Sys2Proof.Machine.execCabinSetCorrect tag cabin count s
  | .cabinSetTakeOut tag cabin count => Sys2Proof.Machine.execCabinSetTakeOut tag cabin count s
  | .cabinSetReturn tag cabin count => Sys2Proof.Machine.execCabinSetReturn tag cabin count s
  | .holdPlace tag cls => Sys2Proof.Machine.execHoldPlace tag cls s
  | .holdRelease tag source => Sys2Proof.Machine.execHoldRelease tag source s
  | .holdList tag => Sys2Proof.Machine.execHoldList tag s
  | .snapshotTake tag => Sys2Proof.Machine.execSnapshotTake tag s
  | .profileRun tag profile repeats wait => Sys2Proof.Machine.execProfileRun tag profile repeats wait s
  | .profileStop tag => Sys2Proof.Machine.execProfileStop tag s
  | .profileStatus tag => Sys2Proof.Machine.execProfileStatus tag s
  | .windRead tag => Sys2Proof.Machine.execWindRead tag s
  | .traceTake tag n => Sys2Proof.Machine.execTraceTake tag n s
  | .pollNow tag => Sys2Proof.Machine.execPollNow tag s
  | .pollResults tag => Sys2Proof.Machine.execPollResults tag s
  | .unknownRequest code tag args => Sys2Proof.Machine.execUnknownRequest code tag args s
  | .entrySettled => Sys2Proof.Machine.execEntrySettled s

end Sys2Proof.Machine
end

