-- ==== Sys2Proof/Machine/Step.lean ====
section
/-! DEFINITION. The step: the command at the front of the queue, or the clock when none waits. -/

namespace Sys2Proof.Machine

/-- One step of the part: the command at the front of the queue is taken, with the queue's rest; on an
empty queue an expiry that is due is taken, or one ms passes (log entry 2). -/
def step (s : State) : Host.Outcome State Fault Refusal :=
  match s.pending with
  | c :: rest => exec c { s with pending := rest }
  | [] =>
    match nextDue s with
    | some (c, t) => exec c t
    | none => .next (tick s)

/-- The state with the command a word spells at the front of its queue, unchanged where the word spells
none: no row of the table gives bits, so every word spells none. -/
def State.withFetchWord (s : State) (nbits w : Nat) : State :=
  match decodeTableWord nbits w with
  | some c => { s with pending := c :: s.pending }
  | none => s

end Sys2Proof.Machine
end

