-- ==== Sys2Proof/WellFormed.lean ====
section
/-! DEFINITION. Well-formed commands: the operands that the event of a row can carry. -/

namespace Sys2Proof

open Sys2Proof.Machine

/-- Whether a run of received characters is a frame at all: a frame holds one character or more (R168). -/
def RawFrame.wf (raw : RawFrame) : Bool := !raw.chars.isEmpty

/-- Whether a frame that ended on a line is one that the tests of that line discard (R168 to R170).  On
the field line the tests that need no entry in flight are those of R168, R169 and the kind. -/
def discards (line : Line) (raw : RawFrame) : Bool :=
  match line with
  | .field =>
    match frameOf raw with
    | none => true
    | some f => f.kind != kindAnswer
  | _ => (receptionOf line raw).isNone

/-- Whether a command carries operands that its event can have: an AUX frame from the console or the
drive line with an AUX kind, payloads that fit 60 bytes (9.5), a discarded frame that its line's tests
do discard, and an unknown code that is none of the eighteen (R180). -/
def Instr.wf : Instr → Bool
  | .resetn => true
  | .setpoint _ => true
  | .feedback _ => true
  | .request _ _ args => decide (args.length ≤ 58)
  | .auxFrame line kind payload =>
    line != .field && isAuxKind kind && decide (payload.length ≤ 60)
  | .discardedFrame line raw => raw.wf && discards line raw
  | .answer raw => raw.wf
  | .lateAnswer raw => raw.wf
  | .unsolicitedFrame raw => raw.wf
  | .replyWaitExpiry => true
  | .lateWindowEnd => true
  | .settlingFrameOverrun => true
  | .poll => true
  | .pollTimerExpiry => true
  | .drivePeriodExpiry => true
  | .staleExpiry => true
  | .lossExpiry => true
  | .feedbackTimeout => true
  | .statusPeriodExpiry => true
  | .dwellTimerExpiry => true
  | .durationTimerExpiry => true
  | .restartTakesEffect => true
  | .consoleFrameSent => true
  | .driveFrameSent => true
  | .statusRead _ => true
  | .modeSetService _ => true
  | .modeSetSetup _ => true
  | .restart _ => true
  | .tableWrite _ _ _ data => decide (data.length ≤ 56)
  | .tableRead _ _ _ _ => true
  | .cabinRead _ _ _ => true
  | .cabinSetVerify _ _ _ => true
  | .cabinSetCorrect _ _ _ => true
  | .cabinSetTakeOut _ _ _ => true
  | .cabinSetReturn _ _ _ => true
  | .holdPlace _ _ => true
  | .holdRelease _ _ => true
  | .holdList _ => true
  | .snapshotTake _ => true
  | .profileRun _ _ _ _ => true
  | .profileStop _ => true
  | .profileStatus _ => true
  | .windRead _ => true
  | .traceTake _ _ => true
  | .pollNow _ => true
  | .pollResults _ => true
  | .unknownRequest code _ args => (requestKindOf code).isNone && decide (args.length ≤ 58)
  | .entrySettled => true

end Sys2Proof
end

