-- ==== Sys2Proof/Safety.lean ====
section
/-! DEFINITION. What a good state of the part is: the laws that the rules state of the records at every
moment, as one invariant with a part for each block. -/

namespace Sys2Proof.Machine

/-! ### Queues (R172, R174, R176) -/

/-- The transmit queues and the request buffer keep their bounds: 16 console places with one kept while
a wait is outstanding, 2 requests, 3 AUX places, and the drive line sends only a frame it holds. -/
abbrev QueueInv (s : State) : Prop :=
  s.consoleQueue.length + (if s.waitTag.isSome then 1 else 0) ≤ 16 ∧
  s.requests.length ≤ 2 ∧
  s.driveQueue.aux.length ≤ 3 ∧
  (s.driveQueue.sending = .order → s.driveQueue.order.isSome = true) ∧
  (s.driveQueue.sending = .aux → s.driveQueue.aux ≠ [])

/-! ### Tables and modes (R156, R157, R161) -/

/-- Commit checks 1 to 10, the ones that depend on the tables alone (R161, R162). -/
def State.tableChecks (s : State) : List Bool := s.commitChecks.take 10

/-- SERVICE is held only with the tables CHECKED, a CHECKED mark means that checks 1 to 10 pass on the
stored tables, and a restart is pending only in SETUP. -/
abbrev TableInv (s : State) : Prop :=
  (s.modeRec.mode = .service → s.modeRec.checked = true) ∧
  (s.modeRec.checked = true → s.tableChecks.all id = true) ∧
  (s.modeRec.restartPending = true → s.modeRec.mode = .setup)

/-! ### The drive gate (R6, R11) -/

/-- The last order setpoint is V rounded, V keeps to the reverse limit and the ride max speed, and V is
0 in SETUP. -/
abbrev SpeedInv (s : State) : Prop :=
  s.out.setpoint = roundSetpoint s.out.v ∧
  -(1000 * (s.ride.reverseLimit : Int)) ≤ s.out.v ∧
  s.out.v ≤ 1000 * (s.ride.maxSpeed : Int) ∧
  (s.modeRec.mode = .setup → s.out.v = 0)

/-! ### The profile unit (R139) -/

/-- The speed source is PROFILE exactly while a run is RUNNING, a run is RUNNING only in SERVICE with no
STOP entry, its duration timer runs exactly then, and a wait is outstanding only then. -/
abbrev RunInv (s : State) : Prop :=
  (s.req.source = .profile ↔ s.run.running = true) ∧
  (s.run.running = true → s.modeRec.mode = .service ∧ s.hasStop = false) ∧
  (s.run.durationTimer.isSome = s.run.running) ∧
  (s.run.dwellTimer.isSome = true → s.run.running = true) ∧
  (s.waitTag.isSome = true → s.run.running = true)

/-! ### The hold manager (R115, R116, R124, R45, R105) -/

/-- Whether an entry is in one of the forms of R116, with the cause-present flag of R117 and R124. -/
def HoldEntry.formed (c : CauseStates) (e : HoldEntry) : Bool :=
  e.present == presentFlag e.source c &&
  match e.source with
  | .wind => !e.latched && e.subject.isNone &&
      ((e.cause == 2 && e.cls == .slow) || (e.cause == 3 && e.cls == .stop))
  | .masts => !e.latched && e.subject.isNone &&
      ((e.cause == 0 && e.cls == .creep) || (within 1 e.cause 3 && e.cls == .slow))
  | .position => e.subject.isNone &&
      ((!e.latched && e.cls == .creep && within 1 e.cause 2) ||
        (e.latched && e.cls == .stop && e.cause == 3))
  | .command => !e.latched && e.subject.isNone && e.cause == 1 && e.cls == .stop
  | .door => e.latched && e.subject.isSome && within 1 e.cause 4 && e.cls == .stop
  | .platform => e.latched && within 1 e.cause 2 && e.cls == .stop
  | .drive => e.latched && e.cls == .stop &&
      ((e.cause == 1 && e.subject.isNone) || (e.cause == 2 && e.subject.any fun k => within 1 k 255))
  | .console => e.latched && e.subject.isNone && e.cause == 1

/-- The cause of the POSITION entry that a tracker state calls for, none for LOCKED (R45). -/
def TrackerState.holdCause : TrackerState → Option Nat
  | .searching => some 1
  | .coasting => some 2
  | .lost => some 3
  | .locked => none

/-- The cause of the WIND entry that a level calls for, none for CALM and WATCH (R105). -/
def WindLevel.holdCause : WindLevel → Option Nat
  | .calm => none
  | .watch => none
  | .restrict => some 2
  | .hold => some 3

/-- At most one entry per source, every entry in a form of R116, the cause-present states equal to the
tests as they stand, and the POSITION and WIND entries the ones that the tracker state and the wind
level call for. -/
abbrev HoldInv (s : State) : Prop :=
  (s.holds.map fun e => e.source).Nodup ∧
  (∀ e ∈ s.holds, e.formed s.causes = true) ∧
  s.causes = s.tests ∧
  (s.entry .position).map (fun e => e.cause) = s.tracker.state.holdCause ∧
  (s.entry .wind).map (fun e => e.cause) = s.wind.level.holdCause

/-! ### Snapshots (R133) -/

/-- At most two snapshots are unread, and every unread one stands in its slot. -/
abbrev SnapInv (s : State) : Prop :=
  s.snaps.unread ≤ 2 ∧
  (1 ≤ s.snaps.unread → (s.snaps.slot s.snaps.r).isSome = true) ∧
  (s.snaps.unread = 2 → (s.snaps.slot (s.snaps.r + 1)).isSome = true)

/-! ### The rim tracker (R27, R28) -/

/-- The record of each tracker state: LOCKED and COASTING have the phase, an index below N and a rim
count, SEARCHING and LOST no index, LOST no phase; the candidate is of SEARCHING, the mismatch memory
of LOCKED and the miss streak of COASTING alone. -/
abbrev TrackerInv (s : State) : Prop :=
  (s.tracker.state = .locked ∨ s.tracker.state = .coasting →
    s.tracker.phaseKnown = true ∧ s.tracker.lastRim.isSome = true ∧
    (s.tracker.index.any fun i => decide (i < s.ride.n)) = true) ∧
  (s.tracker.state = .searching ∨ s.tracker.state = .lost → s.tracker.index = none) ∧
  (s.tracker.state = .lost → s.tracker.phaseKnown = false) ∧
  (s.tracker.candidate.isSome = true → s.tracker.state = .searching) ∧
  (s.tracker.mismatch.isSome = true → s.tracker.state = .locked) ∧
  (s.tracker.missStreak ≠ 0 → s.tracker.state = .coasting) ∧
  (s.tracker.travelHanded = true → s.tracker.travelKnown = true)

/-! ### The boarding controller (R47, R48, R62, R46) -/

/-- A cabin record at every moment: the count within the capacity and as its state says, OUT_OF_SERVICE
exactly without the in-service mark, and the fields of a platform pass at rest outside one. -/
def Cabin.good (c : Cabin) : Bool :=
  c.tag.length == 8 && decide (c.capacity ≤ 40) && decide (c.count ≤ c.capacity) &&
  (c.inService == (c.state != .outOfService)) &&
  (c.state != .empty || c.count == 0) && (c.state != .loaded || c.count != 0) &&
  (c.state != .outOfService || c.count == 0) &&
  (c.state.onPlatform ||
    (c.door == .notAtPlatform && !c.hasValid && c.zoneCount == 0)) &&
  (c.hasValid || c.zoneCount == 0) && (!c.entryBarred || c.state == .boarding)

/-- The cabin table holds 64 good records, and a cabin is in ALIGHTING or BOARDING only in SERVICE with
the tracker LOCKED or COASTING. -/
abbrev CabinInv (s : State) : Prop :=
  s.cabins.length = 64 ∧ (∀ c ∈ s.cabins, c.good = true) ∧
  (s.occupied = true → s.modeRec.mode = .service ∧
    (s.tracker.state = .locked ∨ s.tracker.state = .coasting))

/-! ### The wind monitor (R93, R97, R98, R102) -/

/-- A mast record at every moment: the accumulator within 0 to 16,368, at most G samples, each at most
1,023, and no seed and no sample unless FRESH. -/
def Mast.good (g : Nat) (m : Mast) : Bool :=
  decide (m.acc ≤ 16368) && decide (m.window.length ≤ g) && m.window.all (fun x => decide (x ≤ 1023)) &&
  (m.freshness == .fresh || (!m.seeded && m.window.isEmpty && m.acc == 0))

/-- Four good mast records, governing values within 0 to 1,023, counters within their ranges, the run
minimum present exactly during a run upward, and the WIND table in range. -/
abbrev WindInv (s : State) : Prop :=
  s.windTable.inRange = true ∧
  s.masts.length = 4 ∧ (∀ m ∈ s.masts, m.good s.windTable.gustLength = true) ∧
  s.wind.govMean ≤ 1023 ∧ s.wind.govGust ≤ 1023 ∧ s.wind.freshCount ≤ 4 ∧
  s.wind.up ≤ 16 ∧ s.wind.down ≤ 4800 ∧ (s.wind.up = 0 ↔ s.wind.runMin = none)

/-- The value that replay has reached, none before the first value-bearing entry (R106). -/
def replay : Option Int → List TraceEntry → Option Int
  | v, [] => v
  | _, .full x :: es => replay (some x) es
  | v, .delta ds :: es => replay (v.map fun x => x + ds.sum) es
  | v, .level _ :: es => replay v es
  | v, .gap :: es => replay v es

/-- Whether the entries can be replayed: no DELTA before a value, 1 to 3 deltas of magnitude at most 7
in each, and every value reached within 0 to 1,023 (R106). -/
def replays : Option Int → List TraceEntry → Bool
  | _, [] => true
  | _, .full x :: es => decide (x ≤ 1023) && replays (some x) es
  | v, .delta ds :: es =>
    decide (1 ≤ ds.length) && decide (ds.length ≤ 3) && ds.all (fun d => decide (d.natAbs ≤ 7)) &&
    (match v with
      | none => false
      | some x => decide (0 ≤ x + ds.sum) && decide (x + ds.sum ≤ 1023)) &&
    replays (v.map fun x => x + ds.sum) es
  | v, .level _ :: es => replays v es
  | v, .gap :: es => replays v es

/-- The trace holds at most 1,024 entries, replays from its start, and its last value, when known, is
the value replay ends with; the last value is UNKNOWN while the gap mark is SET. -/
abbrev TraceInv (s : State) : Prop :=
  s.trace.entries.length ≤ 1024 ∧
  replays none s.trace.entries = true ∧
  (∀ v ∈ s.trace.last, replay none s.trace.entries = some (v : Int)) ∧
  (s.trace.gapMark = true → s.trace.last = none)

/-! ### The field poller (R77 to R79) -/

/-- The poller is IDLE exactly without an entry in flight, a pending mark stands only in a cycle, the
entry in flight is a set entry of the walked list, and there are 16 entries and results. -/
abbrev PollInv (s : State) : Prop :=
  (s.poller.phase = .idle ↔ s.poller.inFlight = none) ∧
  (s.poller.pendingMark = true → s.poller.phase ≠ .idle) ∧
  (∀ i ∈ s.poller.inFlight, i < s.walked.length ∧ (s.pollEntry i).kind ≠ .unset) ∧
  s.pollEntries.length = 16 ∧ s.results.length = 16

/-! ### The receive buffers (R168, R82, R83) -/

/-- The settling frame is none that a reset cut short, no POLL stands in its reply wait while another
frame comes in, and the other two buffers are empty between commands (log entry 11). -/
abbrev LineInv (s : State) : Prop :=
  s.rx.console = .empty ∧ s.rx.drive = .empty ∧
  (s.poller.phase = .settling → s.rx.field ≠ .lost) ∧
  (s.poller.phase = .replyWait → s.rx.field = .empty)

/-! ### The whole invariant -/

/-- The tables have their element counts (8.2), and the RIDE table, once written, is in range. -/
abbrev ShapeInv (s : State) : Prop :=
  s.passList.length = 8 ∧ s.profiles.length = 8 ∧ (∀ p ∈ s.profiles, p.length = 16) ∧
  (s.ride = RideTable.default ∨ s.ride.inRange = true) ∧ s.zone.inRange = true

/-- The invariant of the part: every law above at once. -/
structure Inv (s : State) : Prop where
  queue : QueueInv s
  table : TableInv s
  speed : SpeedInv s
  run : RunInv s
  hold : HoldInv s
  snap : SnapInv s
  tracker : TrackerInv s
  cabin : CabinInv s
  wind : WindInv s
  trace : TraceInv s
  poll : PollInv s
  line : LineInv s
  shape : ShapeInv s

/-- A state in which the management responder takes a request as it arrives: nothing waits in the
request buffer, no restart is pending, and the console queue has 3 free places (R172). -/
abbrev State.ready (s : State) : Prop :=
  s.requests = [] ∧ s.modeRec.restartPending = false ∧ 3 ≤ s.freePlaces

/-! ### Replies as the statements spell them (R153, R173, R181) -/

/-- A reply of one part: request code, tag, part 0, the last-part mark, the status code, and at most 55
bytes of data (R173, 9.5). -/
def onePart (code tag status : Byte) (data : List Byte) : Frame :=
  { kind := 0x21, address := 0, payload := [code, tag, 0, 1, status] ++ data }

/-- The final reply that an end of the run with this status code makes now: none without a wait
outstanding (R153). -/
def State.finalParts (s : State) (status : Byte) : List Frame :=
  match s.waitTag with
  | none => []
  | some tag =>
    [onePart 0x20 tag status [orNone1 s.run.profile, byte s.run.step, byte s.run.repeats]]

/-- The state with these frames behind those of the console queue. -/
abbrev State.queued (s : State) (fs : List Frame) : State :=
  { s with consoleQueue := s.consoleQueue ++ fs }

/-! ### Shared effects as the statements spell them (R46, R54, R126) -/

/-- The state as the three effects of a STOP leave it (R126), for the entry added or raised, which the
list holds already: disarmed; a run ended HELD with its final reply (R150, R153); and a snapshot (R132)
captured into the next slot, or over the newer of two unread ones (R133, R134). -/
def State.stopped (s : State) (e : HoldEntry) : State :=
  let full : Bool := decide (2 ≤ (s.snaps.w - s.snaps.r).toNat)
  let x : Snapshot :=
    { time := s.ms, source := e.source, cause := e.cause, subject := e.subject, cls := e.cls
      setpoint := s.out.setpoint, speed := s.fb.speed, rim := s.tracker.lastRim
      trackerState := s.tracker.state, index := s.tracker.index, level := s.wind.level
      govMean := s.wind.govMean, govGust := s.wind.govGust, entries := s.holds.length
      superseded := full }
  let at1 : Bool := (if full then s.snaps.w - 1 else s.snaps.w).getLsbD 0
  { s with
    req := if s.run.running then { s.req with value := 0, armed := false, source := .console }
           else { s.req with armed := false }
    run := if s.run.running then
        { s.run with
          running := false, finalTime := (s.ms - s.run.stepStart).toNat, dwellTimer := none
          durationTimer := none, lastEnd := some .held }
      else s.run
    consoleQueue := s.consoleQueue ++ (if s.run.running then s.finalParts 18 else [])
    waitTag := if s.run.running then none else s.waitTag
    snaps :=
      { slot0 := if at1 then s.snaps.slot0 else some x
        slot1 := if at1 then some x else s.snaps.slot1
        w := if full then s.snaps.w else s.snaps.w + 1
        r := s.snaps.r }
    latched := if full then { s.latched with snapshotSuperseded := true } else s.latched }

/-- The state as a conversion leaves it (R46, R54): every cabin in ALIGHTING or BOARDING UNVERIFIED,
withheld for POSITION and off the platform, every window CLOSED, and the profile unit told of the change
if there was a cabin to convert (R53, R146). -/
def State.converted (s : State) : State :=
  let closed : IdWindow := ⟨false, 0, none, 0⟩
  let t : State := { s with cabins := s.cabins.map fun c =>
    if c.state = .alighting ∨ c.state = .boarding then
      { c with
        state := .unverified, withheld := some .position, door := .notAtPlatform, hasValid := false
        zoneCount := 0, entryBarred := false, exitTime := s.ms, window := closed }
    else { c with window := closed } }
  if s.cabins.any (fun c => c.state == .alighting || c.state == .boarding) then cabinChanged t else t

end Sys2Proof.Machine
end

