-- ==== Sys2Proof/Certificates/Slice0/Obligations.lean ====
section
/-! DEFINITION. The statements about the KN-4832 that the provers are asked for.  Each formalises rules
of the spec, named in its docstring; what is the model's own choice says so and names its log entry. -/

open Sys2Proof Sys2Proof.Machine

/-! ### The machine as a whole -/

/-- A step with a command at the front of the queue runs that command on the state with the queue's
rest.  The queue is the model's own (log entry 2). -/
def Obligations.StepTakesFrontCommand : Prop :=
  ∀ (c : Instr) (rest : List Instr) (s : State),
    step { s with pending := c :: rest } = exec c { s with pending := rest }

/-- With no command waiting, a step takes an expiry that is due, and otherwise lets one ms pass.  This
clock is the model's choice (log entry 2), and so is the free choice among several due (log entry 3). -/
def Obligations.IdleStepIsTheClock : Prop :=
  ∀ s : State, s.pending = [] →
    (s.dueExpiries = [] → step s = .next { s with ms := s.ms + 1 }) ∧
    (∀ i, s.dueExpiries = [i] → step s = exec i s) ∧
    (s.dueExpiries ≠ [] → ∃ i ∈ s.dueExpiries, ∃ n, step s = exec i { s with freeCount := n })

/-- RESETN (R165, R178): from any state, every record, table, queue, buffer and timer at the value the
spec gives for power-on.  A frame being received is lost with no event (R168): the field line's buffer is
empty and marked so that the rest of that frame is none (log entry 11).  The queue of commands and the
count of free choices are the model's own and are kept (log entry 2). -/
def Obligations.ResetnGivesPowerOnState : Prop :=
  ∀ s : State, ∃ t, exec .resetn s = .next t ∧
    t.ms = 0 ∧ t.modeRec = ⟨.setup, false, false⟩ ∧
    t.ride = ⟨0, 10000, 260, 50, 50, 150, 260, 300, 20, 30, 150, 20, 60, 300, 100, 5, 500, 100, 2,
      1000, 250⟩ ∧
    t.zone = ⟨0, 0, 0, 0, 0, 40, 2⟩ ∧
    t.windTable = ⟨6, 12, 100, 150, 140, 200, 180, 250, 10, 15, 2, 240, 1⟩ ∧
    t.pollParams = ⟨250, 10, 4, 2⟩ ∧
    t.pollEntries = List.replicate 16 ⟨0, .unset, false⟩ ∧
    t.passList = List.replicate 8 ⟨0, 0, false, false⟩ ∧
    t.profiles = List.replicate 8 (List.replicate 16 ⟨0, 0, .clear, 0, 0, false⟩) ∧
    t.req = ⟨0, false, 0, false, .console⟩ ∧ t.expiries = ⟨false, false⟩ ∧
    t.out = ⟨0, 0, .apply, 0, 0, 0⟩ ∧ t.fb = ⟨.absent, none, .unknown, 0, 0, none⟩ ∧
    t.still = ⟨none, false⟩ ∧
    t.tracker = ⟨.searching, false, 0, none, 0, none, .still, none, 0, none, false⟩ ∧
    t.cabins = List.replicate 64 ⟨List.replicate 8 0, 0, false, .outOfService, 0, false, none, false,
      false, ⟨false, 0, none, 0⟩, .none, .notAtPlatform, false, 0, 0⟩ ∧
    t.alightStation = ⟨none, false, .unknown⟩ ∧ t.boardStation = ⟨none, false, .unknown⟩ ∧
    t.poller = ⟨.idle, none, false, none, none⟩ ∧
    t.rx = ⟨.empty, .empty, if s.rx.field = .empty then .empty else .lost⟩ ∧
    t.results = List.replicate 16 ⟨.notPolled, .unknown, 0, 0⟩ ∧
    t.masts = List.replicate 4 ⟨0, 256, false, .unknown, false, 0, [], none, none⟩ ∧
    t.wind = ⟨0, 0, 0, .calm, 0, none, 0⟩ ∧ t.trace = ⟨[], none, none, false⟩ ∧
    t.holds = [⟨.position, .creep, 1, none, 0, false, true⟩,
      ⟨.masts, .creep, 0, none, 0, false, true⟩] ∧
    t.causes = ⟨false, false, false⟩ ∧ t.snaps = ⟨none, none, 0, 0⟩ ∧
    t.run = ⟨false, none, 0, 0, 0, 0, false, none, none, 0, none, false⟩ ∧
    t.consoleQueue = [] ∧ t.driveQueue = ⟨none, [], .free⟩ ∧ t.requests = [] ∧ t.waitTag = none ∧
    t.latched.bits = 0 ∧ t.timers = ⟨20, 250, 250⟩ ∧
    t.freeCount = s.freeCount ∧ t.pending = s.pending

/-- The state right after reset meets the invariant. -/
def Obligations.ResetMeetsInvariant : Prop := Inv State.reset

/-- Every step from a state that meets the invariant leads to one that meets it: all the laws of Safety
at once, for every command, every expiry and the tick. The DOOR test of the hold list counts all 64
records (log entry 29). -/
def Obligations.EveryStepKeepsInvariant : Prop :=
  ∀ s t : State, Inv s → step s = .next t → Inv t

/-- The bounds of the queues (R172, R174, R176) are kept by every step: no reply is ever without its
place, and the place of a waiting run's final reply is always there. -/
def Obligations.QueueBoundsKept : Prop :=
  ∀ s t : State, QueueInv s → step s = .next t → QueueInv t

/-- The speed source is PROFILE exactly while a run is RUNNING, and a run is RUNNING only in SERVICE
with no STOP entry in the list (R139). -/
def Obligations.ProfileSourceLawKept : Prop :=
  ∀ s t : State, RunInv s → step s = .next t → RunInv t

/-- The hold list keeps one entry per source in the forms of R116, its cause-present flags equal the
tests as they stand (R124; the DOOR test counts all 64 records, log entry 29), and the POSITION and WIND
entries follow the tracker state (R45) and the wind level (R105). The WIND table in range bounds the MASTS
cause. -/
def Obligations.HoldListLawKept : Prop :=
  ∀ s t : State, HoldInv s → WindInv s → step s = .next t → HoldInv t

/-- Every cabin's count lies within its capacity (R48), and a cabin is in ALIGHTING or BOARDING only in
SERVICE with the tracker LOCKED or COASTING (R46, R65). -/
def Obligations.CabinLawKept : Prop :=
  ∀ s t : State, CabinInv s → TableInv s → step s = .next t → CabinInv t

/-- Whenever the trace holds a value-bearing entry, the oldest is FULL, and replay ends with the last
value (R106), through every append, trim and take. -/
def Obligations.TraceReplaysAlways : Prop :=
  ∀ s t : State, TraceInv s → WindInv s → step s = .next t → TraceInv t

/-- From SERVICE to SERVICE no step changes a table, apart from the in-service marks (R157): every
field of every table, and of every cabin and mast record its table element.  A restart takes effect
in SETUP alone (R167), which the invariant on the restart-pending flag gives, and at most two requests
are taken in one event. -/
def Obligations.TablesFixedInService : Prop :=
  ∀ s t : State, TableInv s → QueueInv s → step s = .next t →
    s.modeRec.mode = .service → t.modeRec.mode = .service →
    t.ride = s.ride ∧ t.zone = s.zone ∧ t.windTable = s.windTable ∧ t.pollParams = s.pollParams ∧
    t.pollEntries = s.pollEntries ∧ t.passList = s.passList ∧ t.profiles = s.profiles ∧
    t.masts.map (fun m => (m.address, m.factor, m.halves)) =
      s.masts.map (fun m => (m.address, m.factor, m.halves)) ∧
    t.cabins.map (fun c => (c.tag, c.capacity)) = s.cabins.map (fun c => (c.tag, c.capacity))

/-- The armed flag goes SET only through a zero SETPOINT, with no STOP entry left in the list (R2,
R3): whatever command makes it go SET is a SETPOINT that clamps to 0. -/
def Obligations.ArmedOnlyByZeroSetpoint : Prop :=
  ∀ (c : Instr) (s t : State), c.wf = true → exec c s = .next t →
    s.req.armed = false → t.req.armed = true →
    t.hasStop = false ∧ t.req.value = 0 ∧
    ∃ v, c = .setpoint v ∧ max (-(s.ride.reverseLimit : Int)) (min s.ride.maxSpeed v.toInt) = 0

/-- V, the last order setpoint, the brake request, the ceilings and the sequence count change at a
drive-period expiry and at resets alone (R5): every other command leaves the output record.  That a commit
leaves the brake request, against the line of R23, is the model's choice (log entry 25, DEDUCED).  Commands
taken while a restart is pending are left out, since one of them makes the restart take effect. -/
def Obligations.OutputChangesAtExpiryOnly : Prop :=
  ∀ (c : Instr) (s t : State), s.modeRec.restartPending = false → c ≠ .drivePeriodExpiry →
    c ≠ .resetn → exec c s = .next t → t.out = s.out

/-- A latched event stands until a STATUS READ or a reset (R185): no event, expiry or frame that is not
a request clears one. -/
def Obligations.LatchedEventsStand : Prop :=
  ∀ (c : Instr) (s t : State) (e : Event), s.requests = [] → s.modeRec.restartPending = false →
    c.wf = true →
    (match c with
      | .resetn => False
      | .request _ _ _ => False
      | .statusRead _ => False
      | _ => True) →
    exec c s = .next t → s.latched.has e = true → t.latched.has e = true

/-! ### The drive gate (chapter 1) -/

/-- A SETPOINT in full (R2): clamped and written, the age base set, the stale flag cleared and in
SERVICE the expiries rearmed, the COMMAND entry removed, and the armed flag SET when the clamped number is
0 and no other STOP entry stands (R2 and R20 state this case; R127 read beside them is log entry 32).
Nothing else changes. -/
def Obligations.SetpointTaken : Prop :=
  ∀ (s : State) (v : Word16), HoldInv s →
    let r := max (-(s.ride.reverseLimit : Int)) (min s.ride.maxSpeed v.toInt)
    exec (.setpoint v) s = .next
      { s with
        req := { s.req with
          value := r, ageBase := s.ms, stale := false
          armed := if r = 0 ∧ s.holds.all (fun e => e.cls != .stop || e.source == .command) = true
                   then true else s.req.armed }
        expiries := if s.modeRec.mode = .service then ⟨true, true⟩ else s.expiries
        holds := s.holds.filter fun e => e.source != .command
        latched := if r = v.toInt then s.latched else { s.latched with setpointClamped := true } }

/-- The fixed order of SETUP (R6): setpoint 0, APPLY, V 0, both ceilings 0, the HOLD flag alone, the
current sequence count, which then advances; and the timer restarts with the stored T (R5). That the order
takes the order place whatever stands there, and that a free line starts it in the same event, is the
model's reading of R176 (log entry 14, DEDUCED). -/
def Obligations.SetupOrderFixed : Prop :=
  ∀ s : State, s.modeRec.mode = .setup →
    exec .drivePeriodExpiry s = .next
      { s with
        out := ⟨0, 0, .apply, 0, 0, s.out.seq + 1⟩
        timers := { s.timers with drive := s.ms + BitVec.ofNat 32 s.ride.period }
        run := { s.run with ordersInStep := s.run.running || s.run.ordersInStep }
        driveQueue :=
          { order := some ⟨0x30, 0, [0, 0, 0, if s.holds = [] then 0 else 2, s.out.seq]⟩
            aux := s.driveQueue.aux
            sending := if s.driveQueue.sending = .free then .order else s.driveQueue.sending } }

/-- The order of SERVICE in full (R7 to R13): the ceilings are the least of their limits, the target R
is clamped to them, V moves toward it by at most rate × T and waits at 0 for the brake, the setpoint is V
rounded with halves away from zero, the brake request and the flags follow, and nothing but the output
record, the drive queue, the order timer and orders in step changes. That the order takes the order place
whatever stands there, and that a free line starts it in the same event, is the model's reading of R176
(log entry 14, DEDUCED). -/
def Obligations.ServiceOrderComputed : Prop :=
  ∀ s : State, s.modeRec.mode = .service →
    ∃ cf cr : Nat, ∃ v sp : Int, ∃ brake : BrakeRequest,
      let ceilings := s.holds.filterMap fun e => match e.cls with
        | .stop => some 0
        | .creep => some s.ride.creepSpeed
        | .slow => some s.ride.restrictCeiling
        | .noBoard => none
      let occupied := s.cabins.any fun c => c.state == .alighting || c.state == .boarding
      let forward := s.ride.maxSpeed :: ceilings ++ (if occupied then [s.ride.platformSpeed] else [])
      let reverse := if occupied then [0] else s.ride.reverseLimit :: ceilings
      let profile := s.req.source == .profile
      let stop := s.holds.any fun e => e.cls == .stop
      let r := if profile then s.currentStep.target else if s.req.armed then s.req.value else 0
      let q := max (-(cr : Int)) (min cf r)
      let vt := if (0 < s.out.v ∧ q < 0) ∨ (s.out.v < 0 ∧ 0 < q) then 0 else 1000 * q
      let a := if s.out.v.natAbs < vt.natAbs then
          (if profile then min s.currentStep.rate s.ride.accel else s.ride.accel)
        else if stop then s.ride.holdDecel
        else if profile then min s.currentStep.rate s.ride.decel else s.ride.decel
      (cf ∈ forward ∧ ∀ x ∈ forward, cf ≤ x) ∧ (cr ∈ reverse ∧ ∀ x ∈ reverse, cr ≤ x) ∧
      (s.out.v = 0 ∧ s.fb.brake ≠ .released → v = 0) ∧
      (s.out.v ≠ 0 ∨ s.fb.brake = .released →
        ((vt - s.out.v).natAbs ≤ a * s.ride.period → v = vt) ∧
        (a * s.ride.period < (vt - s.out.v).natAbs →
          v = s.out.v + (if s.out.v < vt then (a * s.ride.period : Int)
                         else -(a * s.ride.period : Int)))) ∧
      (v = 0 ∧ q = 0 ∧ s.still.flag = true → brake = .apply) ∧
      (q ≠ 0 → brake = .release) ∧
      (q = 0 ∧ (v ≠ 0 ∨ s.still.flag = false) → brake = s.out.brake) ∧
      2 * (1000 * sp - v).natAbs ≤ 1000 ∧
      (2 * (1000 * sp - v).natAbs = 1000 → v.natAbs < (1000 * sp).natAbs) ∧
      exec .drivePeriodExpiry s = .next
        { s with
          out := ⟨v, sp, brake, cf, cr, s.out.seq + 1⟩
          timers := { s.timers with drive := s.ms + BitVec.ofNat 32 s.ride.period }
          run := { s.run with ordersInStep := s.run.running || s.run.ordersInStep }
          driveQueue :=
            { order := some ⟨0x30, 0, signed2 sp ++
                [if brake = .release then 1 else 0,
                  byte ((if s.req.stale then 1 else 0) + (if s.holds = [] then 0 else 2) +
                    (if profile then 4 else 0)), s.out.seq]⟩
              aux := s.driveQueue.aux
              sending := if s.driveQueue.sending = .free then .order
                         else s.driveQueue.sending } }

/-- While a STOP entry stands, or the armed flag is CLEAR with source CONSOLE, no order's setpoint is
larger in magnitude than the one before it (R8). -/
def Obligations.NoSpeedingUpWhileStopped : Prop :=
  ∀ s : State, SpeedInv s →
    (∃ e ∈ s.holds, e.cls = .stop) ∨ (s.req.armed = false ∧ s.req.source = .console) →
    ∃ t, exec .drivePeriodExpiry s = .next t ∧
      t.out.setpoint.natAbs ≤ s.out.setpoint.natAbs

/-- Two successive orders never carry setpoints of opposite nonzero sign, and their setpoints differ by
at most ceil(hold deceleration × T / 1000) mm/s (R10), whatever holds, profile step, feedback or SETPOINT
came between: for every state whose committed rates are within the hold deceleration (check 6). -/
def Obligations.SuccessiveOrdersBounded : Prop :=
  ∀ s : State, SpeedInv s → s.ride.accel ≤ s.ride.holdDecel → s.ride.decel ≤ s.ride.holdDecel →
    ∃ t, exec .drivePeriodExpiry s = .next t ∧
      ¬(0 < s.out.setpoint ∧ t.out.setpoint < 0) ∧ ¬(s.out.setpoint < 0 ∧ 0 < t.out.setpoint) ∧
      (t.out.setpoint - s.out.setpoint).natAbs ≤ (s.ride.holdDecel * s.ride.period + 999) / 1000

/-- A FEEDBACK in the turns of R15.  The drive gate (R14 to R17): the feedback record takes the frame, the
timer restarts, the standstill run starts, goes on or ends, and no table, no output and no queue of the
drive line changes.  A FAULT status puts the DRIVE entry in the list with cause FAULT and the code as its
subject, at the end with a STOP's effects and snapshot (R126, R132), or in its place with its time; an OK
status leaves the entry with its cause absent.  The rim tracker (R29, R30, R43): its record becomes that of
Tracker.afterFrame, with the resumption test when the feedback state was SILENT, and a change of state is
reported (R45) and converts in SEARCHING and LOST (R46, R54).  The boarding controller (R28, R52, R53):
with both figures and a movement above 0 and below the pitch, the crossings are taken furthest cabin first
and each cabin's points in their order, up to one that changes the tracker's state or index; a movement of
a pitch or more converts.  The profile unit (R144): the count difference, 0 when it could not be formed,
joins the step travel (in every run state, log entry 16), and the step is tested on the crossings taken.
The model's own readings: R28's condition for before-figures and R144's for the step are held as
travelHanded and begunNow (log entry 13), points are taken in R53's order also across the point 0 (log
entry 17), and the tests of R74 are re-taken at the event's end (log entries 21 and 29). -/
def Obligations.FeedbackTaken : Prop :=
  ∀ (s : State) (f : FeedbackFields), ∃ t, exec (.feedback f) s = .next t ∧
    t.fb = { state := .present, speed := some f.speed.toInt,
             brake := if f.released then .released else .applied, faultCode := f.status.toNat,
             lastArrival := s.ms, timer := some (s.ms + BitVec.ofNat 32 s.ride.feedbackTimeout) } ∧
    (s.ride.stillBand < f.speed.toInt.natAbs → t.still = ⟨none, false⟩) ∧
    (f.speed.toInt.natAbs ≤ s.ride.stillBand →
      (s.still.runStart = none → t.still = ⟨some s.ms, s.still.flag⟩) ∧
      (∀ x, s.still.runStart = some x →
        t.still = ⟨some x, s.still.flag || decide (s.ride.stillTime ≤ (s.ms - x).toNat)⟩)) ∧
    t.causes.drive = (f.status != 0) ∧
    (f.status ≠ 0 →
      t.entry .drive = some ⟨.drive, .stop, 2, some f.status.toNat,
        ((s.entry .drive).map fun h => h.time).getD s.ms, true, true⟩ ∧
      (s.entry .drive = none → t.req.armed = false ∧ t.run.running = false)) ∧
    (f.status = 0 → t.entry .drive = (s.entry .drive).map fun h => { h with present := false }) ∧
    t.tracker.lastRim = some f.rim ∧
    t.tracker.direction = (match s.tracker.lastRim with
      | none => .still
      | some x => if 0 < (f.rim - x).toInt then .forward
                  else if (f.rim - x).toInt < 0 then .reverse else .still) ∧
    t.ms = s.ms ∧ t.modeRec = s.modeRec ∧ t.ride = s.ride ∧ t.zone = s.zone ∧
    t.windTable = s.windTable ∧ t.pollParams = s.pollParams ∧ t.pollEntries = s.pollEntries ∧
    t.passList = s.passList ∧ t.profiles = s.profiles ∧ t.expiries = s.expiries ∧ t.out = s.out ∧
    t.poller = s.poller ∧ t.results = s.results ∧ t.masts = s.masts ∧ t.wind = s.wind ∧
    t.trace = s.trace ∧ t.alightStation = s.alightStation ∧ t.boardStation = s.boardStation ∧
    t.driveQueue = s.driveQueue ∧ t.requests = s.requests ∧ t.timers = s.timers ∧
    t.pending = s.pending ∧ t.rx = s.rx ∧
    (HoldInv s → 0 < s.ride.n → 0 < s.ride.pitch →
      let barred (y : State) : List Cabin := y.cabins.map fun k =>
        if y.holds = [] ∧ k.state = .boarding then { k with entryBarred := true } else k
      let added (y : State) (e : HoldEntry) : State :=
        { y with holds := y.holds ++ [e], cabins := barred y }
      let replaced (y : State) (e : HoldEntry) : State :=
        { y with holds := y.holds.map fun h => if h.source = e.source then e else h }
      let time (src : HoldSource) : Word32 := ((s.entry src).map fun h => h.time).getD s.ms
      -- the drive gate
      let causes : CauseStates := ⟨s.doorTest, s.platformTest, f.status != 0⟩
      let gate : State := { s with
        fb := t.fb, still := t.still, run := { s.run with begunNow := false }, causes := causes
        holds := s.holds.map fun h => { h with present := presentFlag h.source causes } }
      let fault : HoldEntry := ⟨.drive, .stop, 2, some f.status.toNat, time .drive, true, true⟩
      let g : State := if f.status = 0 then gate
        else if s.entry .drive = none then (added gate fault).stopped fault
        else replaced gate fault
      -- the rim tracker
      let x := s.tracker.afterFrame s.ride (s.fb.state == .silent) f
      let seen : State := { g with
        tracker := x.1
        latched := { g.latched with
          strayMarker := g.latched.strayMarker || x.2.1
          missedMarker := g.latched.missedMarker || x.2.2 } }
      let position (cls : HoldClass) (cause : Nat) : HoldEntry :=
        ⟨.position, cls, cause, none, time .position, decide (cause = 3), true⟩
      let put (e : HoldEntry) : State :=
        if s.entry .position = none then added seen e else replaced seen e
      let u : State := if x.1.state = s.tracker.state then seen else match x.1.state with
        | .locked => { seen with holds := seen.holds.filter fun h => h.source != .position }
        | .coasting => put (position .creep 2)
        | .searching => (put (position .creep 1)).converted
        | .lost => ((put (position .stop 3)).stopped (position .stop 3)).converted
      -- the crossings
      let rim : Int := s.ride.n * s.ride.pitch
      let travel (r : Tracker) (k : Nat) (d : Int) : Prop := r.phaseKnown = true ∧ ∃ (i : Nat) (c : Word32),
        r.index = some i ∧ r.lastRim = some c ∧
        d = ((c - r.m).toInt + ((i : Int) - k) % s.ride.n * s.ride.pitch) % rim
      let figures (k : Nat) (b a : Int) : Prop :=
        s.tracker.travelHanded = true ∧ travel s.tracker k b ∧ travel x.1 k a
      let moved (mv : Int) : Prop := -rim < 2 * mv ∧ 2 * mv ≤ rim ∧
        ∀ k, k < s.ride.n → ∃ b a, figures k b a ∧ (a - b - mv) % rim = 0
      let place (k : Nat) (mv l : Int) : Prop :=
        ∃ b a, figures k b a ∧ l = if a < mv then a + rim else a
      let points : List (Point × Int) := [(.idStart, s.zone.idStart), (.idEnd, s.zone.idEnd),
        (.aStart, s.zone.aStart), (.bStart, s.zone.bStart),
        (.lock, (s.zone.bEnd : Int) - s.ride.lockMargin), (.bEnd, s.zone.bEnd)]
      ∃ (crossings : List (Nat × Point)) (taken : Nat) (v : State),
        (∀ k p, (k, p) ∈ crossings ↔ k < s.ride.n ∧ ∃ mv b a off, moved mv ∧ 0 < mv ∧
          mv < s.ride.pitch ∧ figures k b a ∧ (p, off) ∈ points ∧
          1 ≤ (off - b) % rim ∧ (off - b) % rim ≤ mv) ∧
        crossings.Pairwise (fun y z => y.1 ≠ z.1 ∧ (∃ mv l m, moved mv ∧ place y.1 mv l ∧
            place z.1 mv m ∧ m < l) ∨
          y.1 = z.1 ∧ (points.map Prod.fst).idxOf y.2 < (points.map Prod.fst).idxOf z.2) ∧
        (let stage (j : Nat) : State :=
          (crossings.take j).foldl (fun y z => takeCrossing z.1 z.2 y) u
        let same (j : Nat) : Prop := (stage (j + 1)).tracker.state = (stage j).tracker.state ∧
          (stage (j + 1)).tracker.index = (stage j).tracker.index
        taken ≤ crossings.length ∧ (∀ j, j + 1 < taken → same j) ∧
        (taken < crossings.length → ∃ j, taken = j + 1 ∧ ¬same j) ∧
        ((∃ mv, moved mv ∧ (s.ride.pitch : Int) ≤ mv) → v = u.converted) ∧
        ((∀ mv, moved mv → mv < (s.ride.pitch : Int)) → v = stage taken)) ∧
        -- the profile unit, and what the frame leaves
        (let diff : Int := match s.tracker.lastRim with
          | none => 0
          | some c => (f.rim - c).toInt
        let w := profileFeedback diff f.speed.toInt (crossings.take taken) v
        (v.run.running = false →
          t.run = { v.run with travel := v.run.travel + BitVec.ofInt 32 diff }) ∧
        t.run = w.run ∧ t.req = w.req ∧ t.waitTag = w.waitTag) ∧
        t.tracker = v.tracker ∧ t.cabins = v.cabins ∧ t.snaps = v.snaps ∧ t.causes = t.tests ∧
        t.holds = v.holds.map (fun h => { h with present := presentFlag h.source t.causes }) ∧
        { t.latched with queueFull := s.latched.queueFull } = v.latched)

/-- Every accepted FEEDBACK is forwarded unchanged, whatever the mode, the pass list and the feedback
state, if the console queue has room, and QUEUE_FULL is latched if not (R174, R175): for a FEEDBACK
that ends no waiting run, so that no final reply stands beside the copy (log entry 4). -/
def Obligations.FeedbackForwarded : Prop :=
  ∀ (s t : State) (f : FeedbackFields), exec (.feedback f) s = .next t → t.waitTag = s.waitTag →
    let copy : Frame := ⟨0x31, 0, be2 f.speed.toNat ++ be4 f.rim.toNat ++ [flag f.marker] ++
      be4 f.latch.toNat ++ [flag f.released, f.status]⟩
    if s.consoleQueue.length < (if s.waitTag = none then 16 else 15)
    then t.consoleQueue = s.consoleQueue ++ [copy]
    else t.consoleQueue = s.consoleQueue ∧ t.latched.queueFull = true

/-- The feedback timeout (R18): the record goes SILENT with speed and brake UNKNOWN and the status kept,
standstill ends, the timer stops, and the DRIVE entry, added at the end of the list or kept in its place
with its time, holds cause SILENT at STOP with its cause present. In ABSENT and SILENT no timer runs
(R14), and that the command then changes nothing is the model's choice (log entry 7, DEDUCED). -/
def Obligations.FeedbackTimeoutSilences : Prop :=
  ∀ s : State,
    (s.fb.state ≠ .present → exec .feedbackTimeout s = .next s) ∧
    (HoldInv s → s.fb.state = .present →
      ∃ t, exec .feedbackTimeout s = .next t ∧
        t.fb = { s.fb with state := .silent, speed := none, brake := .unknown, timer := none } ∧
        t.still = ⟨none, false⟩ ∧
        t.entry .drive = some ⟨.drive, .stop, 1, none,
          ((s.entry .drive).map fun e => e.time).getD s.ms, true, true⟩ ∧
        t.holds.map (fun e => e.source) =
          s.holds.map (fun e => e.source) ++ (if (s.entry .drive).isSome then [] else [.drive]) ∧
        ((s.entry .drive).isSome = false → t.req.armed = false ∧ t.run.running = false) ∧
        t.out = s.out ∧ t.tracker = s.tracker ∧ t.timers = s.timers ∧ t.ride = s.ride)

/-- The staleness expiries (R20 to R22): in SERVICE, once for one age base, the stale expiry sets the
stale flag and nothing more, and the loss expiry adds the COMMAND entry at STOP, which disarms, ends a run
and captures a snapshot, or leaves the COMMAND entry present as it is. In SETUP, or when not armed, no
such expiry occurs (R20), and that the command then changes nothing is the model's choice (log entry 7,
DEDUCED). -/
def Obligations.StalenessExpiries : Prop :=
  ∀ s : State,
    (exec .staleExpiry s = .next
      (if s.modeRec.mode = .service ∧ s.expiries.staleArmed = true then
        { s with req := { s.req with stale := true }
                 expiries := ⟨false, s.expiries.lossArmed⟩ }
       else s)) ∧
    (s.modeRec.mode = .setup ∨ s.expiries.lossArmed = false → exec .lossExpiry s = .next s) ∧
    (HoldInv s → s.modeRec.mode = .service → s.expiries.lossArmed = true →
      ∃ t, exec .lossExpiry s = .next t ∧
        t.expiries = ⟨s.expiries.staleArmed, false⟩ ∧
        (s.entry .command = none →
          t.holds = s.holds ++ [⟨.command, .stop, 1, none, s.ms, false, true⟩] ∧
          t.req.armed = false ∧ t.run.running = false ∧ t.req.stale = s.req.stale ∧
          t.out = s.out ∧
          ∃ x, t.snaps.slot (t.snaps.w - 1) = some x ∧ x.source = .command ∧ x.time = s.ms ∧
            x.setpoint = s.out.setpoint ∧ x.entries = s.holds.length + 1) ∧
        (s.entry .command ≠ none →
          t = { s with expiries := ⟨s.expiries.staleArmed, false⟩ }))

/-! ### The rim tracker (chapter 2) -/

/-- A marker latch (R31 to R34) in every tracker state: a forward crossing steps the index, or in
SEARCHING the candidate, on and takes M from the latch; a reverse crossing steps it back and M by one
pitch; a repeat changes nothing; a stray latches STRAY_MARKER; with the phase unknown the latch sets the
phase in SEARCHING and is disregarded in LOST.  The tests of R35, R36 and R38 then run on the record the
latch left, as on a frame without one, and change nothing while the rim count keeps to their bounds. -/
def Obligations.MarkerLatchClassified : Prop :=
  ∀ (t : Tracker) (r : RideTable) (f : FeedbackFields), f.marker = true →
    let e := (f.latch - t.m).toInt
    let direction : Direction := match t.lastRim with
      | none => .still
      | some x => if 0 < (f.rim - x).toInt then .forward
                  else if (f.rim - x).toInt < 0 then .reverse else .still
    let inStep (m : Word32) := (f.rim - m).toInt ≤ r.pitch + r.w ∧ -(r.w : Int) ≤ (f.rim - m).toInt
    -- the frame takes the record `u` from the latch, a STRAY or not
    let leaves (u : Tracker) (stray : Bool) : Prop :=
      let rest := u.afterFrame r false { f with marker := false }
      t.afterFrame r false f = (rest.1, stray, rest.2.2) ∧
      (inStep u.m ∨ u.state = .lost → t.afterFrame r false f = ({ u with
        lastRim := some f.rim, direction := direction
        travelHanded := u.phaseKnown && u.index.isSome }, stray, false))
    let forward : Prop := (e - r.pitch).natAbs ≤ r.w
    let reverse : Prop := r.w < (e - r.pitch).natAbs ∧ e.natAbs ≤ r.w ∧ direction = .reverse
    let again : Prop := r.w < (e - r.pitch).natAbs ∧ e.natAbs ≤ r.w ∧ direction ≠ .reverse
    let stray : Prop := r.w < (e - r.pitch).natAbs ∧ r.w < e.natAbs
    let back := t.m - BitVec.ofNat 32 r.pitch
    (∀ i, t.state = .locked ∨ t.state = .coasting → t.phaseKnown = true → t.index = some i → i < r.n →
      let crossed : Tracker := { t with
        missStreak := 0, state := .locked
        mismatch := if t.state = .coasting then none else t.mismatch }
      (forward → leaves { crossed with index := some ((i + 1) % r.n), m := f.latch } false) ∧
      (reverse → leaves { crossed with index := some ((i + r.n - 1) % r.n), m := back } false) ∧
      (again → leaves t false) ∧ (stray → leaves t true)) ∧
    (t.state = .searching → t.index = none →
      (t.phaseKnown = false → leaves { t with m := f.latch, phaseKnown := true } false) ∧
      (t.phaseKnown = true →
        (forward → leaves { t with
          m := f.latch, candidate := t.candidate.map fun j => (j + 1) % r.n } false) ∧
        (reverse → leaves { t with
          m := back, candidate := t.candidate.map fun j => (j + r.n - 1) % r.n } false) ∧
        (again → leaves t false) ∧ (stray → leaves t true))) ∧
    (t.state = .lost → t.phaseKnown = false → leaves t false)

/-- The tests of a frame without a latch, and the resumption test.  In LOCKED and COASTING a rim count
past pitch + W, or behind −W, makes as many synthetic crossings or backings as pitches are missing, each
moving M by one pitch (R35, R36): COASTING with the streak so much higher, or LOST with no phase and no
index at the miss that takes the streak above the miss limit (R37).  In SEARCHING the same bounds lose the
phase and the candidate (R38).  Within the bounds, in LOST, and with the phase unknown no miss is found.  A
resumption whose count has moved by more than W makes the record SEARCHING with the phase unknown before
the frame's latch, and in LOST or within W changes nothing (R43). -/
def Obligations.MissedMarkerCoastsOrLoses : Prop :=
  ∀ (t : Tracker) (r : RideTable) (f : FeedbackFields), 0 < r.pitch → r.pitch ≤ 20000 →
    let d := (f.rim - t.m).toInt
    let moved : Tracker := { t with
      lastRim := some f.rim, travelHanded := t.phaseKnown && t.index.isSome
      direction := (match t.lastRim with
        | none => .still
        | some x => if 0 < (f.rim - x).toInt then .forward
                    else if (f.rim - x).toInt < 0 then .reverse else .still) }
    let within' : Prop := d ≤ r.pitch + r.w ∧ -(r.w : Int) ≤ d
    (f.marker = false → ∀ i, t.state = .locked ∨ t.state = .coasting → t.phaseKnown = true →
      t.index = some i → i < r.n → ∀ q : Nat, 1 ≤ q →
      -- q markers missed going forward, or going back
      let ahead : Prop := (q : Int) * r.pitch + r.w < d ∧ d ≤ ((q : Int) + 1) * r.pitch + r.w
      let behind : Prop := d < -(r.w : Int) - ((q : Int) - 1) * r.pitch ∧ -(r.w : Int) - q * r.pitch ≤ d
      let coasting (index : Int) (m : Word32) : Prop := t.afterFrame r false f = ({ moved with
        state := .coasting, index := some (index % r.n).toNat, m := m
        missStreak := t.missStreak + q, mismatch := none }, false, true)
      let lost (m : Word32) : Prop := t.afterFrame r false f = ({ moved with
        state := .lost, phaseKnown := false, index := none, m := m, missStreak := 0
        candidate := none, candidateReads := 0, mismatch := none, travelHanded := false }, false, true)
      let last := r.missLimit - t.missStreak + 1
      (t.missStreak + q ≤ r.missLimit →
        (ahead → coasting (i + q) (t.m + BitVec.ofNat 32 (q * r.pitch))) ∧
        (behind → coasting (i - q) (t.m - BitVec.ofNat 32 (q * r.pitch)))) ∧
      (r.missLimit < t.missStreak + q →
        (ahead → lost (t.m + BitVec.ofNat 32 (last * r.pitch))) ∧
        (behind → lost (t.m - BitVec.ofNat 32 (last * r.pitch))))) ∧
    (f.marker = false → t.state = .searching → t.phaseKnown = true → t.index = none → ¬within' →
      t.afterFrame r false f = ({ moved with
        phaseKnown := false, candidate := none, candidateReads := 0 }, false, true)) ∧
    (f.marker = false → within' ∨ t.state = .lost ∨ t.state = .searching ∧ t.phaseKnown = false →
      t.afterFrame r false f = (moved, false, false)) ∧
    ((t.lastRim = none ∨ (∃ x, t.lastRim = some x ∧ (f.rim - x).toInt.natAbs ≤ r.w) ∨ t.state = .lost) →
      t.afterFrame r true f = t.afterFrame r false f) ∧
    (∀ x, t.lastRim = some x → r.w < (f.rim - x).toInt.natAbs → t.state ≠ .lost →
      t.afterFrame r true f = Tracker.afterFrame { t with
        state := .searching, phaseKnown := false, index := none, missStreak := 0, candidate := none
        candidateReads := 0, mismatch := none, travelHanded := false } r false f)

/-- Index assignment in SEARCHING (R39, R40): a read is placed by the one m that puts x + m × pitch in the
ID window, and is disregarded when no m does; after the required reads of one proposal in a row the
index is that proposal and the tracker LOCKED, and with fewer it is still SEARCHING. -/
def Obligations.IndexAssigned : Prop :=
  (∀ (x : Int) (pitch : Nat) (z : ZoneTable), 0 < pitch → z.idEnd - z.idStart ≤ pitch →
    ∀ m : Int, windowShift x pitch z = some m ↔
      ((z.idStart : Int) ≤ x + m * pitch ∧ x + m * pitch < z.idEnd)) ∧
  (∀ (t : Tracker) (required i n : Nat), t.state = .searching → t.candidate = none → 1 ≤ required →
    let after := fun k => (List.replicate k i).foldl (fun u p => u.propose required p) t
    (n < required → (after n).state = .searching ∧ (after n).index = t.index) ∧
    ((after required).state = .locked ∧ (after required).index = some i ∧
      (after required).candidate = none ∧ (after required).missStreak = 0 ∧
      (after required).m = t.m))

/-! ### Cabins and boarding (chapter 3) -/

/-- An identity window (R47, R56 to R58) and what its outcome does (R41, R42).  From the opening, the
matching reads are the reads of the cabin itself and the other reads those of the last wrong cabin in a row
of wrong reads, both stopping at 255.  At the closing the outcome is MATCH when the matching reads reach
the required reads, otherwise MISMATCH with shift (j − k) mod N when the other reads do, and otherwise
NONE.  A cabin crossing id_start opens its window if the stored offsets open one (R51).  Crossing id_end
with the window OPEN it takes the outcome, withheld for IDENTITY with IDENTITY_FAULT on MISMATCH; then in
LOCKED a second MISMATCH of one shift drops the index, with the POSITION entry of R45 and the conversion of
R46, and in COASTING MATCH and MISMATCH resynchronise, a nonzero shift with the conversion.  That a window
OPEN before a ZONE write still closes is log entry 17. -/
def Obligations.WindowReadsCounted : Prop :=
  (∀ (n required k : Nat) (reads : List Nat), required ≤ 4 →
    let w := reads.foldl (fun w j => w.count k j) (⟨true, 0, none, 0⟩ : IdWindow)
    let wrong := reads.filter fun j => j != k
    let run (j : Nat) : Nat := (wrong.reverse.takeWhile fun x => x == j).length
    w.isOpen = true ∧ w.matching = min 255 (reads.count k) ∧ w.other = wrong.getLast? ∧
    w.otherReads = min 255 ((wrong.getLast?.map run).getD 0) ∧
    (judgeWindow n required k w = .matched ↔ required ≤ reads.count k) ∧
    (∀ sh, judgeWindow n required k w = .mismatch sh ↔ reads.count k < required ∧
      ∃ j, wrong.getLast? = some j ∧ required ≤ run j ∧ sh = (((j : Int) - k) % n).toNat) ∧
    (judgeWindow n required k w = .none ↔ reads.count k < required ∧
      ∀ j, wrong.getLast? = some j → run j < required)) ∧
  ∀ (s : State) (k : Nat) (c : Cabin), s.cabins[k]? = some c →
    let put (w : IdWindow) : State := { s with cabins := s.cabins.set k { c with window := w } }
    let opens : Prop := s.zone.idStart < s.zone.idEnd ∧ s.zone.idEnd ≤ s.ride.n * s.ride.pitch ∧
      s.zone.idEnd ≤ s.zone.idStart + s.ride.pitch
    (opens → takeCrossing k .idStart s = put ⟨true, 0, none, 0⟩) ∧
    (¬opens → takeCrossing k .idStart s = s) ∧
    (c.window.isOpen = false → takeCrossing k .idEnd s = s) ∧
    (c.window.isOpen = true → ∀ o, o = judgeWindow s.ride.n s.zone.requiredReads k c.window →
      let wrong : Bool := match o with | .mismatch _ => true | _ => false
      let b : State := { s with
        cabins := s.cabins.set k { c with
          window := ⟨false, 0, none, 0⟩, outcome := o
          withheld := if wrong then some .identity else c.withheld }
        latched := { s.latched with identityFault := s.latched.identityFault || wrong } }
      (s.tracker.state = .searching ∨ s.tracker.state = .lost → takeCrossing k .idEnd s = b) ∧
      (s.tracker.state = .locked →
        (wrong = false → takeCrossing k .idEnd s = { b with tracker := { s.tracker with mismatch := none } }) ∧
        ∀ sh, o = .mismatch sh →
          (s.tracker.mismatch ≠ some sh → takeCrossing k .idEnd s =
            { b with tracker := { s.tracker with mismatch := some sh } }) ∧
          (s.tracker.mismatch = some sh → s.entry .position = none → takeCrossing k .idEnd s =
            State.converted { b with
              tracker := { s.tracker with
                state := .searching, index := none, missStreak := 0, candidate := none
                candidateReads := 0, mismatch := none, travelHanded := false }
              holds := s.holds ++ [⟨.position, .creep, 1, none, s.ms, false, true⟩]
              cabins := b.cabins.map fun d =>
                if s.holds = [] ∧ d.state = .boarding then { d with entryBarred := true } else d })) ∧
      (∀ i, s.tracker.state = .coasting → s.tracker.index = some i → i < s.ride.n →
        let resynchronised (sh : Nat) : State := { b with
          tracker := { s.tracker with index := some ((i + sh) % s.ride.n), missStreak := 0 } }
        (o = .none → takeCrossing k .idEnd s = b) ∧
        (o = .matched → takeCrossing k .idEnd s = resynchronised 0) ∧
        ∀ sh, o = .mismatch sh → takeCrossing k .idEnd s =
          (if sh = 0 then resynchronised sh else (resynchronised sh).converted)))

/-- A cabin crossing a_start enters ALIGHTING exactly under the five conditions of R60, with the fields of
the zone cleared and its count, tag and marks kept.  Crossing b_start (R61, R62, R48), an ALIGHTING
cabin with a valid answer enters BOARDING with the alight station's count cut to its capacity and is
barred when any hold entry stands or the board station is not FRESH, and without one it becomes
UNVERIFIED with its count kept.  Any other cabin is left as it is, and no crossing touches another
cabin. -/
def Obligations.PlatformZonesEntered : Prop :=
  ∀ (s : State) (k : Nat) (c : Cabin), s.cabins[k]? = some c →
    (takeCrossing k .aStart s).cabins = s.cabins.set k
      (if c.inService = true ∧ c.withheld = none ∧ s.tracker.state = .locked ∧
          s.modeRec.mode = .service ∧ (c.state = .empty ∨ c.state = .loaded ∨ c.state = .unverified)
       then { c with state := .alighting, door := .notReported, hasValid := false, zoneCount := 0,
                     entryBarred := false }
       else c) ∧
    (takeCrossing k .bStart s).cabins = s.cabins.set k
      (if c.state ≠ .alighting then c
       else if c.hasValid then
         { c with state := .boarding, count := min c.zoneCount c.capacity,
                  saturated := decide (c.capacity < c.zoneCount), door := .notReported,
                  hasValid := false, zoneCount := 0,
                  entryBarred := decide (s.holds ≠ [] ∨ s.boardStation.freshness ≠ .fresh) }
       else { c with state := .unverified, door := .notAtPlatform, exitTime := s.ms })

/-- A cabin crossing b_end (R59, R64, R48): a BOARDING cabin locked with a valid answer is confirmed
LOADED or EMPTY with the board station's count, any other BOARDING cabin becomes UNVERIFIED with its
count kept and its unlocked-exit mark SET unless it was locked, and every cabin has its withheld flag
cleared.  An entry bar raised by the DOOR entry that an unlocked exit adds meets no other cabin in
BOARDING. -/
def Obligations.PassEndsAtBoardEnd : Prop :=
  ∀ (s : State) (k : Nat) (c : Cabin), s.cabins[k]? = some c →
    (∀ (j : Nat) (d : Cabin), s.cabins[j]? = some d → d.state = .boarding → j = k) →
    let rest := fun d : Cabin => { d with
      withheld := none, door := .notAtPlatform, hasValid := false, zoneCount := 0,
      entryBarred := false, exitTime := s.ms }
    (takeCrossing k .bEnd s).cabins = s.cabins.set k
      (if c.state ≠ .boarding then { c with withheld := none }
       else if c.door = .locked ∧ c.hasValid = true then
         rest { c with
           count := min c.zoneCount c.capacity
           saturated := decide (c.capacity < c.zoneCount)
           state := if min c.zoneCount c.capacity = 0 then .empty else .loaded
           unlockedExit := false }
       else rest { c with
         state := .unverified
         unlockedExit := if c.door = .locked then c.unlockedExit else true }) ∧
    (c.state = .boarding → c.door ≠ .locked →
      (takeCrossing k .bEnd s).hasStop = true ∧
      ((takeCrossing k .bEnd s).entry .door).any (fun e => e.cause == 2 && e.subject == some k) = true)

/-- The lock point (R63): a BOARDING cabin whose door is anything but LOCKED puts a DOOR entry naming it
with cause LATE_LOCK in the list, at STOP when it is a new one, and every other cabin passes it with no
action. That a second forward crossing in one pass makes the test again is the model's reading of R52 (log
entry 26, DEDUCED). -/
def Obligations.LateLockStops : Prop :=
  ∀ (s : State) (k : Nat) (c : Cabin), s.cabins[k]? = some c →
    (c.state ≠ .boarding ∨ c.door = .locked → takeCrossing k .lock s = s) ∧
    (c.state = .boarding → c.door ≠ .locked →
      ((takeCrossing k .lock s).entry .door).any
        (fun e => e.cause == 1 && e.subject == some k && e.cls == .stop) = true ∧
      (s.entry .door = none →
        (takeCrossing k .lock s).holds = s.holds ++
          [⟨.door, .stop, 1, some k, s.ms, true, s.causes.door⟩] ∧
        (takeCrossing k .lock s).req.armed = false ∧ (takeCrossing k .lock s).run.running = false))

/-! ### Field polling (chapter 4) -/

/-- A poll-timer expiry (R80): the timer restarts with the stored period; a cycle in flight skips it and
latches POLL_OVERRUN, an empty walked list gives nothing, and otherwise a cycle starts at the first set
entry of the walked list (R82). -/
def Obligations.PollTimerStartsCycle : Prop :=
  ∀ s : State,
    let restarted := { s.timers with poll := s.ms + BitVec.ofNat 32 s.pollParams.period }
    (s.poller.phase ≠ .idle → exec .pollTimerExpiry s = .next
      { s with timers := restarted, latched := { s.latched with pollOverrun := true } }) ∧
    (s.poller.phase = .idle → s.walked = [] →
      exec .pollTimerExpiry s = .next { s with timers := restarted }) ∧
    (s.poller.phase = .idle → ∀ i, i < s.walked.length → (s.pollEntry i).kind ≠ .unset →
      (∀ j, j < i → (s.pollEntry j).kind = .unset) →
      exec .pollTimerExpiry s = .next
        { s with timers := restarted, poller := { s.poller with phase := .toPoll, inFlight := some i } })

/-- POLL NOW (R81): always OK, the pending mark SET in a cycle, a cycle started from IDLE on a list with a
set entry, and nothing with an empty list. -/
def Obligations.PollNowAsksForCycle : Prop :=
  ∀ (s : State) (tag : Byte), s.ready →
    let ok : List Frame := s.consoleQueue ++ [⟨0x21, 0, [0x30, tag, 0, 1, 0]⟩]
    (s.poller.phase ≠ .idle → exec (.pollNow tag) s = .next
      { s with consoleQueue := ok, poller := { s.poller with pendingMark := true } }) ∧
    (s.poller.phase = .idle → s.walked = [] →
      exec (.pollNow tag) s = .next { s with consoleQueue := ok }) ∧
    (s.poller.phase = .idle → ∀ i, i < s.walked.length → (s.pollEntry i).kind ≠ .unset →
      (∀ j, j < i → (s.pollEntry j).kind = .unset) →
      exec (.pollNow tag) s = .next
        { s with consoleQueue := ok
                 poller := { s.poller with phase := .toPoll, inFlight := some i } })

/-- The POLL of an entry (R82, R67, R68): a mast's or tag reader's carries nothing, a platform station's
the cabin in its zone, the door release and the entry-barred lamp; the release is on only with the tracker
LOCKED in SERVICE, FEEDBACK present within the door speed limit and the cabin not withheld; the cabin
shown is written to the station record and the reply wait starts. The model's choices: the reply wait
starts in the POLL's own event (log entry 9, DESIGN CHOICE), the POLL is held as lastPoll (log entry 10,
DESIGN CHOICE), and of several cabins in a zone the lowest-numbered is shown (log entry 22, DEDUCED). -/
def Obligations.PollCarriesArguments : Prop :=
  ∀ (s : State) (i : Nat), s.poller.phase = .toPoll → s.poller.inFlight = some i →
    s.rx.field = .empty →
    ∃ (shown : Option Nat) (release lamp : Bool) (t : State),
      exec .poll s = .next t ∧
      (shown = none → release = false ∧ lamp = false) ∧
      (∀ k, shown = some k →
        (release = true ↔ s.modeRec.mode = .service ∧ s.tracker.state = .locked ∧
          s.fb.state = .present ∧
          (∃ v, s.fb.speed = some v ∧ v.natAbs ≤ s.ride.doorSpeedLimit) ∧
          (s.cabin k).withheld = none)) ∧
      t.poller = { s.poller with
        phase := .replyWait
        timer := some (s.ms + BitVec.ofNat 32 s.pollParams.replyTimeout)
        lastPoll := some ⟨0x50, byte (s.addressOf i),
          match (s.pollEntry i).kind with
          | .alight => [byte (shown.getD 255), flag release, 0]
          | .board => [byte (shown.getD 255), flag release, flag lamp]
          | _ => []⟩ } ∧
      ((s.pollEntry i).kind = .alight → s.stationEntry .alight = some i →
        shown = s.alightingCabin ∧ t.alightStation = { s.alightStation with shown := shown }) ∧
      ((s.pollEntry i).kind = .board → s.stationEntry .board = some i →
        shown = s.boardingCabin ∧ t.boardStation = { s.boardStation with shown := shown } ∧
        ∀ k, shown = some k → lamp = (s.cabin k).entryBarred) ∧
      ((s.pollEntry i).kind = .alight → s.stationEntry .alight ≠ some i → shown = none) ∧
      ((s.pollEntry i).kind = .board → s.stationEntry .board ≠ some i → shown = none) ∧
      t = { s with poller := t.poller, alightStation := t.alightStation,
                   boardStation := t.boardStation } ∧
      ((s.pollEntry i).kind ≠ .alight → t.alightStation = s.alightStation) ∧
      ((s.pollEntry i).kind ≠ .board → t.boardStation = s.boardStation)

/-- The first character of a field-line frame (R83, R85): in the reply wait it settles the entry, whose
frame may then take until a second reply timeout; in the late window it makes the frame a late answer,
before a POLL an unsolicited frame and in IDLE one that R85 discards; no result record changes, and no
frame begins inside a settling one (log entries 7 and 8).  No POLL is sent while a frame is coming in, one
that a reset cut short among them (log entries 9 and 11).  A settling frame that overruns is BAD at that
moment, the walk goes on to the next set entry, and the frame's end is waited for and discarded. -/
def Obligations.SettlingFrameTimed : Prop :=
  ∀ s : State,
    let receiving : ReceiveBuffers := { s.rx with field := .receiving }
    (s.poller.phase = .replyWait → exec .entrySettled s = .next
      { s with
        rx := receiving
        poller := { s.poller with
          phase := .settling
          timer := s.poller.timer.map fun x => x + BitVec.ofNat 32 s.pollParams.replyTimeout } }) ∧
    (s.poller.phase = .lateWindow ∨ s.poller.phase = .toPoll ∨ s.poller.phase = .idle →
      exec .entrySettled s = .next { s with rx := receiving }) ∧
    (s.rx.field = .receiving ∨ s.rx.field = .lost → exec .poll s = .next s) ∧
    (s.poller.phase = .settling → exec .entrySettled s = .next s) ∧
    ∀ (i j : Nat) (r : ResultRecord), s.poller.phase = .settling →
      s.poller.inFlight = some i → s.results[i]? = some r →
      i < j → j < s.walked.length → (s.pollEntry j).kind ≠ .unset →
      (∀ l, i < l → l < j → (s.pollEntry l).kind = .unset) →
      ∃ t, exec .settlingFrameOverrun s = .next t ∧
        t.results = s.results.set i (r.stepped s.pollParams .bad) ∧
        t.poller = { s.poller with phase := .toPoll, inFlight := some j, timer := none } ∧
        t.rx = receiving ∧ t.latched.frameDiscarded = s.latched.frameDiscarded

/-- The reply timeout with no character (R83, R85, R86): the entry's result is NO_ANSWER with its
freshness machine stepped, and the late window lasts one reply timeout more.  A mast entry's change of
freshness goes to the records it is the source of, which lose seed and window as they leave FRESH (R88,
R95); a tag reader's, or that of an entry that is not its platform station's, goes to no block.  A platform
station going STALE is written to its record with its PLATFORM entry, with a DOOR entry naming the cabin in
its zone, and with the bar on a boarding cabin if it is the board station or the list was empty (R62, R72,
R88, R116, R126).  Of several cabins in the zone the lowest-numbered is named (log entry 22), and the DOOR
test counts all 64 records (log entry 29). -/
def Obligations.SilenceIsNoAnswer : Prop :=
  ∀ (s : State) (i : Nat) (r : ResultRecord), s.poller.phase = .replyWait →
    s.poller.inFlight = some i → s.results[i]? = some r →
    let e := s.pollEntry i
    let r' := r.stepped s.pollParams .noAnswer
    let poller := { s.poller with
      phase := .lateWindow
      timer := s.poller.timer.map fun x => x + BitVec.ofNat 32 s.pollParams.replyTimeout }
    let noted : State := { s with poller := poller, results := s.results.set i r' }
    let source (m : Mast) : Prop := m.address ≠ 0 ∧
      s.walked.findIdx? (fun d : PollEntry => d.kind == .mast && d.address == m.address) = some i
    r'.last = .noAnswer ∧
    (∃ t, exec .replyWaitExpiry s = .next t ∧ t.poller = poller ∧ t.results = noted.results) ∧
    (r'.freshness = r.freshness → exec .replyWaitExpiry s = .next noted) ∧
    (r'.freshness ≠ r.freshness → e.kind = .mast → exec .replyWaitExpiry s = .next { noted with
      masts := s.masts.map fun m =>
        if ¬source m ∨ m.freshness = r'.freshness then m
        else if m.freshness = .fresh then
          { m with freshness := r'.freshness, seeded := false, acc := 0, window := [] }
        else { m with freshness := r'.freshness } }) ∧
    (r'.freshness ≠ r.freshness → e.kind ≠ .mast → (∀ p : Station, s.stationEntry p ≠ some i) →
      exec .replyWaitExpiry s = .next noted) ∧
    (∀ p : Station, r'.freshness ≠ r.freshness → e.kind = p.kind → s.stationEntry p = some i →
      (s.station p).freshness = r.freshness → HoldInv s →
      let w := writeStation p { s.station p with freshness := .stale } noted
      let flagged (h : HoldEntry) : HoldEntry := { h with present := presentFlag h.source w.tests }
      let reported (src : HoldSource) (cause subject : Nat) : Option HoldEntry :=
        some ⟨src, .stop, cause, some subject, ((s.entry src).map fun h => h.time).getD s.ms, true,
          presentFlag src w.tests⟩
      ∃ t, exec .replyWaitExpiry s = .next t ∧ r'.freshness = .stale ∧
        t.poller = poller ∧ t.results = noted.results ∧ t.alightStation = w.alightStation ∧
        t.boardStation = w.boardStation ∧ t.causes = w.tests ∧ t.tracker = s.tracker ∧
        t.masts = s.masts ∧ t.wind = s.wind ∧ t.out = s.out ∧ t.rx = s.rx ∧
        t.cabins = (if p = .board ∨ s.holds = [] then s.cabins.map fun c =>
            if c.state = .boarding then { c with entryBarred := true } else c
          else s.cabins) ∧
        t.entry .platform = reported .platform 2 e.address ∧
        t.entry .door = (match s.zoneCabin p with
          | some k => reported .door 4 k
          | none => (s.entry .door).map flagged) ∧
        (∀ src, src ≠ .door → src ≠ .platform → t.entry src = (s.entry src).map flagged) ∧
        t.holds.map (fun h => h.source) = s.holds.map (fun h => h.source) ++
          (if s.entry .platform = none then [.platform] else []) ++
          (if (s.zoneCabin p).isSome ∧ s.entry .door = none then [.door] else []) ∧
        (s.entry .platform = none ∨ (s.zoneCabin p).isSome ∧ s.entry .door = none →
          t.req.armed = false ∧ t.run.running = false) ∧
        (s.entry .platform ≠ none → ((s.zoneCabin p).isSome → s.entry .door ≠ none) →
          t.req = s.req ∧ t.run = s.run ∧ t.snaps = s.snaps))

/-- The end of a late window (R85, R89): the walk moves to the next set entry, and after the last the
poller is IDLE with no entry in flight, or, with the pending mark SET, in a new cycle with the mark
CLEAR.  The cycle's end hands the end-of-cycle event on, once: the counting masts give the fresh count,
the governing values and a step of the level machine, or hold them with none (R99, R100); the WIND and
MASTS entries follow the level and the count (R101, R105); the trace takes the sample and a change of
level, or one GAP (R107, R108), and a full one is trimmed (R109); and a WIND_BELOW step that the level
meets leads on as every step met does (DwellMetAdvances), unless a rise to HOLD has ended the run
(R147). -/
def Obligations.LateWindowEndMovesOn : Prop :=
  ∀ (s : State) (i : Nat), s.poller.phase = .lateWindow → s.poller.inFlight = some i →
    (∀ j, i < j → j < s.walked.length → (s.pollEntry j).kind ≠ .unset →
      (∀ l, i < l → l < j → (s.pollEntry l).kind = .unset) →
      exec .lateWindowEnd s = .next
        { s with poller := { s.poller with phase := .toPoll, inFlight := some j, timer := none } }) ∧
    ((∀ j, i < j → j < s.walked.length → (s.pollEntry j).kind = .unset) →
      ∃ t, exec .lateWindowEnd s = .next t ∧ t.results = s.results ∧ t.masts = s.masts ∧
        t.poller.pendingMark = false ∧
        (s.poller.pendingMark = false → t.poller.phase = .idle ∧ t.poller.inFlight = none) ∧
        (s.poller.pendingMark = true → ∀ j, j < s.walked.length → (s.pollEntry j).kind ≠ .unset →
          (∀ l, l < j → (s.pollEntry l).kind = .unset) →
          t.poller.phase = .toPoll ∧ t.poller.inFlight = some j)) ∧
    ((∀ j, i < j → j < s.walked.length → (s.pollEntry j).kind = .unset) → HoldInv s → RunInv s →
      (s.poller.pendingMark = true → ∃ j, j < s.walked.length ∧ (s.pollEntry j).kind ≠ .unset) →
      let counting := s.masts.filter fun m => m.freshness == .fresh && m.seeded
      let time (src : HoldSource) : Word32 := ((s.entry src).map fun h => h.time).getD s.ms
      ∃ (t : State) (mean gust : Nat), exec .lateWindowEnd s = .next t ∧
        t.tracker = s.tracker ∧ t.out = s.out ∧ t.results = s.results ∧ t.masts = s.masts ∧
        -- the governing values and the level
        (counting = [] → t.wind = { s.wind with freshCount := 0 }) ∧
        (counting ≠ [] →
          (mean ∈ counting.map Mast.mean ∧ ∀ x ∈ counting.map Mast.mean, x ≤ mean) ∧
          (gust ∈ counting.map Mast.gust ∧ ∀ x ∈ counting.map Mast.gust, x ≤ gust) ∧
          t.wind = WindRecord.stepLevel { s.wind with
            govMean := mean, govGust := gust, freshCount := counting.length } s.windTable) ∧
        -- the WIND and MASTS entries
        t.entry .wind = (match t.wind.level with
          | .restrict => some ⟨.wind, .slow, 2, none, time .wind, false, true⟩
          | .hold => some ⟨.wind, .stop, 3, none, time .wind, false, true⟩
          | _ => none) ∧
        t.entry .masts = (if counting.length = 0 then
            some ⟨.masts, .creep, 0, none, time .masts, false, true⟩
          else if counting.length < s.windTable.minFresh then
            some ⟨.masts, .slow, counting.length, none, time .masts, false, true⟩
          else none) ∧
        (∀ src, src ≠ .wind → src ≠ .masts → t.entry src = s.entry src) ∧
        t.holds.map (fun h => h.source) =
          (s.holds.map fun h => h.source).filter (fun src => (t.entry src).isSome) ++
          (if (s.entry .wind).isNone && (t.entry .wind).isSome then [.wind] else []) ++
          (if (s.entry .masts).isNone && (t.entry .masts).isSome then [.masts] else []) ∧
        -- the trace
        (counting = [] → s.trace.gapMark = true → t.trace = s.trace) ∧
        (counting = [] → s.trace.gapMark = false →
          t.trace.last = none ∧ t.trace.gapMark = true ∧ t.trace.entries.getLast? = some .gap ∧
          (s.trace.entries.length < 1024 → t.trace.entries = s.trace.entries ++ [.gap]) ∧
          (s.trace.entries.length = 1024 →
            t.trace.entries.length = 1024 ∧ t.latched.traceWrapped = true)) ∧
        (counting ≠ [] → t.trace.last = some gust ∨ s.trace.entries.length = 1024) ∧
        (counting ≠ [] → s.trace.entries.length ≤ 1022 →
          let level := if t.wind.level = s.wind.level then [] else [TraceEntry.level t.wind.level]
          t.trace.last = some gust ∧ t.trace.gapMark = false ∧
          t.trace.boundary = s.trace.boundary ∧
          (s.trace.last = none → t.trace.entries = s.trace.entries ++ [.full gust] ++ level) ∧
          ∀ l, s.trace.last = some l →
            let d := (gust : Int) - l
            (7 < d.natAbs → t.trace.entries = s.trace.entries ++ [.full gust] ++ level) ∧
            (d.natAbs ≤ 7 →
              (∀ front ds, s.trace.entries = front ++ [.delta ds] → ds.length < 3 →
                t.trace.entries = front ++ [.delta (ds ++ [d])] ++ level) ∧
              ((∀ front ds, s.trace.entries = front ++ [.delta ds] → 3 ≤ ds.length) →
                t.trace.entries = s.trace.entries ++ [.delta [d]] ++ level))) ∧
        -- the profile unit
        (s.run.running = true → t.wind.level = .hold →
          t.run.running = false ∧ t.run.lastEnd = some .held ∧ t.req.armed = false) ∧
        (s.run.running = false → t.run = s.run) ∧
        (t.wind.level ≠ .hold → s.run.running = false ∨ s.currentStep.kind ≠ .windBelow ∨
            s.currentStep.param < t.wind.level.code →
          t.run = s.run ∧ t.req = s.req ∧ t.consoleQueue = s.consoleQueue) ∧
        (s.run.running = true → t.wind.level ≠ .hold → s.currentStep.kind = .windBelow →
          t.wind.level.code ≤ s.currentStep.param →
          t.run = (stepMet s).run ∧ t.req = (stepMet s).req ∧
          t.consoleQueue = (stepMet s).consoleQueue ∧ t.waitTag = (stepMet s).waitTag ∧
          let length := profileLength s.runSteps
          (length ≤ s.run.step + 1 → s.run.repeats = 0 →
            t.run.running = false ∧ t.run.lastEnd = some .complete ∧
            t.req = { s.req with value := 0, armed := false, source := .console }) ∧
          ∀ (n repeats : Nat) (x : Step),
            (s.run.step + 1 < length ∧ n = s.run.step + 1 ∧ repeats = s.run.repeats) ∨
              (length ≤ s.run.step + 1 ∧ n = 0 ∧ s.run.repeats = repeats + 1) →
            s.runSteps[n]? = some x → x.kind ≠ .allEmpty →
            (x.kind = .cabinAt → x.param / 8 < s.ride.n ∧
              (s.cabins.getD (x.param / 8) Cabin.notLoaded).state ≠ .outOfService) →
            t.run = { s.run with
              step := n, repeats := repeats, stepStart := s.ms, travel := 0, ordersInStep := false
              durationTimer := some (s.ms + BitVec.ofNat 32 x.maxDuration)
              dwellTimer := if x.kind = .dwell then some (s.ms + BitVec.ofNat 32 x.param) else none
              begunNow := true }))

/-- A settling frame at its end (R84 to R86, R94, R55, R69 to R71), in the order result, freshness, content,
and then the walk as after a late window (LateWindowEndMovesOn).  A frame that fails one of the first
four tests of R84 is BAD with FRAME_DISCARDED, one with an undefined coded field or a mast fault BAD
without it, and neither hands on content.  A mast's ANSWERED content goes to every record of the address;
a platform station's to the cabin it echoes, if that is the one shown, in the zone and present, with its
stop button to the station record and DOOR_FAULT and BUTTON to the hold list, DOOR first (log entry 28;
every PRESSED answer reports, log entry 27; DOOR test over all records, log entry 29); a tag reader's to
the lowest cabin of its tag, and from there to the tracker or to the one open window, or to UNKNOWN_TAG.
That the frame may come with no ENTRY_SETTLED before it is log entry 8, and that of several cabins in the
zone of a station gone STALE the DOOR entry names the lowest-numbered is log entry 22. -/
def Obligations.AnswerJudged : Prop :=
  ∀ (s : State) (raw : RawFrame) (i : Nat) (r : ResultRecord),
    s.poller.phase = .settling ∧ s.rx.field ≠ .lost ∨ s.poller.phase = .replyWait ∧ s.rx.field = .empty →
    s.poller.inFlight = some i → s.results[i]? = some r → (s.pollEntry i).kind ≠ .unset →
    let e := s.pollEntry i
    let leaves (u : State) : Prop := ∃ t, exec (.answer raw) s = .next t ∧
      exec .lateWindowEnd { u with
        rx := { s.rx with field := .empty }
        poller := { s.poller with phase := .lateWindow } } = .next t
    let fits (f : Frame) : Prop := frameOf raw = some f ∧ f.kind = 0x51 ∧
      f.address.toNat = e.address ∧ f.payload.length = (if e.kind = .tagReader then 10 else 5)
    let at' (p : List Byte) (k : Nat) : Nat := ((p[k]?).getD 0).toNat
    let undefined (p : List Byte) : Bool := match e.kind with
      | .mast => at' p 4 != 0
      | .tagReader => decide (1 < at' p 0)
      | _ => decide (1 < at' p 1 ∨ 4 < at' p 2 ∨ 63 < at' p 3 ∨ 1 < at' p 4)
    let fresh (x : PollResult) : Freshness := (r.stepped s.pollParams x).freshness
    let source (m : Mast) : Prop := m.address ≠ 0 ∧
      s.walked.findIdx? (fun d : PollEntry => d.kind == .mast && d.address == m.address) = some i
    let believed (x : PollResult) (m : Mast) : Mast :=
      if fresh x = r.freshness ∨ ¬source m ∨ m.freshness = fresh x then m
      else if m.freshness = .fresh then
        { m with freshness := fresh x, seeded := false, acc := 0, window := [] }
      else { m with freshness := fresh x }
    let noted (x : PollResult) : State := { s with
      results := s.results.set i (r.stepped s.pollParams x)
      masts := if e.kind = .mast then s.masts.map (believed x) else s.masts }
    let discarded (u : State) : State :=
      { u with latched := { u.latched with frameDiscarded := true } }
    -- BAD
    (fresh .bad = r.freshness ∨ (∀ p : Station, s.stationEntry p ≠ some i) →
      ((∀ f, ¬fits f) → leaves (discarded (noted .bad))) ∧
      (∀ f, fits f → undefined f.payload = true → leaves (noted .bad))) ∧
    (∀ p : Station, e.kind = p.kind → s.stationEntry p = some i →
      (s.station p).freshness = r.freshness → fresh .bad ≠ r.freshness →
      (∀ f, fits f → undefined f.payload = true) → ∃ u : State, leaves u ∧
        u.results = s.results.set i (r.stepped s.pollParams .bad) ∧ u.masts = s.masts ∧
        u.tracker = s.tracker ∧ u.wind = s.wind ∧
        u.latched.frameDiscarded = (if (∃ f, fits f) then s.latched.frameDiscarded else true) ∧
        u.station p = { s.station p with freshness := .stale } ∧
        u.cabins.map (fun c => { c with entryBarred := false }) =
          s.cabins.map (fun c => { c with entryBarred := false }) ∧
        (u.entry .platform).any (fun h => h.cause == 2 && h.subject == some e.address &&
          h.cls == .stop) = true ∧
        (∀ k, s.zoneCabin p = some k → (u.entry .door).any (fun h => h.cause == 4 &&
          h.subject == some k && h.cls == .stop) = true) ∧
        (p = .board → ∀ c ∈ u.cabins, c.state = .boarding → c.entryBarred = true)) ∧
    -- ANSWERED: a mast
    (∀ f, fits f → e.kind = .mast → undefined f.payload = false →
      let speed := 256 * at' f.payload 0 + at' f.payload 1
      let direction := 256 * at' f.payload 2 + at' f.payload 3
      let takes (m : Mast) : Bool := m.address != 0 && m.address == e.address
      let taken (m : Mast) : Mast :=
        { (if m.freshness = .fresh then m.sampled s.windTable ⟨speed, direction⟩ else m) with
          lastRaw := some speed
          lastDirection := if direction ≤ 359 then some direction else m.lastDirection }
      leaves { noted .answered with
        masts := (noted .answered).masts.map fun m => if takes m then taken m else m
        latched := { s.latched with sampleSaturated := s.latched.sampleSaturated ||
          (s.masts.any fun m => takes m && decide (700 < if m.halves then 5 * speed else speed)) } }) ∧
    -- ANSWERED: a platform station
    (∀ f (p : Station), fits f → e.kind = p.kind → undefined f.payload = false →
      s.stationEntry p ≠ some i → leaves (noted .answered)) ∧
    (∀ f (p : Station) (d : DoorState), fits f → e.kind = p.kind → undefined f.payload = false →
      s.stationEntry p = some i → d.code = at' f.payload 2 →
      let k := at' f.payload 0
      let valid : Prop := (s.station p).shown = some k ∧ (s.cabin k).state = p.zone ∧
        at' f.payload 1 = 1
      let fault : Prop := valid ∧ d = .fault
      let pressed : Prop := at' f.payload 4 = 1
      let w := writeStation p
        { s.station p with
          pressed := decide pressed
          freshness := if fresh .answered = r.freshness then (s.station p).freshness
                       else fresh .answered }
        { noted .answered with cabins := if valid then s.cabins.set k { s.cabin k with
            door := d, zoneCount := at' f.payload 3, hasValid := true } else s.cabins }
      let flagged (h : HoldEntry) : HoldEntry :=
        { h with present := presentFlag h.source w.tests }
      let reported (src : HoldSource) (cause subject : Nat) : Option HoldEntry :=
        some ⟨src, .stop, cause, some subject, ((s.entry src).map fun h => h.time).getD s.ms, true,
          presentFlag src w.tests⟩
      (¬fault → ¬pressed → leaves { w with causes := w.tests, holds := s.holds.map flagged }) ∧
      (fault ∨ pressed → ∃ u : State, leaves u ∧
        u.alightStation = w.alightStation ∧ u.boardStation = w.boardStation ∧
        u.results = w.results ∧ u.causes = w.tests ∧ u.tracker = s.tracker ∧ u.masts = s.masts ∧
        u.wind = s.wind ∧ u.out = s.out ∧
        u.cabins = (if s.holds = [] then w.cabins.map fun c =>
            if c.state = .boarding then { c with entryBarred := true } else c
          else w.cabins) ∧
        u.entry .door = (if fault then reported .door 3 k else (s.entry .door).map flagged) ∧
        u.entry .platform =
          (if pressed then reported .platform 1 e.address else (s.entry .platform).map flagged) ∧
        (∀ src, src ≠ .door → src ≠ .platform → u.entry src = (s.entry src).map flagged) ∧
        u.holds.map (fun h => h.source) = s.holds.map (fun h => h.source) ++
          (if fault ∧ s.entry .door = none then [.door] else []) ++
          (if pressed ∧ s.entry .platform = none then [.platform] else []) ∧
        (fault ∧ s.entry .door = none ∨ pressed ∧ s.entry .platform = none →
          u.req.armed = false ∧ u.run.running = false))) ∧
    -- ANSWERED: the tag reader
    (∀ f, fits f → e.kind = .tagReader → undefined f.payload = false →
      let v := noted .answered
      let carries : Prop := at' f.payload 0 = 1 ∧ s.zone.tagFloor ≤ at' f.payload 9
      let named (j : Nat) : Prop := j < s.ride.n ∧ ∃ c, s.cabins[j]? = some c ∧ c.capacity ≠ 0 ∧
        c.tag = (f.payload.drop 1).take 8
      (¬carries → leaves v) ∧
      (carries → (∀ j, ¬named j) →
        leaves { v with latched := { s.latched with unknownTag := true } }) ∧
      (carries → ∀ j, named j → (∀ l, l < j → ¬named l) →
        (s.tracker.state = .lost → leaves v) ∧
        (s.tracker.state = .searching →
          (s.proposal j = none → leaves v) ∧
          ∀ m, s.proposal j = some m →
            let t := s.tracker.propose s.zone.requiredReads m
            (t.state = .searching → leaves { v with tracker := t }) ∧
            (t.state ≠ .searching → (s.entry .position).any (fun h => h.latched) = false →
              leaves { v with tracker := t, holds := s.holds.filter fun h => h.source != .position })) ∧
        (s.tracker.state = .locked ∨ s.tracker.state = .coasting →
          let within' (k : Nat) : Prop := k < s.ride.n ∧ (s.cabin k).window.isOpen = true ∧
            ∃ d, s.tracker.travel s.ride k = some d ∧ s.zone.idStart ≤ d ∧ d < s.zone.idEnd
          (windowsOpen s.zone s.ride = false ∨ (∀ k, ¬within' k) → leaves v) ∧
          (windowsOpen s.zone s.ride = true → ∀ k, within' k → (∀ l, within' l → l = k) →
            let x := (s.cabin k).window
            let counted : IdWindow :=
              if j = k then { x with matching := min 255 (x.matching + 1) }
              else if x.other = some j then { x with otherReads := min 255 (x.otherReads + 1) }
              else { x with other := some j, otherReads := 1 }
            leaves { v with cabins := s.cabins.set k { s.cabin k with window := counted } }))))

/-- Late answers and unsolicited frames (R83, R85): discarded whatever they hold, FRAME_DISCARDED
latched, and no result, station, mast or cabin touched.  An ANSWER that comes where no entry is in its
reply wait or its settling frame, or in a reply wait while a frame that began before it still comes in,
settles nothing and is discarded with them (log entry 8, DEDUCED).  The end of a field-line frame that a
reset cut short latches nothing and settles nothing (R168), and empties the buffer (log entry 11). -/
def Obligations.StrayFieldFramesDiscarded : Prop :=
  ∀ (s : State) (raw : RawFrame) (c : Instr),
    let ends : Prop := c = .lateAnswer raw ∨ c = .unsolicitedFrame raw ∨ c = .answer raw ∨
      c = .discardedFrame .field raw
    let settles : Prop := (c = .answer raw ∨ c = .discardedFrame .field raw) ∧
      s.poller.inFlight ≠ none ∧
      (s.poller.phase = .settling ∨ s.poller.phase = .replyWait ∧ s.rx.field = .empty)
    (ends → s.rx.field = .lost → exec c s = .next { s with rx := { s.rx with field := .empty } }) ∧
    (ends → s.rx.field ≠ .lost → ¬settles →
      exec c s = .next { s with rx := { s.rx with field := .empty }
                                latched := { s.latched with frameDiscarded := true } })

/-- The freshness machine over runs (R87): a FRESH station stays FRESH through failures short of the
stale-after count and goes STALE at it, and a STALE one goes FRESH at the fresh-after count of answers
in a row. -/
def Obligations.FreshnessNeedsRuns : Prop :=
  ∀ (p : PollParams) (r : ResultRecord) (failure : PollResult), failure ≠ .answered →
    1 ≤ p.staleAfter → 1 ≤ p.freshAfter →
    let after := fun (x : PollResult) k =>
      (List.replicate k x).foldl (fun u y => ResultRecord.stepped u p y) r
    (r.freshness = .fresh → r.failureRun = 0 →
      (∀ k, k < p.staleAfter → (after failure k).freshness = .fresh ∧ (after failure k).failureRun = k) ∧
      (after failure p.staleAfter).freshness = .stale ∧
      (after failure p.staleAfter).failureRun = 0 ∧ (after failure p.staleAfter).answerRun = 0) ∧
    (r.freshness = .stale → r.answerRun = 0 →
      (∀ k, k < p.freshAfter →
        (after .answered k).freshness = .stale ∧ (after .answered k).answerRun = k) ∧
      (after .answered p.freshAfter).freshness = .fresh ∧
      (after .answered p.freshAfter).failureRun = 0 ∧ (after .answered p.freshAfter).answerRun = 0)

/-! ### Wind watch (chapter 5) -/

/-- A FRESH mast's sample (R94, R96 to R98): the speed normalised, cut to 700, corrected and cut to
1,023; it seeds an unseeded mean, and moves a seeded one no further than to the sample; it stands
newest in the window of at most G. -/
def Obligations.MastSampleTaken : Prop :=
  ∀ (m : Mast) (t : WindTable) (a : MastAnswer), m.freshness = .fresh → 1 ≤ t.meanShift →
    let x := min 1023 ((min 700 (if m.halves then 5 * a.raw else a.raw) * m.factor + 128) / 256)
    let d : Int := 16 * (x : Int) - m.acc
    (m.sampled t a).seeded = true ∧
    (m.seeded = false → (m.sampled t a).acc = 16 * x) ∧
    (m.seeded = true →
      ((m.sampled t a).acc : Int) = m.acc + (d + 2 ^ (t.meanShift - 1)) / 2 ^ t.meanShift ∧
      min m.acc (16 * x) ≤ (m.sampled t a).acc ∧ (m.sampled t a).acc ≤ max m.acc (16 * x)) ∧
    (m.sampled t a).window = (x :: m.window).take t.gustLength ∧
    (1 ≤ t.gustLength → x ≤ (m.sampled t a).gust) ∧
    (∀ y ∈ (m.sampled t a).window, y ≤ (m.sampled t a).gust)

/-- An unbroken run upward of the entry persistence in cycles (R102, R103): the level rises at its last
cycle, and not before, to the least level that every cycle of the run called for. -/
def Obligations.LevelRisesToLeastTarget : Prop :=
  ∀ (t : WindTable) (w : WindRecord) (gusts : List (Nat × Nat)), w.up = 0 → gusts ≠ [] →
    (∀ g ∈ gusts, w.level.code < (windTarget t g.1 g.2).code) →
    let after := gusts.foldl (fun (u : WindRecord) g =>
      WindRecord.stepLevel { u with govMean := g.1, govGust := g.2 } t) w
    (gusts.length < t.entryPersistence → after.level = w.level ∧ after.up = gusts.length) ∧
    (gusts.length = t.entryPersistence →
      (∃ g ∈ gusts, after.level = windTarget t g.1 g.2) ∧
      (∀ g ∈ gusts, after.level.code ≤ (windTarget t g.1 g.2).code) ∧
      after.up = 0 ∧ after.runMin = none ∧ after.down = 0)

/-- An unbroken run of clear cycles of the exit persistence (R104), each with its own governing values
and a target at or below the level: the level drops at its last cycle, and not before, by exactly one
step, however low the wind. -/
def Obligations.LevelDropsOneStep : Prop :=
  ∀ (t : WindTable) (w : WindRecord) (cycles : List (Nat × Nat)), w.down = 0 → w.level ≠ .calm →
    cycles ≠ [] →
    (∀ g ∈ cycles, (windTarget t g.1 g.2).code ≤ w.level.code ∧ clearOf t g.1 g.2 w.level = true) →
    let after := cycles.foldl (fun (u : WindRecord) g =>
      WindRecord.stepLevel { u with govMean := g.1, govGust := g.2 } t) w
    (cycles.length < t.exitPersistence →
      after.level = w.level ∧ after.down = cycles.length ∧ after.up = 0 ∧ after.runMin = none) ∧
    (cycles.length = t.exitPersistence →
      after.level.code + 1 = w.level.code ∧ after.down = 0 ∧ after.up = 0 ∧ after.runMin = none)

/-! ### Holds and snapshots (chapter 6) -/

/-- HOLD PLACE (R128, R117, R118, R126): RANGE outside 1 to 4; a new entry at the end of the list with
its class, or the entry present raised, or left when the class named is not above the one held; and the
effects of a STOP exactly when the entry comes to STOP. -/
def Obligations.HoldPlaceAnswered : Prop :=
  ∀ (s : State) (tag cls : Byte), s.ready → HoldInv s →
    (cls.toNat = 0 ∨ 4 < cls.toNat →
      exec (.holdPlace tag cls) s = .next (s.queued [onePart 0x18 tag 5 []])) ∧
    ∀ c : HoldClass, c.code = cls.toNat →
      let barred := if s.holds = [] then
          s.cabins.map fun k => if k.state = .boarding then { k with entryBarred := true } else k
        else s.cabins
      let raised := s.holds.map fun h => if h.source = .console then { h with cls := c } else h
      let stopped (t : State) (holds : List HoldEntry) : Prop :=
        t.holds = holds ∧ t.req.armed = false ∧ t.run.running = false ∧
        t.req.source = (if s.run.running then .console else s.req.source) ∧
        t.consoleQueue = s.consoleQueue ++ (if s.run.running then s.finalParts 18 else []) ++
          [onePart 0x18 tag 0 [4]] ∧
        ∃ x, t.snaps.slot (t.snaps.w - 1) = some x ∧ x.source = .console ∧ x.time = s.ms ∧
          x.cause = 1 ∧ x.subject = none ∧ x.cls = .stop ∧ x.entries = holds.length
      (s.entry .console = none → c ≠ .stop →
        exec (.holdPlace tag cls) s = .next (State.queued
          { s with holds := s.holds ++ [⟨.console, c, 1, none, s.ms, true, false⟩], cabins := barred }
          [onePart 0x18 tag 0 [cls]])) ∧
      (s.entry .console = none → c = .stop →
        ∃ t, exec (.holdPlace tag cls) s = .next t ∧ t.cabins = barred ∧
          stopped t (s.holds ++ [⟨.console, .stop, 1, none, s.ms, true, false⟩])) ∧
      (∀ e, s.entry .console = some e → c.code ≤ e.cls.code →
        exec (.holdPlace tag cls) s = .next (s.queued [onePart 0x18 tag 0 [byte e.cls.code]])) ∧
      (∀ e, s.entry .console = some e → e.cls.code < c.code → c ≠ .stop →
        exec (.holdPlace tag cls) s =
          .next (State.queued { s with holds := raised } [onePart 0x18 tag 0 [cls]])) ∧
      (∀ e, s.entry .console = some e → e.cls.code < c.code → c = .stop →
        ∃ t, exec (.holdPlace tag cls) s = .next t ∧ t.cabins = s.cabins ∧ stopped t raised)

/-- HOLD RELEASE (R129, R130): RANGE outside 1 to 8, NONE without an entry, STATE for an automatic entry,
ACTIVE while the cause is present, and otherwise the entry is removed and nothing else changes; a LOST
POSITION entry returns to its CREEP form in its place and the tracker to SEARCHING. -/
def Obligations.HoldReleaseAnswered : Prop :=
  ∀ (s : State) (tag code : Byte), s.ready → HoldInv s → RunInv s →
    let answered (st : Byte) : Prop :=
      exec (.holdRelease tag code) s = .next (s.queued [onePart 0x19 tag st []])
    (code.toNat = 0 ∨ 8 < code.toNat → answered 5) ∧
    ∀ src : HoldSource, src.code = code.toNat →
      (s.entry src = none → answered 1) ∧
      ∀ e, s.entry src = some e →
        (src = .wind ∨ src = .masts ∨ src = .command ∨ (src = .position ∧ e.latched = false) →
          answered 4) ∧
        (src = .door ∨ src = .platform ∨ src = .drive → e.present = true → answered 8) ∧
        ((src = .door ∨ src = .platform ∨ src = .drive) ∧ e.present = false ∨ src = .console →
          exec (.holdRelease tag code) s = .next (State.queued
            { s with holds := s.holds.filter fun h => h.source != src } [onePart 0x19 tag 0 []])) ∧
        (src = .position → e.latched = true →
          ∃ t, exec (.holdRelease tag code) s = .next t ∧
            t.tracker.state = .searching ∧ t.tracker.phaseKnown = false ∧ t.tracker.index = none ∧
            t.tracker.missStreak = 0 ∧ t.tracker.candidate = none ∧
            t.entry .position =
              some { e with cls := .creep, cause := 1, latched := false, present := true } ∧
            t.holds.map (fun h => h.source) = s.holds.map (fun h => h.source) ∧
            (∀ src', src' ≠ .position →
              (t.entry src').map (fun h => (h.cls, h.cause, h.subject, h.time, h.latched)) =
                (s.entry src').map (fun h => (h.cls, h.cause, h.subject, h.time, h.latched))) ∧
            t.req = s.req ∧ t.run = s.run ∧ t.out = s.out ∧ t.snaps = s.snaps ∧
            t.consoleQueue = s.consoleQueue ++ [onePart 0x19 tag 0 []])

/-- SNAPSHOT TAKE returns the oldest unread snapshot, or NONE (R135); and a burst of STOPs from no unread
snapshot leaves its first and its last unread, the last marked superseded exactly when one was lost
between (R133, R134).  A snapshot takes the fields of R132 from their owners, and its reply lays them out as
9.5 says. -/
def Obligations.SnapshotsKeepFirstAndLast : Prop :=
  (∀ (s : State) (tag : Byte), s.ready → SnapInv s →
    let oldest := if s.snaps.r.toNat % 2 = 0 then s.snaps.slot0 else s.snaps.slot1
    (s.snaps.unread = 0 →
      exec (.snapshotTake tag) s = .next (s.queued [onePart 0x1B tag 1 []])) ∧
    (s.snaps.unread ≠ 0 → ∃ x, oldest = some x ∧
      let bytes : List Byte := be4 x.time.toNat ++
        [match x.source with
          | .wind => 1 | .masts => 2 | .position => 3 | .command => 4 | .door => 5 | .platform => 6
          | .drive => 7 | .console => 8,
        byte x.cause, byte (x.subject.getD 255),
        match x.cls with | .noBoard => 1 | .slow => 2 | .creep => 3 | .stop => 4] ++
        signed2 x.setpoint ++ signed2 (x.speed.getD 0) ++ be4 (x.rim.getD 0).toNat ++
        [match x.trackerState with | .searching => 0 | .locked => 1 | .coasting => 2 | .lost => 3,
        byte (x.index.getD 255),
        match x.level with | .calm => 0 | .watch => 1 | .restrict => 2 | .hold => 3] ++
        be2 x.govMean ++ be2 x.govGust ++
        [byte x.entries, byte ((if x.speed = none then 0 else 1) + (if x.rim = none then 0 else 2) +
          (if x.superseded then 4 else 0))]
      exec (.snapshotTake tag) s = .next (State.queued
        { s with snaps := { s.snaps with r := s.snaps.r + 1 } }
        [onePart 0x1B tag 0 (byte (s.snaps.unread - 1) :: bytes)]) ∧ bytes.length = 25)) ∧
  (∀ (s : State) (first last : HoldEntry) (between : List HoldEntry), s.snaps.unread = 0 →
    let t := (first :: between ++ [last]).foldl (fun u e => capture e u) s
    let of (e : HoldEntry) (superseded : Bool) : Snapshot :=
      { time := s.ms, source := e.source, cause := e.cause, subject := e.subject, cls := e.cls
        setpoint := s.out.setpoint, speed := s.fb.speed, rim := s.tracker.lastRim
        trackerState := s.tracker.state, index := s.tracker.index, level := s.wind.level
        govMean := s.wind.govMean, govGust := s.wind.govGust, entries := s.holds.length
        superseded := superseded }
    t.snaps.r = s.snaps.r ∧ t.snaps.unread = 2 ∧
    t.snaps.slot t.snaps.r = some (of first false) ∧
    t.snaps.slot (t.snaps.r + 1) = some (of last (between != [])) ∧
    t.latched.snapshotSuperseded = (s.latched.snapshotSuperseded || between != []))

/-! ### Motion profiles (chapter 7) -/

/-- PROFILE RUN (R140 to R142, R152): refused by the first failing test, in the order RANGE, MODE, BUSY,
STATE; accepted, the run is RUNNING with source PROFILE and step 0 begun, its reply made at once or kept
with its tag; a step 0 whose cabin is beyond N or out of service ends the run with FAULT, and an ALL_EMPTY
step 0 on an empty rim is met in the same event, leading on as every step met does (DwellMetAdvances). -/
def Obligations.ProfileRunStarted : Prop :=
  ∀ (s : State) (tag n r w : Byte), s.ready → RunInv s →
    let steps := s.profiles.getD n.toNat []
    let noSteps : Prop := steps.head? = some ⟨0, 0, .clear, 0, 0, false⟩ ∨ ∀ x ∈ steps, x.last = false
    let stop : Prop := ∃ e ∈ s.holds, e.cls = .stop
    let answered (st : Byte) : Prop :=
      exec (.profileRun tag n r w) s = .next (s.queued [onePart 0x20 tag st []])
    let range : Prop := n.toNat ≤ 7 ∧ w.toNat ≤ 1
    (¬range → answered 5) ∧
    (range → s.modeRec.mode = .setup → answered 3) ∧
    (range → s.modeRec.mode = .service → s.run.running = true → answered 2) ∧
    (range → s.modeRec.mode = .service → s.run.running = false → stop ∨ noSteps → answered 4) ∧
    (range → s.modeRec.mode = .service → s.run.running = false → ¬stop → ¬noSteps →
      ∀ x, steps.head? = some x →
        let k := x.param / 8
        let fails : Prop := x.kind = .cabinAt ∧
          (s.ride.n ≤ k ∨ (s.cabins.getD k Cabin.notLoaded).state = .outOfService)
        (fails → ∃ t, exec (.profileRun tag n r w) s = .next t ∧
          t.run.running = false ∧ t.run.lastEnd = some .fault ∧ t.run.profile = some n.toNat ∧
          t.run.step = 0 ∧ t.run.repeats = r.toNat ∧ t.run.finalTime = 0 ∧
          t.req = { s.req with value := 0, armed := false, source := .console } ∧
          t.waitTag = none ∧ t.holds = s.holds ∧ t.out = s.out ∧
          t.consoleQueue = s.consoleQueue ++
            [if w = 0 then onePart 0x20 tag 0 [n] else onePart 0x20 tag 20 [n, 0, r]]) ∧
        (¬fails → x.kind ≠ .allEmpty ∨ s.allEmpty = false →
          exec (.profileRun tag n r w) s = .next
            { s with
              run := { s.run with
                running := true, profile := some n.toNat, step := 0, repeats := r.toNat
                stepStart := s.ms, travel := 0, ordersInStep := false
                durationTimer := some (s.ms + BitVec.ofNat 32 x.maxDuration)
                dwellTimer := if x.kind = .dwell then some (s.ms + BitVec.ofNat 32 x.param) else none
                begunNow := true }
              req := { s.req with source := .profile }
              waitTag := if w = 1 then some tag else s.waitTag
              consoleQueue := s.consoleQueue ++
                (if w = 0 then [onePart 0x20 tag 0 [n]] else []) }) ∧
        (x.kind = .allEmpty → s.allEmpty = true → steps.length ≤ 16 →
          exec (.profileRun tag n r w) s = .next (stepMet
            { s with
              run := { s.run with
                running := true, profile := some n.toNat, step := 0, repeats := r.toNat
                stepStart := s.ms, travel := 0, ordersInStep := false
                durationTimer := some (s.ms + BitVec.ofNat 32 x.maxDuration), dwellTimer := none
                begunNow := true }
              req := { s.req with source := .profile }
              waitTag := if w = 1 then some tag else s.waitTag
              consoleQueue := s.consoleQueue ++
                (if w = 0 then [onePart 0x20 tag 0 [n]] else []) })))

/-- The conditions of steps and what a step met leads to.  A DWELL step is met by its timer (R145); at a
FEEDBACK a SPEED step when the order has gone out, V stands at the limited target and the measured speed
is within the band of the order, a CABIN_AT step when its cabin crossed its point in the frame, and a
REVOLUTION step when the step travel has reached C, each for a step that began before the frame (R144); at
a change of a cabin's state an ALL_EMPTY step when no cabin below N has riders or may have (R146).  Met
(R148, R142), the next step begins, or step 0 of the next pass with one repeat fewer, with fresh timers: a
CABIN_AT step of a cabin beyond N or out of service ends the run with FAULT (R152), and an ALL_EMPTY step
met as it begins is met in the same event.  While no dwell timer runs no such expiry arrives (R145), and
that the command then changes nothing is the model's choice (log entry 7, DEDUCED), and so are travel
summed in every run state and begunNow, which holds R144's condition (log entries 16 and 13). -/
def Obligations.DwellMetAdvances : Prop :=
  ∀ s : State,
    let length := profileLength s.runSteps
    let follows (i repeats : Nat) (x : Step) : Prop :=
      (s.run.step + 1 < length ∧ i = s.run.step + 1 ∧ repeats = s.run.repeats ∨
        length ≤ s.run.step + 1 ∧ i = 0 ∧ s.run.repeats = repeats + 1) ∧ s.runSteps[i]? = some x
    let begun (i repeats : Nat) (x : Step) : State :=
      { s with run := { s.run with
          step := i, repeats := repeats, stepStart := s.ms, travel := 0, ordersInStep := false
          durationTimer := some (s.ms + BitVec.ofNat 32 x.maxDuration)
          dwellTimer := if x.kind = .dwell then some (s.ms + BitVec.ofNat 32 x.param) else none
          begunNow := true } }
    let faulted (u : State) : State := State.queued
      { u with
        run := { u.run with
          running := false, finalTime := 0, dwellTimer := none, durationTimer := none
          lastEnd := some .fault }
        req := { u.req with value := 0, armed := false, source := .console }
        waitTag := none }
      (u.finalParts 20)
    let fails (x : Step) : Prop := x.kind = .cabinAt ∧ (s.ride.n ≤ x.param / 8 ∨
      (s.cabins.getD (x.param / 8) Cabin.notLoaded).state = .outOfService)
    let empty : Prop := ∀ (k : Nat) (c : Cabin), k < s.ride.n → s.cabins[k]? = some c →
      c.state ≠ .loaded ∧ c.state ≠ .unverified ∧
      (c.state = .alighting ∨ c.state = .boarding → c.count = 0)
    -- the dwell timer
    (s.run.running = false ∨ s.run.dwellTimer = none → exec .dwellTimerExpiry s = .next s) ∧
    (s.run.running = true → s.run.dwellTimer ≠ none →
      exec .dwellTimerExpiry s = .next (stepMet s) ∧
      ∀ (i repeats : Nat) (x : Step), follows i repeats x → ¬fails x → (x.kind = .allEmpty → ¬empty) →
        exec .dwellTimerExpiry s = .next (begun i repeats x)) ∧
    -- a step met
    (s.run.running = true → ∀ (i repeats : Nat) (x : Step), follows i repeats x →
      (¬fails x → (x.kind = .allEmpty → ¬empty) → stepMet s = begun i repeats x) ∧
      (fails x → stepMet s = faulted (begun i repeats x)) ∧
      (x.kind = .allEmpty → empty → s.runSteps.length ≤ 16 →
        stepMet s = stepMet (begun i repeats x))) ∧
    -- the conditions at a FEEDBACK
    (∀ (diff speed : Int) (crossed : List (Nat × Point)),
      let summed : State :=
        { s with run := { s.run with travel := s.run.travel + BitVec.ofInt 32 diff } }
      let waits : Prop := profileFeedback diff speed crossed s = summed
      let met : Prop := profileFeedback diff speed crossed s = stepMet summed
      (s.run.running = false ∨ s.run.begunNow = true → waits) ∧
      (s.run.running = true → s.run.begunNow = false → ∀ x, s.runSteps[s.run.step]? = some x →
        let limited := max (-(s.out.cr : Int)) (min s.out.cf x.target)
        let reached : Prop := s.run.ordersInStep = true ∧ s.out.v = 1000 * limited ∧
          (speed - s.out.setpoint).natAbs ≤ s.ride.stillBand
        let crosses (code : Nat) (p : Point) : Prop :=
          x.param % 8 = code ∧ (x.param / 8, p) ∈ crossed
        let passed : Prop := crosses 1 .idStart ∨ crosses 2 .aStart ∨ crosses 3 .bStart ∨
          crosses 4 .lock ∨ crosses 5 .bEnd
        let round : Prop := (s.ride.n * s.ride.pitch : Int) ≤ summed.run.travel.toInt
        (x.kind = .speed → (reached → met) ∧ (¬reached → waits)) ∧
        (x.kind = .cabinAt → (passed → met) ∧ (¬passed → waits)) ∧
        (x.kind = .revolution → (round → met) ∧ (¬round → waits)) ∧
        (x.kind ≠ .speed → x.kind ≠ .cabinAt → x.kind ≠ .revolution → waits))) ∧
    -- the condition at a change of a cabin's state
    (∀ x, s.runSteps[s.run.step]? = some x →
      (s.run.running = true → x.kind = .allEmpty → empty → cabinChanged s = stepMet s) ∧
      (s.run.running = false ∨ x.kind ≠ .allEmpty ∨ ¬empty → cabinChanged s = s))

/-- The ends of a run (R148 to R153): COMPLETE when the last step is met with no repeats left, TIMEOUT at
the duration timer, ABORTED at PROFILE STOP, FAULT when CABIN SET takes out the cabin of a CABIN_AT step
(R146; HELD stands with each STOP, and FAULT at a beginning in DwellMetAdvances). Each leaves the run
record IDLE with the step it ended at, the source CONSOLE with value 0 and disarmed, and the final reply
of a waiting run before any other. That a duration-timer expiry without a run changes nothing is the model's choice (log entry 7,
DEDUCED). -/
def Obligations.RunEndsWhole : Prop :=
  ∀ s : State,
    let ended (e : EndStatus) (status : Byte) : State := State.queued
      { s with
        run := { s.run with
          running := false, finalTime := (s.ms - s.run.stepStart).toNat, dwellTimer := none
          durationTimer := none, lastEnd := some e }
        req := { s.req with value := 0, armed := false, source := .console }
        waitTag := none }
      (s.finalParts status)
    (s.run.running = true → s.run.dwellTimer ≠ none → profileLength s.runSteps ≤ s.run.step + 1 →
      s.run.repeats = 0 → exec .dwellTimerExpiry s = .next (ended .complete 16)) ∧
    (s.run.running = true → profileLength s.runSteps ≤ s.run.step + 1 → s.run.repeats = 0 →
      stepMet s = ended .complete 16) ∧
    (s.run.running = true → s.run.durationTimer ≠ none →
      exec .durationTimerExpiry s = .next (ended .timeout 19)) ∧
    (s.run.running = false → exec .durationTimerExpiry s = .next s) ∧
    ∀ tag : Byte, s.ready →
      (s.run.running = true → exec (.profileStop tag) s =
        .next ((ended .aborted 17).queued [onePart 0x21 tag 0 []])) ∧
      (s.run.running = false →
        exec (.profileStop tag) s = .next (s.queued [onePart 0x21 tag 4 []])) ∧
      ∀ (cabin count : Byte) (c : Cabin) (x : Step), s.run.running = true →
        s.runSteps[s.run.step]? = some x → x.kind = .cabinAt → x.param / 8 = cabin.toNat →
        cabin.toNat < s.ride.n → s.cabins[cabin.toNat]? = some c → c.state = .empty →
        ∃ t, exec (.cabinSetTakeOut tag cabin count) s = .next t ∧
          t.cabins = s.cabins.set cabin.toNat { c with state := .outOfService, inService := false } ∧
          t.causes = t.tests ∧
          t = State.queued
            { ended .fault 20 with
              cabins := t.cabins, causes := t.causes
              holds := s.holds.map fun h => { h with present := presentFlag h.source t.causes } }
            [onePart 0x11 tag 0 [0, byte c.count, flag c.saturated]]

/-! ### Tables and modes (chapter 8) -/

/-- MODE SET (R161 to R164): the mode already held is answered OK with no change; in SETUP the commit
checks run in order, all eleven with the tables UNCHECKED and the last alone with them CHECKED, the first
that fails answered INVALID with its number, and a commit when all pass; back to SETUP only with V 0, at
standstill, with the platform clear and no run. That a commit leaves the brake request as the last order
left it is the model's reading of R5 (log entry 25, DEDUCED). -/
def Obligations.ModeSetJudged : Prop :=
  ∀ (s : State) (tag : Byte), s.ready →
    let z := s.zone
    let r := s.ride
    let t := s.windTable
    let set := s.walked.filter fun e => e.kind != .unset
    let one (k : StationKind) : Prop := (set.filter fun e => e.kind == k).length = 1
    let masts := (s.masts.filter fun m => m.address != 0).map fun m => m.address
    let check (k : Nat) : Prop := match k with
      | 1 => 8 ≤ r.n ∧ r.n ≤ 64
      | 2 => 2000 ≤ r.pitch ∧ r.pitch ≤ 20000
      | 3 => z.idStart < z.idEnd ∧ z.idEnd ≤ z.aStart ∧ z.aStart < z.bStart ∧ z.bStart < z.bEnd ∧
          z.bEnd ≤ r.n * r.pitch ∧ z.idEnd ≤ z.idStart + r.pitch ∧ z.bStart ≤ z.aStart + r.pitch ∧
          z.bEnd ≤ z.bStart + r.pitch
      | 4 => r.lockMargin < z.bEnd - z.bStart ∧
          (r.maxSpeed * r.maxSpeed + 2 * r.holdDecel - 1) / (2 * r.holdDecel) +
            (2 * r.maxSpeed * r.period + 999) / 1000 ≤ r.lockMargin
      | 5 => r.platformSpeed ≤ r.doorSpeedLimit
      | 6 => r.accel ≤ r.holdDecel ∧ r.decel ≤ r.holdDecel
      | 7 => 4 * r.w < r.pitch
      | 8 => t.watchMean ≤ t.restrictMean ∧ t.restrictMean ≤ t.holdMean ∧
          t.watchGust ≤ t.restrictGust ∧ t.restrictGust ≤ t.holdGust
      | 9 => s.walked ≠ [] ∧ one .alight ∧ one .board ∧ one .tagReader ∧
          (set.map fun e => e.address).Nodup ∧ masts.Nodup ∧
          (∀ a ∈ masts, ∃ e ∈ s.walked, e.kind = .mast ∧ e.address = a) ∧ t.minFresh ≤ masts.length
      | 10 => ∀ p ∈ s.profiles, ∀ x ∈ p.take (profileLength p),
          (x.kind = .speed ∨ x.kind = .allEmpty ∨ x.kind = .revolution) ∧ x.param = 0 ∨
          x.kind = .dwell ∧ 1 ≤ x.param ∧ x.param ≤ 3600000 ∨
          x.kind = .cabinAt ∧ x.param / 8 ≤ 63 ∧ 1 ≤ x.param % 8 ∧ x.param % 8 ≤ 5 ∨
          x.kind = .windBelow ∧ x.param ≤ 3
      | _ => s.still.flag = true
    let run := if s.modeRec.checked then [11] else [1, 2, 3, 4, 5, 6, 7, 8, 9, 10, 11]
    let ok := onePart 0x02 tag 0 []
    (s.modeRec.mode = .service → exec (.modeSetService tag) s = .next (s.queued [ok])) ∧
    (s.modeRec.mode = .setup → exec (.modeSetSetup tag) s = .next (s.queued [ok])) ∧
    (s.modeRec.mode = .setup → ∀ k ∈ run, (∀ j ∈ run, j < k → check j) → ¬check k →
      exec (.modeSetService tag) s = .next (s.queued [onePart 0x02 tag 9 [byte k]])) ∧
    (s.modeRec.mode = .setup → (∀ k ∈ run, check k) →
      exec (.modeSetService tag) s = .next (State.queued
        { s with
          modeRec := ⟨.service, true, false⟩
          req := { s.req with armed := false, ageBase := s.ms, stale := false }
          expiries := ⟨true, true⟩ } [ok])) ∧
    (s.modeRec.mode = .service →
      let mayReturn : Prop := s.out.v = 0 ∧ s.still.flag = true ∧
        (∀ c ∈ s.cabins, c.state ≠ .alighting ∧ c.state ≠ .boarding) ∧ s.run.running = false
      (mayReturn → exec (.modeSetSetup tag) s = .next (State.queued
        { s with
          modeRec := ⟨.setup, s.modeRec.checked, false⟩
          req := { s.req with stale := false }
          expiries := ⟨false, false⟩ } [ok])) ∧
      (¬mayReturn → exec (.modeSetSetup tag) s = .next (s.queued [onePart 0x02 tag 4 []])))

/-- RESTART (R166, R167): refused in SERVICE, and in SETUP answered OK with the restart pending. When it
takes effect, the tables, the tables mark, the kept cabin fields and the ms counter stay, the timers
restart with their stored periods, a frame being received is lost (R168, R178), and the rest is as after
power-on. The model's choices: the row itself takes effect whenever the flag is SET (log entry 15), with
none pending it changes nothing (log entry 7), the rest of a lost frame is waited for (log entry 11), the
DOOR test counts all 64 records (log entry 29), and the mast records are reset as R93 and R113 say, against
the line of R99 (log entry 33). -/
def Obligations.RestartTakesEffect : Prop :=
  (∀ (s : State) (tag : Byte), s.ready →
    (s.modeRec.mode = .service →
      exec (.restart tag) s = .next (s.queued [onePart 0x03 tag 3 []])) ∧
    (s.modeRec.mode = .setup → exec (.restart tag) s = .next (State.queued
      { s with modeRec := { s.modeRec with restartPending := true } } [onePart 0x03 tag 0 []]))) ∧
  ∀ s : State,
    (s.modeRec.restartPending = false → exec .restartTakesEffect s = .next s) ∧
    (s.modeRec.restartPending = true → ∃ t, exec .restartTakesEffect s = .next t ∧
      t.ms = s.ms ∧ t.modeRec = ⟨s.modeRec.mode, s.modeRec.checked, false⟩ ∧
      t.ride = s.ride ∧ t.zone = s.zone ∧ t.windTable = s.windTable ∧
      t.pollParams = s.pollParams ∧ t.pollEntries = s.pollEntries ∧ t.passList = s.passList ∧
      t.profiles = s.profiles ∧
      t.cabins = s.cabins.map (fun c => { c with
        window := ⟨false, 0, none, 0⟩, door := .notAtPlatform, hasValid := false, zoneCount := 0
        entryBarred := false }) ∧
      t.riderTotal = s.riderTotal ∧ t.unverifiedTotal = s.unverifiedTotal ∧
      t.masts = s.masts.map (fun m => ⟨m.address, m.factor, m.halves, .unknown, false, 0, [], none,
        none⟩) ∧
      t.holds = [⟨.position, .creep, 1, none, s.ms, false, true⟩,
        ⟨.masts, .creep, 0, none, s.ms, false, true⟩] ∧
      ((∀ c ∈ s.cabins, c.state ≠ .alighting ∧ c.state ≠ .boarding) →
        t.causes = ⟨s.cabins.any fun c => c.unlockedExit, false, false⟩) ∧
      t.timers = ⟨s.ms + BitVec.ofNat 32 s.ride.period, s.ms + BitVec.ofNat 32 s.pollParams.period,
        s.ms + BitVec.ofNat 32 s.ride.statusPeriod⟩ ∧
      t.req = ⟨0, false, s.ms, false, .console⟩ ∧ t.expiries = State.reset.expiries ∧
      t.out = State.reset.out ∧ t.fb = State.reset.fb ∧ t.still = State.reset.still ∧
      t.tracker = State.reset.tracker ∧ t.alightStation = State.reset.alightStation ∧
      t.boardStation = State.reset.boardStation ∧ t.poller = State.reset.poller ∧
      t.results = State.reset.results ∧ t.wind = State.reset.wind ∧ t.trace = State.reset.trace ∧
      t.snaps = State.reset.snaps ∧ t.run = State.reset.run ∧ t.consoleQueue = [] ∧
      t.driveQueue = State.reset.driveQueue ∧ t.requests = [] ∧ t.waitTag = none ∧
      t.latched = State.reset.latched ∧
      t.rx = ⟨.empty, .empty, if s.rx.field = .empty then .empty else .lost⟩)

/-- TABLE WRITE (R157, R158): the six tests in order, each with its status and nothing stored, the sixth
over every element of the write.  A write that passes them stores all its elements, marks the tables
UNCHECKED and is answered OK with their number: one ZONE, PASS or PROFILE element alone; a RIDE table,
which sends the tracker SEARCHING when N or pitch changes (R44); CABIN elements, which load their records
afresh (R49); a WIND table, which shortens the windows (R111); MAST elements, which reset a changed
record and give it its address's freshness (R112); and POLL elements, which reset changed results,
re-take every consumer's freshness and cut a cycle in flight (R90; the order of these is log entries
30 and 31, and the DOOR test counts all records, log entry 29). -/
def Obligations.TableWriteTested : Prop :=
  ∀ (s : State) (tag table first : Byte) (data : List Byte), s.ready →
    let answered (st : Byte) : Prop :=
      exec (.tableWrite tag table first data) s = .next (s.queued [onePart 0x08 tag st []])
    let wrote (n : Nat) (t : State) : Prop := exec (.tableWrite tag table first data) s = .next
      (State.queued { t with modeRec := { s.modeRec with checked := false } }
        [onePart 0x08 tag 0 [byte n]])
    let stored (t : State) : Prop := wrote 1 t
    let id := table.toNat
    let known : Prop := 1 ≤ id ∧ id ≤ 7 ∨ 16 ≤ id ∧ id ≤ 23
    let count := match id with
      | 1 => 1 | 2 => 1 | 3 => 64 | 4 => 1 | 5 => 4 | 6 => 17 | 7 => 8 | _ => 16
    let size (k : Nat) := match id with
      | 1 => 35 | 2 => 22 | 3 => 10 | 4 => 22 | 5 => 4 | 6 => if k = 0 then 5 else 3 | 7 => 4 | _ => 14
    let total (n : Nat) := ((List.range n).map fun k => size (first.toNat + k)).sum
    let piece (k : Nat) : List Byte := (data.drop (total k)).take (size (first.toNat + k))
    let accepts (k : Nat) (bs : List Byte) : Bool := match id with
      | 1 => (rideOf bs).isSome | 2 => (zoneOf bs).isSome | 3 => (cabinOf bs).isSome
      | 4 => (windOf bs).isSome | 5 => (mastOf bs).isSome | 7 => (passOf bs).isSome
      | 6 => if k = 0 then (pollParamsOf bs).isSome else (pollEntryOf bs).isSome
      | _ => (stepOf bs).isSome
    let passes (n : Nat) : Prop := s.modeRec.mode = .setup ∧ 1 ≤ n ∧ data.length = total n ∧
      first.toNat + n ≤ count ∧ ∀ k, k < n → accepts (first.toNat + k) (piece k) = true
    let flagged (c : CauseStates) (h : HoldEntry) : HoldEntry :=
      { h with present := presentFlag h.source c }
    (s.modeRec.mode = .service → answered 3) ∧
    (s.modeRec.mode = .setup → ¬known → answered 5) ∧
    (s.modeRec.mode = .setup → known → count ≤ first.toNat → answered 5) ∧
    (s.modeRec.mode = .setup → known → first.toNat < count →
      (data = [] ∨ ∀ n, data.length ≠ total n) → answered 6) ∧
    (s.modeRec.mode = .setup → known → first.toNat < count →
      ∀ n, 1 ≤ n → data.length = total n → count < first.toNat + n → answered 5) ∧
    (s.modeRec.mode = .setup → known → ∀ n, 1 ≤ n → data.length = total n →
      first.toNat + n ≤ count → (∃ k, k < n ∧ accepts (first.toNat + k) (piece k) = false) →
      answered 5) ∧
    (s.modeRec.mode = .setup → id = 2 → first = 0 → data.length = 22 →
      ∀ z, zoneOf data = some z → stored { s with zone := z }) ∧
    (s.modeRec.mode = .setup → id = 7 → first.toNat < 8 → s.passList.length = 8 → data.length = 4 →
      ∀ e, passOf data = some e → stored { s with passList := s.passList.set first.toNat e }) ∧
    (s.modeRec.mode = .setup → ∀ n, n ≤ 7 → id = 16 + n → first.toNat < 16 → data.length = 14 →
      ∀ steps, s.profiles[n]? = some steps → steps.length = 16 →
      ∀ x, stepOf data = some x →
        stored { s with profiles := s.profiles.set n (steps.set first.toNat x) }) ∧
    -- a RIDE table
    (id = 1 → passes 1 → HoldInv s → ∀ x, rideOf data = some x →
      let same : Prop := x.n = s.ride.n ∧ x.pitch = s.ride.pitch
      let anew : Tracker := { s.tracker with
        state := .searching, phaseKnown := false, index := none, missStreak := 0, candidate := none
        candidateReads := 0, mismatch := none, travelHanded := false }
      (same ∨ s.tracker.state = .lost → stored { s with ride := x }) ∧
      (¬same → s.tracker.state = .searching → stored { s with ride := x, tracker := anew }) ∧
      (¬same → s.tracker.state = .locked ∨ s.tracker.state = .coasting →
        (∀ c ∈ s.cabins, c.state ≠ .alighting ∧ c.state ≠ .boarding) →
        ∃ holds : List HoldEntry, stored { s with
            ride := x, tracker := anew, holds := holds
            cabins := s.cabins.map fun c => { c with window := ⟨false, 0, none, 0⟩ } } ∧
          holds.find? (fun h => h.source == .position) = some ⟨.position, .creep, 1, none,
            ((s.entry .position).map fun h => h.time).getD s.ms, false, true⟩ ∧
          holds.filter (fun h => h.source != .position) =
            s.holds.filter (fun h => h.source != .position) ∧
          holds.map (fun h => h.source) = s.holds.map (fun h => h.source) ++
            (if (s.entry .position).isNone then [.position] else []))) ∧
    -- CABIN elements
    (id = 3 → ∀ n, passes n → s.run.running = false → s.cabins.length = 64 →
      ∃ t : State, wrote n t ∧ t = { s with
          cabins := t.cabins, causes := t.tests, holds := s.holds.map (flagged t.tests) } ∧
        t.cabins.length = 64 ∧
        (∀ k, k < first.toNat ∨ first.toNat + n ≤ k → t.cabins[k]? = s.cabins[k]?) ∧
        ∀ (k : Nat) (x : CabinConfig) (c : Cabin), k < n → cabinOf (piece k) = some x →
          s.cabins[first.toNat + k]? = some c →
          t.cabins[first.toNat + k]? = some ⟨x.tag, x.capacity, x.inService,
            if x.inService then .unverified else .outOfService, 0, false, none, false, false,
            ⟨false, 0, none, 0⟩, .none, .notAtPlatform, false, 0, c.exitTime⟩) ∧
    -- a WIND table
    (id = 4 → passes 1 → ∀ x, windOf data = some x → stored { s with
      windTable := x, masts := s.masts.map fun m => { m with window := m.window.take x.gustLength } }) ∧
    -- MAST elements
    (id = 5 → ∀ n, passes n → s.masts.length = 4 →
      let fresh (a : Nat) : Freshness := if a = 0 then .unknown else
        match s.walked.findIdx? (fun e : PollEntry => e.kind == .mast && e.address == a) with
        | some i => (s.result i).freshness
        | none => .unknown
      ∃ masts : List Mast, wrote n { s with masts := masts } ∧ masts.length = 4 ∧
        (∀ k, k < first.toNat ∨ first.toNat + n ≤ k → masts[k]? = s.masts[k]?) ∧
        ∀ (k : Nat) (x : MastConfig) (m : Mast), k < n → mastOf (piece k) = some x →
          s.masts[first.toNat + k]? = some m →
          masts[first.toNat + k]? = some
            (if m.address = x.address ∧ m.factor = x.factor ∧ m.halves = x.halves then m
             else ⟨x.address, x.factor, x.halves, fresh x.address, false, 0, [], none, none⟩)) ∧
    -- POLL elements
    (id = 6 → ∀ n, passes n → s.pollEntries.length = 16 → s.results.length = 16 →
      ∃ t : State, wrote n t ∧
        (first = 0 → ∀ p, pollParamsOf (piece 0) = some p → t.pollParams = p) ∧
        (first ≠ 0 → t.pollParams = s.pollParams) ∧
        t.pollEntries.length = 16 ∧ t.results.length = 16 ∧
        (∀ (k : Nat) (x : PollEntry), k < n → 0 < first.toNat + k → pollEntryOf (piece k) = some x →
          t.pollEntries[first.toNat + k - 1]? = some x) ∧
        (∀ k, k + 1 < first.toNat ∨ first.toNat + n ≤ k + 1 →
          t.pollEntries[k]? = s.pollEntries[k]?) ∧
        (∀ (k : Nat) (old new : PollEntry) (r : ResultRecord), s.pollEntries[k]? = some old →
          t.pollEntries[k]? = some new → s.results[k]? = some r → t.results[k]? = some
            (if old.address = new.address ∧ old.kind = new.kind then r
             else (⟨.notPolled, .unknown, 0, 0⟩ : ResultRecord))) ∧
        t.rx = s.rx ∧ (s.poller.phase = .idle → t.poller = s.poller) ∧
        (s.poller.phase ≠ .idle →
          let cut : Poller := { s.poller with
            phase := .idle, inFlight := none, timer := none, pendingMark := false }
          (s.poller.pendingMark = false ∨ t.walked = [] →
            t.poller = cut ∧ t.wind = s.wind ∧ t.trace = s.trace) ∧
          (s.poller.pendingMark = true → ∀ j, j < t.walked.length → (t.pollEntry j).kind ≠ .unset →
            (∀ l, l < j → (t.pollEntry l).kind = .unset) →
            t.poller = { cut with phase := .toPoll, inFlight := some j } ∧
            t.wind = s.wind ∧ t.trace = s.trace)) ∧
        (let fresh (a : Nat) : Freshness := if a = 0 then .unknown else
          match t.walked.findIdx? (fun e : PollEntry => e.kind == .mast && e.address == a) with
          | some i => (t.result i).freshness
          | none => .unknown
        t.masts = s.masts.map fun m =>
          if m.freshness = fresh m.address then m
          else if m.freshness = .fresh then
            { m with freshness := fresh m.address, seeded := false, acc := 0, window := [] }
          else { m with freshness := fresh m.address }) ∧
        (∀ p : Station,
          let first' (u : State) : Option Nat := u.walked.findIdx? fun e : PollEntry => e.kind == p.kind
          t.station p = ⟨(s.station p).shown,
            if first' s = first' t ∧ (first' s).map s.addressOf = (first' t).map t.addressOf
              then (s.station p).pressed else false,
            match first' t with | some i => (t.result i).freshness | none => .unknown⟩ ∧
          ((s.station p).freshness ≠ .stale → (t.station p).freshness = .stale →
            (t.entry .platform).any (fun h => h.cause == 2 && h.cls == .stop) = true)) ∧
        t.causes = t.tests ∧ t.tracker = s.tracker ∧ t.ride = s.ride ∧ t.windTable = s.windTable)

/-- Every element that a TABLE WRITE can store is read back by a TABLE READ as the bytes it was written
with, and those bytes, written again, store the same element (R158, R159, and the field layouts of R49,
R51, R77, R93, R111, R137, R160, R177). -/
def Obligations.ElementsRoundTrip : Prop :=
  (∀ r : RideTable, r.inRange = true → (rideBytes r).length = 35 ∧ rideOf (rideBytes r) = some r) ∧
  (∀ z : ZoneTable, z.inRange = true → (zoneBytes z).length = 22 ∧ zoneOf (zoneBytes z) = some z) ∧
  (∀ t : WindTable, t.inRange = true → (windBytes t).length = 22 ∧ windOf (windBytes t) = some t) ∧
  (∀ (bs : List Byte) (r : RideTable), bs.length = 35 → rideOf bs = some r → rideBytes r = bs) ∧
  (∀ (bs : List Byte) (z : ZoneTable), bs.length = 22 → zoneOf bs = some z → zoneBytes z = bs) ∧
  (∀ (bs : List Byte) (t : WindTable), bs.length = 22 → windOf bs = some t → windBytes t = bs) ∧
  (∀ (bs : List Byte) (p : PollParams), bs.length = 5 → pollParamsOf bs = some p →
    pollParamsBytes p = bs) ∧
  (∀ (bs : List Byte) (e : PollEntry), bs.length = 3 → pollEntryOf bs = some e →
    pollEntryBytes e = bs) ∧
  (∀ (bs : List Byte) (e : PassElement), bs.length = 4 → passOf bs = some e → passBytes e = bs) ∧
  (∀ (bs : List Byte) (x : Step), bs.length = 14 → stepOf bs = some x → stepBytes x = bs) ∧
  (∀ (bs : List Byte) (x : MastConfig) (m : Mast) (f : Freshness), bs.length = 4 →
    mastOf bs = some x → mastBytes (m.configured x f) = bs) ∧
  (∀ (bs : List Byte) (x : CabinConfig) (c : Cabin), bs.length = 10 → cabinOf bs = some x →
    cabinBytes (c.loadFrom x) = bs)

/-! ### Cabin sets (chapter 3) -/

/-- CABIN SET (R75, R76, R48): RANGE for a cabin at or above N, STATE in a state that refuses the action,
and otherwise the record, the COUNT_SATURATED latch and the reply that the action gives, with the profile
unit told of the change (R146; a CABIN_AT step's cabin taken out is in RunEndsWhole); with no run to tell,
nothing else changes but the cause-present tests and their flags.  The DOOR test counts all 64
records, which is the model's reading of R74 (log entry 29, DEDUCED). -/
def Obligations.CabinSetServed : Prop :=
  ∀ (s : State) (tag cabin count : Byte) (c : Cabin), s.ready → s.cabins[cabin.toNat]? = some c →
    let cut := min count.toNat c.capacity
    let exceeds := decide (c.capacity < count.toNat)
    let confirmed : Cabin := { c with
      count := cut, saturated := exceeds, state := if cut = 0 then .empty else .loaded }
    let refused (i : Instr) (st : Byte) : Prop :=
      exec i s = .next (s.queued [onePart 0x11 tag st []])
    let takes (i : Instr) (d : Cabin) (latches : Bool) : Prop :=
      ∃ t, exec i s = .next t ∧ t.cabins = s.cabins.set cabin.toNat d ∧
        ((d.state = .outOfService →
            s.currentStep.kind ≠ .cabinAt ∨ s.currentStep.param / 8 ≠ cabin.toNat) →
          let told := cabinChanged { s with cabins := t.cabins }
          t.run = told.run ∧ t.req = told.req ∧ t.waitTag = told.waitTag) ∧
        t.latched = (if latches then { s.latched with countSaturated := true } else s.latched) ∧
        t.consoleQueue.getLast? =
          some (onePart 0x11 tag 0 [byte d.state.code, byte d.count, flag d.saturated]) ∧
        t.causes = t.tests ∧ t.tracker = s.tracker ∧ t.out = s.out ∧
        (s.run.running = false → t = State.queued
          { s with
            cabins := t.cabins, latched := t.latched, causes := t.causes
            holds := s.holds.map fun h => { h with present := presentFlag h.source t.causes } }
          [onePart 0x11 tag 0 [byte d.state.code, byte d.count, flag d.saturated]])
    (s.ride.n ≤ cabin.toNat →
      refused (.cabinSetVerify tag cabin count) 5 ∧ refused (.cabinSetCorrect tag cabin count) 5 ∧
      refused (.cabinSetTakeOut tag cabin count) 5 ∧ refused (.cabinSetReturn tag cabin count) 5) ∧
    (cabin.toNat < s.ride.n →
      (c.state ≠ .unverified → refused (.cabinSetVerify tag cabin count) 4) ∧
      (c.state = .unverified →
        takes (.cabinSetVerify tag cabin count) { confirmed with unlockedExit := false } exceeds) ∧
      (c.state ≠ .empty → c.state ≠ .loaded → refused (.cabinSetCorrect tag cabin count) 4) ∧
      (c.state = .empty ∨ c.state = .loaded →
        takes (.cabinSetCorrect tag cabin count) confirmed exceeds) ∧
      (c.state ≠ .empty → refused (.cabinSetTakeOut tag cabin count) 4) ∧
      (c.state = .empty → takes (.cabinSetTakeOut tag cabin count)
        { c with state := .outOfService, inService := false } false) ∧
      (c.state ≠ .outOfService ∨ c.capacity = 0 → refused (.cabinSetReturn tag cabin count) 4) ∧
      (c.state = .outOfService → c.capacity ≠ 0 → takes (.cabinSetReturn tag cabin count)
        { c with state := .empty, count := 0, inService := true } false))

/-! ### Frames and requests (chapters 9 and 10) -/

/-- The check of the nine bytes 0x31 to 0x39 is 0x29B1 (R169); every frame with at most 60 bytes of
payload is received as it was formed, and a received frame passes the tests of R168 and R169 exactly
when its characters are those of a frame; FEEDBACK fields survive the line. -/
def Obligations.FramesRoundTrip : Prop :=
  check [0x31, 0x32, 0x33, 0x34, 0x35, 0x36, 0x37, 0x38, 0x39] = 0x29B1 ∧
  (∀ f : Frame, f.payload.length ≤ 60 → frameOf ⟨f.chars, true⟩ = some f) ∧
  (∀ (raw : RawFrame) (f : Frame), frameOf raw = some f →
    raw.chars = f.chars ∧ raw.stopBitsValid = true ∧ f.payload.length ≤ 60) ∧
  (∀ f : FeedbackFields, deliveryOf .drive (feedbackFrame f) = some (.feedback f))

/-- A received frame that fails a test of R168, R169 or R170 is discarded at its end with FRAME_DISCARDED
latched, on the console and the drive line, and changes nothing else.  On the field line the poller judges
it as it judges an ANSWER (R170, R84), so the row ends a frame there as ANSWER does
(log entry 19, DEDUCED). -/
def Obligations.FailingFramesDiscarded : Prop :=
  (∀ (s : State) (raw : RawFrame), exec (.discardedFrame .field raw) s = exec (.answer raw) s) ∧
  ∀ (s : State) (line : Line) (raw : RawFrame), line ≠ .field →
    let cs := raw.chars
    let aux (k : Byte) : Prop := 0x60 ≤ k.toNat ∧ k.toNat ≤ 0x6F
    let failing : Prop :=
      cs.length < 5 ∨ 65 < cs.length ∨ raw.stopBitsValid = false ∨
      (∃ n, cs[2]? = some n ∧ n.toNat + 5 ≠ cs.length) ∨
      cs.drop (cs.length - 2) ≠ be2 (check (cs.take (cs.length - 2))).toNat ∨
      (∃ a, cs[1]? = some a ∧ a ≠ 0) ∨
      (∃ k, cs[0]? = some k ∧ ¬aux k ∧
        (line = .console → k ≠ 0x10 ∧ k ≠ 0x11) ∧ (line = .drive → k ≠ 0x31)) ∨
      (line = .console ∧ cs[0]? = some 0x10 ∧ cs.length ≠ 7) ∨
      (line = .console ∧ cs[0]? = some 0x11 ∧ cs.length < 7) ∨
      (line = .drive ∧ cs[0]? = some 0x31 ∧
        (cs.length ≠ 18 ∨ (∃ m, cs[9]? = some m ∧ 1 < m.toNat) ∨ (∃ b, cs[14]? = some b ∧ 1 < b.toNat)))
    (failing → exec (.discardedFrame line raw) s =
      .next { s with latched := { s.latched with frameDiscarded := true } })

/-- The request buffer (R172, R180): full, the request is discarded; with no room for a reply or a
restart pending it waits; taken, an unknown code is answered UNKNOWN and a wrong argument length LENGTH. A
frame sent leaves the console queue, and its going lets one or both waiting requests be taken in order,
the second if the first leaves room and no restart pending (R172, R174); the going of the RESTART reply
makes the restart take effect (R166). That a frame sent with the queue empty changes nothing is the
model's choice (log entry 7, DEDUCED). -/
def Obligations.RequestsBufferedAndTested : Prop :=
  ∀ (s : State),
    let places (queue : List Frame) := 16 - queue.length - (if s.waitTag = none then 0 else 1)
    (∀ (code tag : Byte) (args : List Byte),
      let waits : Prop := s.modeRec.restartPending = true ∨ places s.consoleQueue < 3
      let arguments : Option Nat := match code.toNat with
        | 0x01 => some 0 | 0x02 => some 1 | 0x03 => some 0 | 0x09 => some 3 | 0x10 => some 2
        | 0x11 => some 3 | 0x18 => some 1 | 0x19 => some 1 | 0x1A => some 0 | 0x1B => some 0
        | 0x20 => some 3 | 0x21 => some 0 | 0x22 => some 0 | 0x28 => some 0 | 0x29 => some 1
        | 0x30 => some 0 | 0x31 => some 0 | _ => none
      (2 ≤ s.requests.length → exec (.request code tag args) s =
        .next { s with latched := { s.latched with frameDiscarded := true } }) ∧
      (s.requests.length < 2 → waits →
        exec (.request code tag args) s = .next { s with requests := s.requests ++ [⟨code, tag, args⟩] }) ∧
      (s.requests = [] → ¬waits →
        (arguments = none → code ≠ 0x08 →
          exec (.request code tag args) s = .next (s.queued [onePart code tag 7 []]) ∧
          exec (.unknownRequest code tag args) s = .next (s.queued [onePart code tag 7 []])) ∧
        (∀ n, arguments = some n → args.length ≠ n →
          exec (.request code tag args) s = .next (s.queued [onePart code tag 6 []])) ∧
        (code = 0x08 → args.length < 2 →
          exec (.request code tag args) s = .next (s.queued [onePart code tag 6 []])))) ∧
    (s.consoleQueue = [] → exec .consoleFrameSent s = .next s) ∧
    ∀ (f : Frame) (rest : List Frame), s.consoleQueue = f :: rest →
      (s.modeRec.restartPending = true → (∃ tag, f = onePart 0x03 tag 0 []) →
        exec .consoleFrameSent s = exec .restartTakesEffect s) ∧
      (s.modeRec.restartPending = true → f.kind ≠ 0x21 ∨ f.payload.head? ≠ some 0x03 →
        exec .consoleFrameSent s = .next { s with consoleQueue := rest }) ∧
      (s.modeRec.restartPending = false → s.requests = [] ∨ places rest < 3 →
        exec .consoleFrameSent s = .next { s with consoleQueue := rest }) ∧
      (∀ q, s.modeRec.restartPending = false → s.requests = [q] → 3 ≤ places rest →
        exec .consoleFrameSent s =
          exec (.request q.code q.tag q.args) { s with consoleQueue := rest, requests := [] }) ∧
      (∀ q r, s.modeRec.restartPending = false → s.requests = [q, r] → 3 ≤ places rest →
        ∃ t, exec (.request q.code q.tag q.args)
            { s with consoleQueue := rest, requests := [] } = .next t ∧ t.requests = [] ∧
          let waits : Prop := t.modeRec.restartPending = true ∨
            16 - t.consoleQueue.length - (if t.waitTag = none then 0 else 1) < 3
          (waits → exec .consoleFrameSent s = .next { t with requests := [r] }) ∧
          (¬waits → exec .consoleFrameSent s = exec (.request r.code r.tag r.args) t))

/-- AUX frames and the drive line (R176, R177): a frame goes on to the other line exactly when the
lowest-numbered set element of its kind allows its direction and the mode, into a free AUX place or the
console queue's room, with QUEUE_FULL without a place and FRAME_DISCARDED without leave; and a frame sent
on the drive line leaves its place, an order going before any AUX frame. The model's choices: a frame
keeps its place until it has been sent, and a free line starts one in the event that places it (log entry
14, DEDUCED); a frame sent with the line free and the queue empty changes nothing (log entry 7, DEDUCED). -/
def Obligations.AuxFramesPassed : Prop :=
  (∀ (s : State) (line : Line) (kind : Byte) (payload : List Byte), line ≠ .field →
    let f : Frame := ⟨kind, 0, payload⟩
    let passed : Prop := ∃ (i : Nat) (e : PassElement), s.passList[i]? = some e ∧ e.kind ≠ 0 ∧
      e.kind = kind.toNat ∧
      (∀ (j : Nat) (d : PassElement), j < i → s.passList[j]? = some d → d.kind ≠ kind.toNat) ∧
      (e.direction = 3 ∨ e.direction = (if line = .console then 1 else 2)) ∧
      (if s.modeRec.mode = .setup then e.setupAllowed else e.serviceAllowed) = true
    let full : Prop := exec (.auxFrame line kind payload) s =
      .next { s with latched := { s.latched with queueFull := true } }
    (¬passed → exec (.auxFrame line kind payload) s =
      .next { s with latched := { s.latched with frameDiscarded := true } }) ∧
    (passed → line = .drive →
      (s.consoleQueue.length < (if s.waitTag = none then 16 else 15) →
        exec (.auxFrame line kind payload) s = .next (s.queued [f])) ∧
      ((if s.waitTag = none then 16 else 15) ≤ s.consoleQueue.length → full)) ∧
    (passed → line = .console →
      (s.driveQueue.aux.length < 3 → exec (.auxFrame line kind payload) s =
        .next { s with driveQueue :=
          { order := s.driveQueue.order, aux := s.driveQueue.aux ++ [f]
            sending := if s.driveQueue.sending ≠ .free then s.driveQueue.sending
              else if s.driveQueue.order = none then .aux else .order } }) ∧
      (3 ≤ s.driveQueue.aux.length → full))) ∧
  (∀ s : State,
    let q := s.driveQueue
    (q.sending = .free → q.order = none → q.aux = [] → exec .driveFrameSent s = .next s) ∧
    (q.sending = .order → exec .driveFrameSent s = .next
      { s with driveQueue := ⟨none, q.aux, if q.aux = [] then .free else .aux⟩ }) ∧
    (∀ f rest, q.sending = .aux → q.aux = f :: rest → exec .driveFrameSent s = .next
      { s with driveQueue := ⟨q.order, rest,
          if q.order ≠ none then .order else if rest = [] then .free else .aux⟩ }))

/-- The ride status record field by field (R183, 9.5): STATUS READ replies with its 33 bytes and then
clears the latched event set alone (R182); a status-period expiry queues it in a RIDE STATUS frame if
there is room (R174), and skips it otherwise, and restarts the timer with the stored period (R184). Where
several cabins stand in a zone, the field gives the lowest-numbered one, which is the model's choice (log
entry 22, DEDUCED; R65 says there is at most one). -/
def Obligations.StatusRecordSent : Prop :=
  ∀ s : State,
    let l := s.latched
    let bit (b : Bool) (k : Nat) := if b then 2 ^ k else 0
    let record : List Byte :=
      ([if s.modeRec.mode = .setup then 1 else 2, if s.req.source = .console then 0 else 1,
        if s.req.armed then 1 else 0] : List Byte) ++ signed2 s.out.setpoint ++
      ([match s.fb.state with | .absent => 0 | .present => 1 | .silent => 2] : List Byte) ++
      signed2 (if s.fb.state = .present then s.fb.speed.getD 0 else 0) ++
      ([match s.fb.brake with | .applied => 0 | .released => 1 | .unknown => 2,
        match s.tracker.state with | .searching => 0 | .locked => 1 | .coasting => 2 | .lost => 3,
        byte (s.tracker.index.getD 255),
        byte ((s.cabins.findIdx? fun c => c.state == .alighting).getD 255),
        byte ((s.cabins.findIdx? fun c => c.state == .boarding).getD 255),
        match s.wind.level with | .calm => 0 | .watch => 1 | .restrict => 2 | .hold => 3]
        : List Byte) ++
      be2 s.wind.govMean ++ be2 s.wind.govGust ++
      [byte s.wind.freshCount, byte ((s.holds.map fun e => e.cls.code).foldl max 0),
        byte s.holds.length] ++
      be2 (s.cabins.map fun c => c.count).sum ++
      be2 ((s.cabins.filter fun c => c.state == .unverified).map fun c => c.count).sum ++
      [if s.run.running then 1 else 0, byte (s.snaps.w - s.snaps.r).toNat] ++
      be2 (bit l.setpointClamped 0 + bit l.countSaturated 1 + bit l.sampleSaturated 2 +
        bit l.strayMarker 3 + bit l.missedMarker 4 + bit l.identityFault 5 + bit l.unknownTag 6 +
        bit l.pollOverrun 7 + bit l.frameDiscarded 8 + bit l.queueFull 9 +
        bit l.snapshotSuperseded 10 + bit l.traceWrapped 11) ++
      be4 s.ms.toNat
    record.length = 33 ∧
    (s.ready → ∀ tag : Byte, exec (.statusRead tag) s = .next (State.queued
      { s with latched := LatchedSet.clear } [onePart 0x01 tag 0 record])) ∧
    exec .statusPeriodExpiry s = .next
      { s with
        timers := { s.timers with status := s.ms + BitVec.ofNat 32 s.ride.statusPeriod }
        consoleQueue := s.consoleQueue ++
          (if s.consoleQueue.length < (if s.waitTag = none then 16 else 15) then [⟨0x20, 0, record⟩]
           else []) }

/-- The read requests change nothing but the console queue, and their replies carry the data of R131,
R114, R92, R154, R159 and R187 in parts of at most 55 bytes with the last-part mark on the last alone
(R173), the totals being those of R48: arguments out of range are answered RANGE. -/
def Obligations.ReadRequestsAnswered : Prop :=
  ∀ (s : State) (tag a b c : Byte), s.ready → Inv s →
    let reads (i : Instr) (code : Byte) (data : List Byte) : Prop :=
      ∃ parts : List Frame, exec i s = .next (s.queued parts) ∧
        parts.length = max 1 ((data.length + 54) / 55) ∧ parts.length ≤ 3 ∧
        ∀ (k : Nat) (f : Frame), parts[k]? = some f → f = ⟨0x21, 0,
          [code, tag, byte k, flag (k + 1 == parts.length), 0] ++ (data.drop (55 * k)).take 55⟩
    let entry (e : HoldEntry) : List Byte :=
      [byte e.source.code, byte e.cls.code, byte e.cause, byte (e.subject.getD 255)] ++
        be4 e.time.toNat ++ [flag e.latched, flag e.present]
    let mast (m : Mast) : List Byte :=
      [byte m.address, byte m.freshness.code, flag m.seeded] ++ be2 m.mean ++ be2 m.gust ++
        [byte m.window.length] ++ be2 (m.lastDirection.getD 0xFFFF) ++ be2 (m.lastRaw.getD 0xFFFF)
    let result (x : PollEntry × ResultRecord) : List Byte :=
      if x.1.kind = .unset then [0, 0, 0, 0]
      else [byte x.1.address, byte x.1.kind.code, byte x.2.last.code, byte x.2.freshness.code]
    let bit (x : Bool) (k : Nat) := if x then 2 ^ k else 0
    let cabin (k : Nat) (x : Cabin) : List Byte :=
      [byte k, match x.state with
        | .outOfService => 0 | .unverified => 1 | .empty => 2 | .loaded => 3 | .alighting => 4
        | .boarding => 5,
      byte x.count, byte x.capacity,
      byte (bit x.inService 0 + bit x.saturated 1 + bit x.withheld.isSome 2 + bit x.entryBarred 3 +
        bit x.unlockedExit 4 + bit x.window.isOpen 5 + bit x.hasValid 6),
      match x.withheld with | none => 0 | some .identity => 1 | some .position => 2] ++
      (match x.outcome with
        | .none => [0, 0] | .matched => [1, 0] | .mismatch shift => [2, byte shift]) ++
      [match x.door with
        | .none => 0 | .open => 1 | .closed => 2 | .locked => 3 | .fault => 4 | .notReported => 5
        | .notAtPlatform => 6,
      byte x.zoneCount] ++ be4 x.exitTime.toNat
    let riders := (s.cabins.map fun x => x.count).sum
    let unverified := ((s.cabins.filter fun x => x.state == .unverified).map fun x => x.count).sum
    reads (.holdList tag) 0x1A ([byte s.holds.length, flag s.causes.door, flag s.causes.platform,
      flag s.causes.drive] ++ s.holds.flatMap entry) ∧
    reads (.windRead tag) 0x28 (s.masts.flatMap mast ++ be2 s.wind.govMean ++ be2 s.wind.govGust ++
      [byte s.wind.freshCount, byte s.wind.level.code, byte s.wind.up,
        byte ((s.wind.runMin.map WindLevel.code).getD 255)] ++ be2 s.wind.down ++
      be2 s.trace.entries.length ++ be2 (s.trace.last.getD 0xFFFF)) ∧
    reads (.pollResults tag) 0x31 ([flag (s.poller.phase != .idle),
      byte (s.poller.inFlight.getD 255), flag s.poller.pendingMark, byte s.walked.length] ++
      (s.walked.zip s.results).flatMap result) ∧
    reads (.profileStatus tag) 0x22 ([flag s.run.running, byte (s.run.profile.getD 255),
      byte s.run.step, byte s.run.repeats] ++
      be4 (if s.run.running then (s.ms - s.run.stepStart).toNat else s.run.finalTime) ++
      [byte ((s.run.lastEnd.map EndStatus.code).getD 1), flag s.waitTag.isSome]) ∧
    (∀ t : TableId, tableOf a = some t →
      (b.toNat < t.elements → 1 ≤ c.toNat → c.toNat ≤ 8 → b.toNat + c.toNat ≤ t.elements →
        reads (.tableRead tag a b c) 0x09 ([a, b, c, flag s.modeRec.checked] ++
          (((s.tableElements t).drop b.toNat).take c.toNat).flatten)) ∧
      (t.elements ≤ b.toNat ∨ c = 0 ∨ 8 < c.toNat ∨ t.elements < b.toNat + c.toNat →
        exec (.tableRead tag a b c) s = .next (s.queued [onePart 0x09 tag 5 []]))) ∧
    (tableOf a = none → exec (.tableRead tag a b c) s = .next (s.queued [onePart 0x09 tag 5 []])) ∧
    (1 ≤ b.toNat → b.toNat ≤ 8 → a.toNat + b.toNat ≤ 64 →
      reads (.cabinRead tag a b) 0x10 ([a, b] ++ be2 riders ++ be2 unverified ++
        (List.range b.toNat).flatMap fun k =>
          cabin (a.toNat + k) (s.cabins.getD (a.toNat + k) Cabin.notLoaded)) ∧
      ∀ (k : Nat) (x : Cabin), (cabin k x).length = 14) ∧
    (b = 0 ∨ 8 < b.toNat ∨ 64 < a.toNat + b.toNat →
      exec (.cabinRead tag a b) s = .next (s.queued [onePart 0x10 tag 5 []]))

/-- TRACE TAKE (R110, R109): RANGE outside 1 to 16, NONE with the trace empty; otherwise the oldest
entries leave in the coding of 9.5, the trace that remains replays from its own start to the value it
replayed to before while it holds a value, and its last value is UNKNOWN when it holds none. -/
def Obligations.TraceTakeShortens : Prop :=
  ∀ (s : State) (tag n : Byte), s.ready → TraceInv s →
    (n.toNat = 0 ∨ 16 < n.toNat →
      exec (.traceTake tag n) s = .next (s.queued [onePart 0x29 tag 5 []])) ∧
    (1 ≤ n.toNat → n.toNat ≤ 16 → s.trace.entries = [] →
      exec (.traceTake tag n) s = .next (s.queued [onePart 0x29 tag 1 []])) ∧
    (1 ≤ n.toNat → n.toNat ≤ 16 → s.trace.entries ≠ [] →
      let k := min n.toNat s.trace.entries.length
      let left := s.trace.entries.drop k
      let entry (e : TraceEntry) : List Byte := match e with
        | .full v => [1] ++ be2 v ++ [0]
        | .level l => [2, match l with | .calm => 0 | .watch => 1 | .restrict => 2 | .hold => 3, 0, 0]
        | .gap => [3, 0, 0, 0]
        | .delta ds => [byte (3 + ds.length)] ++ ds.map (fun d => BitVec.ofInt 8 d) ++
            List.replicate (3 - ds.length) 0
      let data := be2 left.length ++ [byte k] ++ (s.trace.entries.take k).flatMap entry
      let hasValue := left.any TraceEntry.bearsValue
      ∃ t parts, exec (.traceTake tag n) s = .next t ∧
        t = State.queued { s with trace := t.trace } parts ∧ parts = replyParts 0x29 tag .ok data ∧
        parts.length = (if k ≤ 13 then 1 else 2) ∧
        t.trace.entries.length = left.length ∧ t.trace.gapMark = s.trace.gapMark ∧
        replays none t.trace.entries = true ∧
        (hasValue = true → replay none t.trace.entries = replay none s.trace.entries ∧
          t.trace.last = s.trace.last) ∧
        (hasValue = false → t.trace.entries = left ∧ t.trace.last = none))
end

