-- ==== Sys2Proof/Laws/Frames.lean ====
section
/-! SUPPORT. What each shared operation leaves as it was: one lemma per operation, every field that the
operation does not touch, for simp. -/

namespace Sys2Proof.Machine

variable (s : State)

/-- Latching an event (R185) touches the latched event set alone. -/
@[simp] theorem latch_frame (e : Event) :
    (latch e s).ms = s.ms ∧ (latch e s).modeRec = s.modeRec ∧ (latch e s).ride = s.ride ∧
    (latch e s).zone = s.zone ∧ (latch e s).windTable = s.windTable ∧
    (latch e s).pollParams = s.pollParams ∧ (latch e s).pollEntries = s.pollEntries ∧
    (latch e s).passList = s.passList ∧ (latch e s).profiles = s.profiles ∧ (latch e s).req = s.req ∧
    (latch e s).expiries = s.expiries ∧ (latch e s).out = s.out ∧ (latch e s).fb = s.fb ∧
    (latch e s).still = s.still ∧ (latch e s).tracker = s.tracker ∧ (latch e s).cabins = s.cabins ∧
    (latch e s).alightStation = s.alightStation ∧ (latch e s).boardStation = s.boardStation ∧
    (latch e s).poller = s.poller ∧ (latch e s).results = s.results ∧ (latch e s).masts = s.masts ∧
    (latch e s).wind = s.wind ∧ (latch e s).trace = s.trace ∧ (latch e s).holds = s.holds ∧
    (latch e s).causes = s.causes ∧ (latch e s).snaps = s.snaps ∧ (latch e s).run = s.run ∧
    (latch e s).rx = s.rx ∧ (latch e s).consoleQueue = s.consoleQueue ∧
    (latch e s).driveQueue = s.driveQueue ∧ (latch e s).requests = s.requests ∧
    (latch e s).waitTag = s.waitTag ∧ (latch e s).timers = s.timers ∧ (latch e s).freeCount = s.freeCount ∧
    (latch e s).pending = s.pending := by
  simp [latch]

/-- So does a conditional latch. -/
@[simp] theorem latchIf_frame (c : Bool) (e : Event) :
    (latchIf c e s).ms = s.ms ∧ (latchIf c e s).modeRec = s.modeRec ∧ (latchIf c e s).ride = s.ride ∧
    (latchIf c e s).zone = s.zone ∧ (latchIf c e s).windTable = s.windTable ∧
    (latchIf c e s).pollParams = s.pollParams ∧ (latchIf c e s).pollEntries = s.pollEntries ∧
    (latchIf c e s).passList = s.passList ∧ (latchIf c e s).profiles = s.profiles ∧
    (latchIf c e s).req = s.req ∧ (latchIf c e s).expiries = s.expiries ∧ (latchIf c e s).out = s.out ∧
    (latchIf c e s).fb = s.fb ∧ (latchIf c e s).still = s.still ∧ (latchIf c e s).tracker = s.tracker ∧
    (latchIf c e s).cabins = s.cabins ∧ (latchIf c e s).alightStation = s.alightStation ∧
    (latchIf c e s).boardStation = s.boardStation ∧ (latchIf c e s).poller = s.poller ∧
    (latchIf c e s).results = s.results ∧ (latchIf c e s).masts = s.masts ∧ (latchIf c e s).wind = s.wind ∧
    (latchIf c e s).trace = s.trace ∧ (latchIf c e s).holds = s.holds ∧ (latchIf c e s).causes = s.causes ∧
    (latchIf c e s).snaps = s.snaps ∧ (latchIf c e s).run = s.run ∧ (latchIf c e s).rx = s.rx ∧
    (latchIf c e s).consoleQueue = s.consoleQueue ∧ (latchIf c e s).driveQueue = s.driveQueue ∧
    (latchIf c e s).requests = s.requests ∧ (latchIf c e s).waitTag = s.waitTag ∧
    (latchIf c e s).timers = s.timers ∧ (latchIf c e s).freeCount = s.freeCount ∧
    (latchIf c e s).pending = s.pending := by
  cases c <;> simp [latchIf]

/-- Queueing frames (R174) touches the console queue alone. -/
@[simp] theorem queueFrames_frame (fs : List Frame) :
    (queueFrames fs s).ms = s.ms ∧ (queueFrames fs s).modeRec = s.modeRec ∧
    (queueFrames fs s).ride = s.ride ∧ (queueFrames fs s).zone = s.zone ∧
    (queueFrames fs s).windTable = s.windTable ∧ (queueFrames fs s).pollParams = s.pollParams ∧
    (queueFrames fs s).pollEntries = s.pollEntries ∧ (queueFrames fs s).passList = s.passList ∧
    (queueFrames fs s).profiles = s.profiles ∧ (queueFrames fs s).req = s.req ∧
    (queueFrames fs s).expiries = s.expiries ∧ (queueFrames fs s).out = s.out ∧
    (queueFrames fs s).fb = s.fb ∧ (queueFrames fs s).still = s.still ∧
    (queueFrames fs s).tracker = s.tracker ∧ (queueFrames fs s).cabins = s.cabins ∧
    (queueFrames fs s).alightStation = s.alightStation ∧ (queueFrames fs s).boardStation = s.boardStation ∧
    (queueFrames fs s).poller = s.poller ∧ (queueFrames fs s).results = s.results ∧
    (queueFrames fs s).masts = s.masts ∧ (queueFrames fs s).wind = s.wind ∧
    (queueFrames fs s).trace = s.trace ∧ (queueFrames fs s).holds = s.holds ∧
    (queueFrames fs s).causes = s.causes ∧ (queueFrames fs s).snaps = s.snaps ∧
    (queueFrames fs s).run = s.run ∧ (queueFrames fs s).rx = s.rx ∧
    (queueFrames fs s).driveQueue = s.driveQueue ∧ (queueFrames fs s).requests = s.requests ∧
    (queueFrames fs s).waitTag = s.waitTag ∧ (queueFrames fs s).latched = s.latched ∧
    (queueFrames fs s).timers = s.timers ∧ (queueFrames fs s).freeCount = s.freeCount ∧
    (queueFrames fs s).pending = s.pending := by
  simp [queueFrames]

/-- A reply (R181) touches the console queue alone. -/
@[simp] theorem reply_frame (code tag : Byte) (st : Status) (d : List Byte) :
    (reply code tag st d s).ms = s.ms ∧ (reply code tag st d s).modeRec = s.modeRec ∧
    (reply code tag st d s).ride = s.ride ∧ (reply code tag st d s).zone = s.zone ∧
    (reply code tag st d s).windTable = s.windTable ∧ (reply code tag st d s).pollParams = s.pollParams ∧
    (reply code tag st d s).pollEntries = s.pollEntries ∧ (reply code tag st d s).passList = s.passList ∧
    (reply code tag st d s).profiles = s.profiles ∧ (reply code tag st d s).req = s.req ∧
    (reply code tag st d s).expiries = s.expiries ∧ (reply code tag st d s).out = s.out ∧
    (reply code tag st d s).fb = s.fb ∧ (reply code tag st d s).still = s.still ∧
    (reply code tag st d s).tracker = s.tracker ∧ (reply code tag st d s).cabins = s.cabins ∧
    (reply code tag st d s).alightStation = s.alightStation ∧
    (reply code tag st d s).boardStation = s.boardStation ∧ (reply code tag st d s).poller = s.poller ∧
    (reply code tag st d s).results = s.results ∧ (reply code tag st d s).masts = s.masts ∧
    (reply code tag st d s).wind = s.wind ∧ (reply code tag st d s).trace = s.trace ∧
    (reply code tag st d s).holds = s.holds ∧ (reply code tag st d s).causes = s.causes ∧
    (reply code tag st d s).snaps = s.snaps ∧ (reply code tag st d s).run = s.run ∧
    (reply code tag st d s).rx = s.rx ∧ (reply code tag st d s).driveQueue = s.driveQueue ∧
    (reply code tag st d s).requests = s.requests ∧ (reply code tag st d s).waitTag = s.waitTag ∧
    (reply code tag st d s).latched = s.latched ∧ (reply code tag st d s).timers = s.timers ∧
    (reply code tag st d s).freeCount = s.freeCount ∧ (reply code tag st d s).pending = s.pending := by
  simp [reply]

/-- A frame queued if there is room (R174). -/
@[simp] theorem queueOrFull_frame (f : Frame) :
    (queueOrFull f s).ms = s.ms ∧ (queueOrFull f s).modeRec = s.modeRec ∧ (queueOrFull f s).ride = s.ride ∧
    (queueOrFull f s).zone = s.zone ∧ (queueOrFull f s).windTable = s.windTable ∧
    (queueOrFull f s).pollParams = s.pollParams ∧ (queueOrFull f s).pollEntries = s.pollEntries ∧
    (queueOrFull f s).passList = s.passList ∧ (queueOrFull f s).profiles = s.profiles ∧
    (queueOrFull f s).req = s.req ∧ (queueOrFull f s).expiries = s.expiries ∧
    (queueOrFull f s).out = s.out ∧ (queueOrFull f s).fb = s.fb ∧ (queueOrFull f s).still = s.still ∧
    (queueOrFull f s).tracker = s.tracker ∧ (queueOrFull f s).cabins = s.cabins ∧
    (queueOrFull f s).alightStation = s.alightStation ∧ (queueOrFull f s).boardStation = s.boardStation ∧
    (queueOrFull f s).poller = s.poller ∧ (queueOrFull f s).results = s.results ∧
    (queueOrFull f s).masts = s.masts ∧ (queueOrFull f s).wind = s.wind ∧
    (queueOrFull f s).trace = s.trace ∧ (queueOrFull f s).holds = s.holds ∧
    (queueOrFull f s).causes = s.causes ∧ (queueOrFull f s).snaps = s.snaps ∧
    (queueOrFull f s).run = s.run ∧ (queueOrFull f s).rx = s.rx ∧
    (queueOrFull f s).driveQueue = s.driveQueue ∧ (queueOrFull f s).requests = s.requests ∧
    (queueOrFull f s).waitTag = s.waitTag ∧ (queueOrFull f s).timers = s.timers ∧
    (queueOrFull f s).freeCount = s.freeCount ∧ (queueOrFull f s).pending = s.pending := by
  unfold queueOrFull; split <;> simp

/-- The final reply (R153) touches the console queue and the marker. -/
@[simp] theorem finalReply_frame (e : EndStatus) :
    (finalReply e s).ms = s.ms ∧ (finalReply e s).modeRec = s.modeRec ∧ (finalReply e s).ride = s.ride ∧
    (finalReply e s).zone = s.zone ∧ (finalReply e s).windTable = s.windTable ∧
    (finalReply e s).pollParams = s.pollParams ∧ (finalReply e s).pollEntries = s.pollEntries ∧
    (finalReply e s).passList = s.passList ∧ (finalReply e s).profiles = s.profiles ∧
    (finalReply e s).req = s.req ∧ (finalReply e s).expiries = s.expiries ∧ (finalReply e s).out = s.out ∧
    (finalReply e s).fb = s.fb ∧ (finalReply e s).still = s.still ∧ (finalReply e s).tracker = s.tracker ∧
    (finalReply e s).cabins = s.cabins ∧ (finalReply e s).alightStation = s.alightStation ∧
    (finalReply e s).boardStation = s.boardStation ∧ (finalReply e s).poller = s.poller ∧
    (finalReply e s).results = s.results ∧ (finalReply e s).masts = s.masts ∧
    (finalReply e s).wind = s.wind ∧ (finalReply e s).trace = s.trace ∧ (finalReply e s).holds = s.holds ∧
    (finalReply e s).causes = s.causes ∧ (finalReply e s).snaps = s.snaps ∧ (finalReply e s).run = s.run ∧
    (finalReply e s).rx = s.rx ∧ (finalReply e s).driveQueue = s.driveQueue ∧
    (finalReply e s).requests = s.requests ∧ (finalReply e s).latched = s.latched ∧
    (finalReply e s).timers = s.timers ∧ (finalReply e s).freeCount = s.freeCount ∧
    (finalReply e s).pending = s.pending := by
  unfold finalReply; split <;> simp

/-- The end of a run (R150). -/
@[simp] theorem endRun_frame (e : EndStatus) :
    (endRun e s).ms = s.ms ∧ (endRun e s).modeRec = s.modeRec ∧ (endRun e s).ride = s.ride ∧
    (endRun e s).zone = s.zone ∧ (endRun e s).windTable = s.windTable ∧
    (endRun e s).pollParams = s.pollParams ∧ (endRun e s).pollEntries = s.pollEntries ∧
    (endRun e s).passList = s.passList ∧ (endRun e s).profiles = s.profiles ∧
    (endRun e s).expiries = s.expiries ∧ (endRun e s).out = s.out ∧ (endRun e s).fb = s.fb ∧
    (endRun e s).still = s.still ∧ (endRun e s).tracker = s.tracker ∧ (endRun e s).cabins = s.cabins ∧
    (endRun e s).alightStation = s.alightStation ∧ (endRun e s).boardStation = s.boardStation ∧
    (endRun e s).poller = s.poller ∧ (endRun e s).results = s.results ∧ (endRun e s).masts = s.masts ∧
    (endRun e s).wind = s.wind ∧ (endRun e s).trace = s.trace ∧ (endRun e s).holds = s.holds ∧
    (endRun e s).causes = s.causes ∧ (endRun e s).snaps = s.snaps ∧ (endRun e s).rx = s.rx ∧
    (endRun e s).driveQueue = s.driveQueue ∧ (endRun e s).requests = s.requests ∧
    (endRun e s).latched = s.latched ∧ (endRun e s).timers = s.timers ∧
    (endRun e s).freeCount = s.freeCount ∧ (endRun e s).pending = s.pending := by
  simp [endRun]

/-- A snapshot captured (R133, R134). -/
@[simp] theorem capture_frame (e : HoldEntry) :
    (capture e s).ms = s.ms ∧ (capture e s).modeRec = s.modeRec ∧ (capture e s).ride = s.ride ∧
    (capture e s).zone = s.zone ∧ (capture e s).windTable = s.windTable ∧
    (capture e s).pollParams = s.pollParams ∧ (capture e s).pollEntries = s.pollEntries ∧
    (capture e s).passList = s.passList ∧ (capture e s).profiles = s.profiles ∧ (capture e s).req = s.req ∧
    (capture e s).expiries = s.expiries ∧ (capture e s).out = s.out ∧ (capture e s).fb = s.fb ∧
    (capture e s).still = s.still ∧ (capture e s).tracker = s.tracker ∧ (capture e s).cabins = s.cabins ∧
    (capture e s).alightStation = s.alightStation ∧ (capture e s).boardStation = s.boardStation ∧
    (capture e s).poller = s.poller ∧ (capture e s).results = s.results ∧ (capture e s).masts = s.masts ∧
    (capture e s).wind = s.wind ∧ (capture e s).trace = s.trace ∧ (capture e s).holds = s.holds ∧
    (capture e s).causes = s.causes ∧ (capture e s).run = s.run ∧ (capture e s).rx = s.rx ∧
    (capture e s).consoleQueue = s.consoleQueue ∧ (capture e s).driveQueue = s.driveQueue ∧
    (capture e s).requests = s.requests ∧ (capture e s).waitTag = s.waitTag ∧
    (capture e s).timers = s.timers ∧ (capture e s).freeCount = s.freeCount ∧
    (capture e s).pending = s.pending := by
  unfold capture; split <;> simp

/-- The entry bar (R62). -/
@[simp] theorem barBoarding_frame :
    (barBoarding s).ms = s.ms ∧ (barBoarding s).modeRec = s.modeRec ∧ (barBoarding s).ride = s.ride ∧
    (barBoarding s).zone = s.zone ∧ (barBoarding s).windTable = s.windTable ∧
    (barBoarding s).pollParams = s.pollParams ∧ (barBoarding s).pollEntries = s.pollEntries ∧
    (barBoarding s).passList = s.passList ∧ (barBoarding s).profiles = s.profiles ∧
    (barBoarding s).req = s.req ∧ (barBoarding s).expiries = s.expiries ∧ (barBoarding s).out = s.out ∧
    (barBoarding s).fb = s.fb ∧ (barBoarding s).still = s.still ∧ (barBoarding s).tracker = s.tracker ∧
    (barBoarding s).alightStation = s.alightStation ∧ (barBoarding s).boardStation = s.boardStation ∧
    (barBoarding s).poller = s.poller ∧ (barBoarding s).results = s.results ∧
    (barBoarding s).masts = s.masts ∧ (barBoarding s).wind = s.wind ∧ (barBoarding s).trace = s.trace ∧
    (barBoarding s).holds = s.holds ∧ (barBoarding s).causes = s.causes ∧ (barBoarding s).snaps = s.snaps ∧
    (barBoarding s).run = s.run ∧ (barBoarding s).rx = s.rx ∧
    (barBoarding s).consoleQueue = s.consoleQueue ∧ (barBoarding s).driveQueue = s.driveQueue ∧
    (barBoarding s).requests = s.requests ∧ (barBoarding s).waitTag = s.waitTag ∧
    (barBoarding s).latched = s.latched ∧ (barBoarding s).timers = s.timers ∧
    (barBoarding s).freeCount = s.freeCount ∧ (barBoarding s).pending = s.pending := by
  simp [barBoarding]

/-- The effects of a STOP (R126). -/
@[simp] theorem stopEffects_frame (e : HoldEntry) :
    (stopEffects e s).ms = s.ms ∧ (stopEffects e s).modeRec = s.modeRec ∧ (stopEffects e s).ride = s.ride ∧
    (stopEffects e s).zone = s.zone ∧ (stopEffects e s).windTable = s.windTable ∧
    (stopEffects e s).pollParams = s.pollParams ∧ (stopEffects e s).pollEntries = s.pollEntries ∧
    (stopEffects e s).passList = s.passList ∧ (stopEffects e s).profiles = s.profiles ∧
    (stopEffects e s).expiries = s.expiries ∧ (stopEffects e s).out = s.out ∧ (stopEffects e s).fb = s.fb ∧
    (stopEffects e s).still = s.still ∧ (stopEffects e s).tracker = s.tracker ∧
    (stopEffects e s).cabins = s.cabins ∧ (stopEffects e s).alightStation = s.alightStation ∧
    (stopEffects e s).boardStation = s.boardStation ∧ (stopEffects e s).poller = s.poller ∧
    (stopEffects e s).results = s.results ∧ (stopEffects e s).masts = s.masts ∧
    (stopEffects e s).wind = s.wind ∧ (stopEffects e s).trace = s.trace ∧
    (stopEffects e s).holds = s.holds ∧ (stopEffects e s).causes = s.causes ∧ (stopEffects e s).rx = s.rx ∧
    (stopEffects e s).driveQueue = s.driveQueue ∧ (stopEffects e s).requests = s.requests ∧
    (stopEffects e s).timers = s.timers ∧ (stopEffects e s).freeCount = s.freeCount ∧
    (stopEffects e s).pending = s.pending := by
  unfold stopEffects; split <;> simp

/-- The effects of a STOP, when it is one. -/
@[simp] theorem stopEffectsIf_frame (c : Bool) (e : HoldEntry) :
    (stopEffectsIf c e s).ms = s.ms ∧ (stopEffectsIf c e s).modeRec = s.modeRec ∧
    (stopEffectsIf c e s).ride = s.ride ∧ (stopEffectsIf c e s).zone = s.zone ∧
    (stopEffectsIf c e s).windTable = s.windTable ∧ (stopEffectsIf c e s).pollParams = s.pollParams ∧
    (stopEffectsIf c e s).pollEntries = s.pollEntries ∧ (stopEffectsIf c e s).passList = s.passList ∧
    (stopEffectsIf c e s).profiles = s.profiles ∧ (stopEffectsIf c e s).expiries = s.expiries ∧
    (stopEffectsIf c e s).out = s.out ∧ (stopEffectsIf c e s).fb = s.fb ∧
    (stopEffectsIf c e s).still = s.still ∧ (stopEffectsIf c e s).tracker = s.tracker ∧
    (stopEffectsIf c e s).cabins = s.cabins ∧ (stopEffectsIf c e s).alightStation = s.alightStation ∧
    (stopEffectsIf c e s).boardStation = s.boardStation ∧ (stopEffectsIf c e s).poller = s.poller ∧
    (stopEffectsIf c e s).results = s.results ∧ (stopEffectsIf c e s).masts = s.masts ∧
    (stopEffectsIf c e s).wind = s.wind ∧ (stopEffectsIf c e s).trace = s.trace ∧
    (stopEffectsIf c e s).holds = s.holds ∧ (stopEffectsIf c e s).causes = s.causes ∧
    (stopEffectsIf c e s).rx = s.rx ∧ (stopEffectsIf c e s).driveQueue = s.driveQueue ∧
    (stopEffectsIf c e s).requests = s.requests ∧ (stopEffectsIf c e s).timers = s.timers ∧
    (stopEffectsIf c e s).freeCount = s.freeCount ∧ (stopEffectsIf c e s).pending = s.pending := by
  cases c <;> simp [stopEffectsIf]

/-- An entry added (R117). -/
@[simp] theorem addEntry_frame (e : HoldEntry) :
    (addEntry e s).ms = s.ms ∧ (addEntry e s).modeRec = s.modeRec ∧ (addEntry e s).ride = s.ride ∧
    (addEntry e s).zone = s.zone ∧ (addEntry e s).windTable = s.windTable ∧
    (addEntry e s).pollParams = s.pollParams ∧ (addEntry e s).pollEntries = s.pollEntries ∧
    (addEntry e s).passList = s.passList ∧ (addEntry e s).profiles = s.profiles ∧
    (addEntry e s).expiries = s.expiries ∧ (addEntry e s).out = s.out ∧ (addEntry e s).fb = s.fb ∧
    (addEntry e s).still = s.still ∧ (addEntry e s).tracker = s.tracker ∧
    (addEntry e s).alightStation = s.alightStation ∧ (addEntry e s).boardStation = s.boardStation ∧
    (addEntry e s).poller = s.poller ∧ (addEntry e s).results = s.results ∧
    (addEntry e s).masts = s.masts ∧ (addEntry e s).wind = s.wind ∧ (addEntry e s).trace = s.trace ∧
    (addEntry e s).causes = s.causes ∧ (addEntry e s).rx = s.rx ∧
    (addEntry e s).driveQueue = s.driveQueue ∧ (addEntry e s).requests = s.requests ∧
    (addEntry e s).timers = s.timers ∧ (addEntry e s).freeCount = s.freeCount ∧
    (addEntry e s).pending = s.pending := by
  unfold addEntry; split <;> simp

/-- An entry written in its place. -/
@[simp] theorem putEntry_frame (e : HoldEntry) :
    (putEntry e s).ms = s.ms ∧ (putEntry e s).modeRec = s.modeRec ∧ (putEntry e s).ride = s.ride ∧
    (putEntry e s).zone = s.zone ∧ (putEntry e s).windTable = s.windTable ∧
    (putEntry e s).pollParams = s.pollParams ∧ (putEntry e s).pollEntries = s.pollEntries ∧
    (putEntry e s).passList = s.passList ∧ (putEntry e s).profiles = s.profiles ∧
    (putEntry e s).req = s.req ∧ (putEntry e s).expiries = s.expiries ∧ (putEntry e s).out = s.out ∧
    (putEntry e s).fb = s.fb ∧ (putEntry e s).still = s.still ∧ (putEntry e s).tracker = s.tracker ∧
    (putEntry e s).cabins = s.cabins ∧ (putEntry e s).alightStation = s.alightStation ∧
    (putEntry e s).boardStation = s.boardStation ∧ (putEntry e s).poller = s.poller ∧
    (putEntry e s).results = s.results ∧ (putEntry e s).masts = s.masts ∧ (putEntry e s).wind = s.wind ∧
    (putEntry e s).trace = s.trace ∧ (putEntry e s).causes = s.causes ∧ (putEntry e s).snaps = s.snaps ∧
    (putEntry e s).run = s.run ∧ (putEntry e s).rx = s.rx ∧ (putEntry e s).consoleQueue = s.consoleQueue ∧
    (putEntry e s).driveQueue = s.driveQueue ∧ (putEntry e s).requests = s.requests ∧
    (putEntry e s).waitTag = s.waitTag ∧ (putEntry e s).latched = s.latched ∧
    (putEntry e s).timers = s.timers ∧ (putEntry e s).freeCount = s.freeCount ∧
    (putEntry e s).pending = s.pending := by
  simp [putEntry]

/-- An entry removed (R121). -/
@[simp] theorem removeEntry_frame (src : HoldSource) :
    (removeEntry src s).ms = s.ms ∧ (removeEntry src s).modeRec = s.modeRec ∧
    (removeEntry src s).ride = s.ride ∧ (removeEntry src s).zone = s.zone ∧
    (removeEntry src s).windTable = s.windTable ∧ (removeEntry src s).pollParams = s.pollParams ∧
    (removeEntry src s).pollEntries = s.pollEntries ∧ (removeEntry src s).passList = s.passList ∧
    (removeEntry src s).profiles = s.profiles ∧ (removeEntry src s).req = s.req ∧
    (removeEntry src s).expiries = s.expiries ∧ (removeEntry src s).out = s.out ∧
    (removeEntry src s).fb = s.fb ∧ (removeEntry src s).still = s.still ∧
    (removeEntry src s).tracker = s.tracker ∧ (removeEntry src s).cabins = s.cabins ∧
    (removeEntry src s).alightStation = s.alightStation ∧
    (removeEntry src s).boardStation = s.boardStation ∧ (removeEntry src s).poller = s.poller ∧
    (removeEntry src s).results = s.results ∧ (removeEntry src s).masts = s.masts ∧
    (removeEntry src s).wind = s.wind ∧ (removeEntry src s).trace = s.trace ∧
    (removeEntry src s).causes = s.causes ∧ (removeEntry src s).snaps = s.snaps ∧
    (removeEntry src s).run = s.run ∧ (removeEntry src s).rx = s.rx ∧
    (removeEntry src s).consoleQueue = s.consoleQueue ∧ (removeEntry src s).driveQueue = s.driveQueue ∧
    (removeEntry src s).requests = s.requests ∧ (removeEntry src s).waitTag = s.waitTag ∧
    (removeEntry src s).latched = s.latched ∧ (removeEntry src s).timers = s.timers ∧
    (removeEntry src s).freeCount = s.freeCount ∧ (removeEntry src s).pending = s.pending := by
  simp [removeEntry]

/-- An absence report (R119). -/
@[simp] theorem absenceReport_frame (src : HoldSource) :
    (absenceReport src s).ms = s.ms ∧ (absenceReport src s).modeRec = s.modeRec ∧
    (absenceReport src s).ride = s.ride ∧ (absenceReport src s).zone = s.zone ∧
    (absenceReport src s).windTable = s.windTable ∧ (absenceReport src s).pollParams = s.pollParams ∧
    (absenceReport src s).pollEntries = s.pollEntries ∧ (absenceReport src s).passList = s.passList ∧
    (absenceReport src s).profiles = s.profiles ∧ (absenceReport src s).req = s.req ∧
    (absenceReport src s).expiries = s.expiries ∧ (absenceReport src s).out = s.out ∧
    (absenceReport src s).fb = s.fb ∧ (absenceReport src s).still = s.still ∧
    (absenceReport src s).tracker = s.tracker ∧ (absenceReport src s).cabins = s.cabins ∧
    (absenceReport src s).alightStation = s.alightStation ∧
    (absenceReport src s).boardStation = s.boardStation ∧ (absenceReport src s).poller = s.poller ∧
    (absenceReport src s).results = s.results ∧ (absenceReport src s).masts = s.masts ∧
    (absenceReport src s).wind = s.wind ∧ (absenceReport src s).trace = s.trace ∧
    (absenceReport src s).causes = s.causes ∧ (absenceReport src s).snaps = s.snaps ∧
    (absenceReport src s).run = s.run ∧ (absenceReport src s).rx = s.rx ∧
    (absenceReport src s).consoleQueue = s.consoleQueue ∧ (absenceReport src s).driveQueue = s.driveQueue ∧
    (absenceReport src s).requests = s.requests ∧ (absenceReport src s).waitTag = s.waitTag ∧
    (absenceReport src s).latched = s.latched ∧ (absenceReport src s).timers = s.timers ∧
    (absenceReport src s).freeCount = s.freeCount ∧ (absenceReport src s).pending = s.pending := by
  unfold absenceReport; repeat' split
  all_goals simp

/-- A cause report (R117 to R120). -/
@[simp] theorem causeReport_frame (src : HoldSource) (k : Nat) (c : HoldClass) (sub : Option Nat) :
    (causeReport src k c sub s).ms = s.ms ∧ (causeReport src k c sub s).modeRec = s.modeRec ∧
    (causeReport src k c sub s).ride = s.ride ∧ (causeReport src k c sub s).zone = s.zone ∧
    (causeReport src k c sub s).windTable = s.windTable ∧
    (causeReport src k c sub s).pollParams = s.pollParams ∧
    (causeReport src k c sub s).pollEntries = s.pollEntries ∧
    (causeReport src k c sub s).passList = s.passList ∧ (causeReport src k c sub s).profiles = s.profiles ∧
    (causeReport src k c sub s).expiries = s.expiries ∧ (causeReport src k c sub s).out = s.out ∧
    (causeReport src k c sub s).fb = s.fb ∧ (causeReport src k c sub s).still = s.still ∧
    (causeReport src k c sub s).tracker = s.tracker ∧
    (causeReport src k c sub s).alightStation = s.alightStation ∧
    (causeReport src k c sub s).boardStation = s.boardStation ∧
    (causeReport src k c sub s).poller = s.poller ∧ (causeReport src k c sub s).results = s.results ∧
    (causeReport src k c sub s).masts = s.masts ∧ (causeReport src k c sub s).wind = s.wind ∧
    (causeReport src k c sub s).trace = s.trace ∧ (causeReport src k c sub s).causes = s.causes ∧
    (causeReport src k c sub s).rx = s.rx ∧ (causeReport src k c sub s).driveQueue = s.driveQueue ∧
    (causeReport src k c sub s).requests = s.requests ∧ (causeReport src k c sub s).timers = s.timers ∧
    (causeReport src k c sub s).freeCount = s.freeCount ∧ (causeReport src k c sub s).pending = s.pending := by
  unfold causeReport; split <;> simp

/-- A test report (R124). -/
@[simp] theorem testReport_frame (c : CauseStates) :
    (testReport c s).ms = s.ms ∧ (testReport c s).modeRec = s.modeRec ∧ (testReport c s).ride = s.ride ∧
    (testReport c s).zone = s.zone ∧ (testReport c s).windTable = s.windTable ∧
    (testReport c s).pollParams = s.pollParams ∧ (testReport c s).pollEntries = s.pollEntries ∧
    (testReport c s).passList = s.passList ∧ (testReport c s).profiles = s.profiles ∧
    (testReport c s).req = s.req ∧ (testReport c s).expiries = s.expiries ∧ (testReport c s).out = s.out ∧
    (testReport c s).fb = s.fb ∧ (testReport c s).still = s.still ∧ (testReport c s).tracker = s.tracker ∧
    (testReport c s).cabins = s.cabins ∧ (testReport c s).alightStation = s.alightStation ∧
    (testReport c s).boardStation = s.boardStation ∧ (testReport c s).poller = s.poller ∧
    (testReport c s).results = s.results ∧ (testReport c s).masts = s.masts ∧
    (testReport c s).wind = s.wind ∧ (testReport c s).trace = s.trace ∧ (testReport c s).snaps = s.snaps ∧
    (testReport c s).run = s.run ∧ (testReport c s).rx = s.rx ∧
    (testReport c s).consoleQueue = s.consoleQueue ∧ (testReport c s).driveQueue = s.driveQueue ∧
    (testReport c s).requests = s.requests ∧ (testReport c s).waitTag = s.waitTag ∧
    (testReport c s).latched = s.latched ∧ (testReport c s).timers = s.timers ∧
    (testReport c s).freeCount = s.freeCount ∧ (testReport c s).pending = s.pending := by
  simp [testReport]

/-- The tests taken again (R74, R124). -/
@[simp] theorem retest_frame :
    (retest s).ms = s.ms ∧ (retest s).modeRec = s.modeRec ∧ (retest s).ride = s.ride ∧
    (retest s).zone = s.zone ∧ (retest s).windTable = s.windTable ∧ (retest s).pollParams = s.pollParams ∧
    (retest s).pollEntries = s.pollEntries ∧ (retest s).passList = s.passList ∧
    (retest s).profiles = s.profiles ∧ (retest s).req = s.req ∧ (retest s).expiries = s.expiries ∧
    (retest s).out = s.out ∧ (retest s).fb = s.fb ∧ (retest s).still = s.still ∧
    (retest s).tracker = s.tracker ∧ (retest s).cabins = s.cabins ∧
    (retest s).alightStation = s.alightStation ∧ (retest s).boardStation = s.boardStation ∧
    (retest s).poller = s.poller ∧ (retest s).results = s.results ∧ (retest s).masts = s.masts ∧
    (retest s).wind = s.wind ∧ (retest s).trace = s.trace ∧ (retest s).snaps = s.snaps ∧
    (retest s).run = s.run ∧ (retest s).rx = s.rx ∧ (retest s).consoleQueue = s.consoleQueue ∧
    (retest s).driveQueue = s.driveQueue ∧ (retest s).requests = s.requests ∧
    (retest s).waitTag = s.waitTag ∧ (retest s).latched = s.latched ∧ (retest s).timers = s.timers ∧
    (retest s).freeCount = s.freeCount ∧ (retest s).pending = s.pending := by
  simp [retest]

/-- A step's beginning, 1 and 2 (R142). -/
@[simp] theorem startStep_frame :
    (startStep s).ms = s.ms ∧ (startStep s).modeRec = s.modeRec ∧ (startStep s).ride = s.ride ∧
    (startStep s).zone = s.zone ∧ (startStep s).windTable = s.windTable ∧
    (startStep s).pollParams = s.pollParams ∧ (startStep s).pollEntries = s.pollEntries ∧
    (startStep s).passList = s.passList ∧ (startStep s).profiles = s.profiles ∧ (startStep s).req = s.req ∧
    (startStep s).expiries = s.expiries ∧ (startStep s).out = s.out ∧ (startStep s).fb = s.fb ∧
    (startStep s).still = s.still ∧ (startStep s).tracker = s.tracker ∧ (startStep s).cabins = s.cabins ∧
    (startStep s).alightStation = s.alightStation ∧ (startStep s).boardStation = s.boardStation ∧
    (startStep s).poller = s.poller ∧ (startStep s).results = s.results ∧ (startStep s).masts = s.masts ∧
    (startStep s).wind = s.wind ∧ (startStep s).trace = s.trace ∧ (startStep s).holds = s.holds ∧
    (startStep s).causes = s.causes ∧ (startStep s).snaps = s.snaps ∧ (startStep s).rx = s.rx ∧
    (startStep s).consoleQueue = s.consoleQueue ∧ (startStep s).driveQueue = s.driveQueue ∧
    (startStep s).requests = s.requests ∧ (startStep s).waitTag = s.waitTag ∧
    (startStep s).latched = s.latched ∧ (startStep s).timers = s.timers ∧
    (startStep s).freeCount = s.freeCount ∧ (startStep s).pending = s.pending := by
  simp [startStep]

/-- A step begins (R142). -/
@[simp] theorem beginStep_frame (n : Nat) :
    (beginStep n s).ms = s.ms ∧ (beginStep n s).modeRec = s.modeRec ∧ (beginStep n s).ride = s.ride ∧
    (beginStep n s).zone = s.zone ∧ (beginStep n s).windTable = s.windTable ∧
    (beginStep n s).pollParams = s.pollParams ∧ (beginStep n s).pollEntries = s.pollEntries ∧
    (beginStep n s).passList = s.passList ∧ (beginStep n s).profiles = s.profiles ∧
    (beginStep n s).expiries = s.expiries ∧ (beginStep n s).out = s.out ∧ (beginStep n s).fb = s.fb ∧
    (beginStep n s).still = s.still ∧ (beginStep n s).tracker = s.tracker ∧
    (beginStep n s).cabins = s.cabins ∧ (beginStep n s).alightStation = s.alightStation ∧
    (beginStep n s).boardStation = s.boardStation ∧ (beginStep n s).poller = s.poller ∧
    (beginStep n s).results = s.results ∧ (beginStep n s).masts = s.masts ∧ (beginStep n s).wind = s.wind ∧
    (beginStep n s).trace = s.trace ∧ (beginStep n s).holds = s.holds ∧ (beginStep n s).causes = s.causes ∧
    (beginStep n s).snaps = s.snaps ∧ (beginStep n s).rx = s.rx ∧
    (beginStep n s).driveQueue = s.driveQueue ∧ (beginStep n s).requests = s.requests ∧
    (beginStep n s).latched = s.latched ∧ (beginStep n s).timers = s.timers ∧
    (beginStep n s).freeCount = s.freeCount ∧ (beginStep n s).pending = s.pending := by
  induction n generalizing s with
  | zero => simp [beginStep]
  | succ n ih =>
    unfold beginStep
    repeat' split
    all_goals first
      | simp
      | (rename_i h; unfold nextStep at h; repeat' split at h
         all_goals first
           | (cases h; simp [ih])
           | cases h)

/-- A step met (R148). -/
@[simp] theorem stepMet_frame :
    (stepMet s).ms = s.ms ∧ (stepMet s).modeRec = s.modeRec ∧ (stepMet s).ride = s.ride ∧
    (stepMet s).zone = s.zone ∧ (stepMet s).windTable = s.windTable ∧
    (stepMet s).pollParams = s.pollParams ∧ (stepMet s).pollEntries = s.pollEntries ∧
    (stepMet s).passList = s.passList ∧ (stepMet s).profiles = s.profiles ∧
    (stepMet s).expiries = s.expiries ∧ (stepMet s).out = s.out ∧ (stepMet s).fb = s.fb ∧
    (stepMet s).still = s.still ∧ (stepMet s).tracker = s.tracker ∧ (stepMet s).cabins = s.cabins ∧
    (stepMet s).alightStation = s.alightStation ∧ (stepMet s).boardStation = s.boardStation ∧
    (stepMet s).poller = s.poller ∧ (stepMet s).results = s.results ∧ (stepMet s).masts = s.masts ∧
    (stepMet s).wind = s.wind ∧ (stepMet s).trace = s.trace ∧ (stepMet s).holds = s.holds ∧
    (stepMet s).causes = s.causes ∧ (stepMet s).snaps = s.snaps ∧ (stepMet s).rx = s.rx ∧
    (stepMet s).driveQueue = s.driveQueue ∧ (stepMet s).requests = s.requests ∧
    (stepMet s).latched = s.latched ∧ (stepMet s).timers = s.timers ∧ (stepMet s).freeCount = s.freeCount ∧
    (stepMet s).pending = s.pending := by
  unfold stepMet nextStep
  repeat' split
  all_goals first
    | (simp; done)
    | (rename_i h; repeat' split at h
       all_goals first
         | (cases h; simp)
         | cases h)

/-- A cabin change reported to the profile unit (R146). -/
@[simp] theorem cabinChanged_frame :
    (cabinChanged s).ms = s.ms ∧ (cabinChanged s).modeRec = s.modeRec ∧ (cabinChanged s).ride = s.ride ∧
    (cabinChanged s).zone = s.zone ∧ (cabinChanged s).windTable = s.windTable ∧
    (cabinChanged s).pollParams = s.pollParams ∧ (cabinChanged s).pollEntries = s.pollEntries ∧
    (cabinChanged s).passList = s.passList ∧ (cabinChanged s).profiles = s.profiles ∧
    (cabinChanged s).expiries = s.expiries ∧ (cabinChanged s).out = s.out ∧ (cabinChanged s).fb = s.fb ∧
    (cabinChanged s).still = s.still ∧ (cabinChanged s).tracker = s.tracker ∧
    (cabinChanged s).cabins = s.cabins ∧ (cabinChanged s).alightStation = s.alightStation ∧
    (cabinChanged s).boardStation = s.boardStation ∧ (cabinChanged s).poller = s.poller ∧
    (cabinChanged s).results = s.results ∧ (cabinChanged s).masts = s.masts ∧
    (cabinChanged s).wind = s.wind ∧ (cabinChanged s).trace = s.trace ∧ (cabinChanged s).holds = s.holds ∧
    (cabinChanged s).causes = s.causes ∧ (cabinChanged s).snaps = s.snaps ∧ (cabinChanged s).rx = s.rx ∧
    (cabinChanged s).driveQueue = s.driveQueue ∧ (cabinChanged s).requests = s.requests ∧
    (cabinChanged s).latched = s.latched ∧ (cabinChanged s).timers = s.timers ∧
    (cabinChanged s).freeCount = s.freeCount ∧ (cabinChanged s).pending = s.pending := by
  unfold cabinChanged; split <;> simp

/-- A take-out reported to the profile unit (R146). -/
@[simp] theorem cabinTakenOut_frame (k : Nat) :
    (cabinTakenOut k s).ms = s.ms ∧ (cabinTakenOut k s).modeRec = s.modeRec ∧
    (cabinTakenOut k s).ride = s.ride ∧ (cabinTakenOut k s).zone = s.zone ∧
    (cabinTakenOut k s).windTable = s.windTable ∧ (cabinTakenOut k s).pollParams = s.pollParams ∧
    (cabinTakenOut k s).pollEntries = s.pollEntries ∧ (cabinTakenOut k s).passList = s.passList ∧
    (cabinTakenOut k s).profiles = s.profiles ∧ (cabinTakenOut k s).expiries = s.expiries ∧
    (cabinTakenOut k s).out = s.out ∧ (cabinTakenOut k s).fb = s.fb ∧ (cabinTakenOut k s).still = s.still ∧
    (cabinTakenOut k s).tracker = s.tracker ∧ (cabinTakenOut k s).cabins = s.cabins ∧
    (cabinTakenOut k s).alightStation = s.alightStation ∧
    (cabinTakenOut k s).boardStation = s.boardStation ∧ (cabinTakenOut k s).poller = s.poller ∧
    (cabinTakenOut k s).results = s.results ∧ (cabinTakenOut k s).masts = s.masts ∧
    (cabinTakenOut k s).wind = s.wind ∧ (cabinTakenOut k s).trace = s.trace ∧
    (cabinTakenOut k s).holds = s.holds ∧ (cabinTakenOut k s).causes = s.causes ∧
    (cabinTakenOut k s).snaps = s.snaps ∧ (cabinTakenOut k s).rx = s.rx ∧
    (cabinTakenOut k s).driveQueue = s.driveQueue ∧ (cabinTakenOut k s).requests = s.requests ∧
    (cabinTakenOut k s).latched = s.latched ∧ (cabinTakenOut k s).timers = s.timers ∧
    (cabinTakenOut k s).freeCount = s.freeCount ∧ (cabinTakenOut k s).pending = s.pending := by
  unfold cabinTakenOut; split <;> simp

/-- The profile unit's turn at a FEEDBACK (R144). -/
@[simp] theorem profileFeedback_frame (d v : Int) (x : List (Nat × Point)) :
    (profileFeedback d v x s).ms = s.ms ∧ (profileFeedback d v x s).modeRec = s.modeRec ∧
    (profileFeedback d v x s).ride = s.ride ∧ (profileFeedback d v x s).zone = s.zone ∧
    (profileFeedback d v x s).windTable = s.windTable ∧
    (profileFeedback d v x s).pollParams = s.pollParams ∧
    (profileFeedback d v x s).pollEntries = s.pollEntries ∧
    (profileFeedback d v x s).passList = s.passList ∧ (profileFeedback d v x s).profiles = s.profiles ∧
    (profileFeedback d v x s).expiries = s.expiries ∧ (profileFeedback d v x s).out = s.out ∧
    (profileFeedback d v x s).fb = s.fb ∧ (profileFeedback d v x s).still = s.still ∧
    (profileFeedback d v x s).tracker = s.tracker ∧ (profileFeedback d v x s).cabins = s.cabins ∧
    (profileFeedback d v x s).alightStation = s.alightStation ∧
    (profileFeedback d v x s).boardStation = s.boardStation ∧ (profileFeedback d v x s).poller = s.poller ∧
    (profileFeedback d v x s).results = s.results ∧ (profileFeedback d v x s).masts = s.masts ∧
    (profileFeedback d v x s).wind = s.wind ∧ (profileFeedback d v x s).trace = s.trace ∧
    (profileFeedback d v x s).holds = s.holds ∧ (profileFeedback d v x s).causes = s.causes ∧
    (profileFeedback d v x s).snaps = s.snaps ∧ (profileFeedback d v x s).rx = s.rx ∧
    (profileFeedback d v x s).driveQueue = s.driveQueue ∧ (profileFeedback d v x s).requests = s.requests ∧
    (profileFeedback d v x s).latched = s.latched ∧ (profileFeedback d v x s).timers = s.timers ∧
    (profileFeedback d v x s).freeCount = s.freeCount ∧ (profileFeedback d v x s).pending = s.pending := by
  unfold profileFeedback; simp only []; split <;> simp

/-- The profile unit's turn at a cycle end (R147). -/
@[simp] theorem profileCycleEnd_frame :
    (profileCycleEnd s).ms = s.ms ∧ (profileCycleEnd s).modeRec = s.modeRec ∧
    (profileCycleEnd s).ride = s.ride ∧ (profileCycleEnd s).zone = s.zone ∧
    (profileCycleEnd s).windTable = s.windTable ∧ (profileCycleEnd s).pollParams = s.pollParams ∧
    (profileCycleEnd s).pollEntries = s.pollEntries ∧ (profileCycleEnd s).passList = s.passList ∧
    (profileCycleEnd s).profiles = s.profiles ∧ (profileCycleEnd s).expiries = s.expiries ∧
    (profileCycleEnd s).out = s.out ∧ (profileCycleEnd s).fb = s.fb ∧ (profileCycleEnd s).still = s.still ∧
    (profileCycleEnd s).tracker = s.tracker ∧ (profileCycleEnd s).cabins = s.cabins ∧
    (profileCycleEnd s).alightStation = s.alightStation ∧
    (profileCycleEnd s).boardStation = s.boardStation ∧ (profileCycleEnd s).poller = s.poller ∧
    (profileCycleEnd s).results = s.results ∧ (profileCycleEnd s).masts = s.masts ∧
    (profileCycleEnd s).wind = s.wind ∧ (profileCycleEnd s).trace = s.trace ∧
    (profileCycleEnd s).holds = s.holds ∧ (profileCycleEnd s).causes = s.causes ∧
    (profileCycleEnd s).snaps = s.snaps ∧ (profileCycleEnd s).rx = s.rx ∧
    (profileCycleEnd s).driveQueue = s.driveQueue ∧ (profileCycleEnd s).requests = s.requests ∧
    (profileCycleEnd s).latched = s.latched ∧ (profileCycleEnd s).timers = s.timers ∧
    (profileCycleEnd s).freeCount = s.freeCount ∧ (profileCycleEnd s).pending = s.pending := by
  unfold profileCycleEnd; split <;> simp

/-- A cabin record changed. -/
@[simp] theorem modifyCabin_frame (k : Nat) (f : Cabin → Cabin) :
    (modifyCabin k f s).ms = s.ms ∧ (modifyCabin k f s).modeRec = s.modeRec ∧
    (modifyCabin k f s).ride = s.ride ∧ (modifyCabin k f s).zone = s.zone ∧
    (modifyCabin k f s).windTable = s.windTable ∧ (modifyCabin k f s).pollParams = s.pollParams ∧
    (modifyCabin k f s).pollEntries = s.pollEntries ∧ (modifyCabin k f s).passList = s.passList ∧
    (modifyCabin k f s).profiles = s.profiles ∧ (modifyCabin k f s).req = s.req ∧
    (modifyCabin k f s).expiries = s.expiries ∧ (modifyCabin k f s).out = s.out ∧
    (modifyCabin k f s).fb = s.fb ∧ (modifyCabin k f s).still = s.still ∧
    (modifyCabin k f s).tracker = s.tracker ∧ (modifyCabin k f s).alightStation = s.alightStation ∧
    (modifyCabin k f s).boardStation = s.boardStation ∧ (modifyCabin k f s).poller = s.poller ∧
    (modifyCabin k f s).results = s.results ∧ (modifyCabin k f s).masts = s.masts ∧
    (modifyCabin k f s).wind = s.wind ∧ (modifyCabin k f s).trace = s.trace ∧
    (modifyCabin k f s).holds = s.holds ∧ (modifyCabin k f s).causes = s.causes ∧
    (modifyCabin k f s).snaps = s.snaps ∧ (modifyCabin k f s).run = s.run ∧ (modifyCabin k f s).rx = s.rx ∧
    (modifyCabin k f s).consoleQueue = s.consoleQueue ∧ (modifyCabin k f s).driveQueue = s.driveQueue ∧
    (modifyCabin k f s).requests = s.requests ∧ (modifyCabin k f s).waitTag = s.waitTag ∧
    (modifyCabin k f s).latched = s.latched ∧ (modifyCabin k f s).timers = s.timers ∧
    (modifyCabin k f s).freeCount = s.freeCount ∧ (modifyCabin k f s).pending = s.pending := by
  simp [modifyCabin]

/-- The conversion (R54). -/
@[simp] theorem convert_frame :
    (convert s).ms = s.ms ∧ (convert s).modeRec = s.modeRec ∧ (convert s).ride = s.ride ∧
    (convert s).zone = s.zone ∧ (convert s).windTable = s.windTable ∧
    (convert s).pollParams = s.pollParams ∧ (convert s).pollEntries = s.pollEntries ∧
    (convert s).passList = s.passList ∧ (convert s).profiles = s.profiles ∧
    (convert s).expiries = s.expiries ∧ (convert s).out = s.out ∧ (convert s).fb = s.fb ∧
    (convert s).still = s.still ∧ (convert s).tracker = s.tracker ∧
    (convert s).alightStation = s.alightStation ∧ (convert s).boardStation = s.boardStation ∧
    (convert s).poller = s.poller ∧ (convert s).results = s.results ∧ (convert s).masts = s.masts ∧
    (convert s).wind = s.wind ∧ (convert s).trace = s.trace ∧ (convert s).holds = s.holds ∧
    (convert s).causes = s.causes ∧ (convert s).snaps = s.snaps ∧ (convert s).rx = s.rx ∧
    (convert s).driveQueue = s.driveQueue ∧ (convert s).requests = s.requests ∧
    (convert s).latched = s.latched ∧ (convert s).timers = s.timers ∧ (convert s).freeCount = s.freeCount ∧
    (convert s).pending = s.pending := by
  unfold convert; simp only []; split <;> simp

/-- A station record written (R66). -/
@[simp] theorem writeStation_frame (p : Station) (r : StationRecord) :
    (writeStation p r s).ms = s.ms ∧ (writeStation p r s).modeRec = s.modeRec ∧
    (writeStation p r s).ride = s.ride ∧ (writeStation p r s).zone = s.zone ∧
    (writeStation p r s).windTable = s.windTable ∧ (writeStation p r s).pollParams = s.pollParams ∧
    (writeStation p r s).pollEntries = s.pollEntries ∧ (writeStation p r s).passList = s.passList ∧
    (writeStation p r s).profiles = s.profiles ∧ (writeStation p r s).req = s.req ∧
    (writeStation p r s).expiries = s.expiries ∧ (writeStation p r s).out = s.out ∧
    (writeStation p r s).fb = s.fb ∧ (writeStation p r s).still = s.still ∧
    (writeStation p r s).tracker = s.tracker ∧ (writeStation p r s).cabins = s.cabins ∧
    (writeStation p r s).poller = s.poller ∧ (writeStation p r s).results = s.results ∧
    (writeStation p r s).masts = s.masts ∧ (writeStation p r s).wind = s.wind ∧
    (writeStation p r s).trace = s.trace ∧ (writeStation p r s).holds = s.holds ∧
    (writeStation p r s).causes = s.causes ∧ (writeStation p r s).snaps = s.snaps ∧
    (writeStation p r s).run = s.run ∧ (writeStation p r s).rx = s.rx ∧
    (writeStation p r s).consoleQueue = s.consoleQueue ∧ (writeStation p r s).driveQueue = s.driveQueue ∧
    (writeStation p r s).requests = s.requests ∧ (writeStation p r s).waitTag = s.waitTag ∧
    (writeStation p r s).latched = s.latched ∧ (writeStation p r s).timers = s.timers ∧
    (writeStation p r s).freeCount = s.freeCount ∧ (writeStation p r s).pending = s.pending := by
  cases p <;> simp [writeStation]

/-- A DOOR cause (R116). -/
@[simp] theorem doorCause_frame (c k : Nat) :
    (doorCause c k s).ms = s.ms ∧ (doorCause c k s).modeRec = s.modeRec ∧ (doorCause c k s).ride = s.ride ∧
    (doorCause c k s).zone = s.zone ∧ (doorCause c k s).windTable = s.windTable ∧
    (doorCause c k s).pollParams = s.pollParams ∧ (doorCause c k s).pollEntries = s.pollEntries ∧
    (doorCause c k s).passList = s.passList ∧ (doorCause c k s).profiles = s.profiles ∧
    (doorCause c k s).expiries = s.expiries ∧ (doorCause c k s).out = s.out ∧ (doorCause c k s).fb = s.fb ∧
    (doorCause c k s).still = s.still ∧ (doorCause c k s).tracker = s.tracker ∧
    (doorCause c k s).alightStation = s.alightStation ∧ (doorCause c k s).boardStation = s.boardStation ∧
    (doorCause c k s).poller = s.poller ∧ (doorCause c k s).results = s.results ∧
    (doorCause c k s).masts = s.masts ∧ (doorCause c k s).wind = s.wind ∧
    (doorCause c k s).trace = s.trace ∧ (doorCause c k s).causes = s.causes ∧ (doorCause c k s).rx = s.rx ∧
    (doorCause c k s).driveQueue = s.driveQueue ∧ (doorCause c k s).requests = s.requests ∧
    (doorCause c k s).timers = s.timers ∧ (doorCause c k s).freeCount = s.freeCount ∧
    (doorCause c k s).pending = s.pending := by
  simp [doorCause]

/-- A PLATFORM cause (R116). -/
@[simp] theorem platformCause_frame (c : Nat) (p : Station) :
    (platformCause c p s).ms = s.ms ∧ (platformCause c p s).modeRec = s.modeRec ∧
    (platformCause c p s).ride = s.ride ∧ (platformCause c p s).zone = s.zone ∧
    (platformCause c p s).windTable = s.windTable ∧ (platformCause c p s).pollParams = s.pollParams ∧
    (platformCause c p s).pollEntries = s.pollEntries ∧ (platformCause c p s).passList = s.passList ∧
    (platformCause c p s).profiles = s.profiles ∧ (platformCause c p s).expiries = s.expiries ∧
    (platformCause c p s).out = s.out ∧ (platformCause c p s).fb = s.fb ∧
    (platformCause c p s).still = s.still ∧ (platformCause c p s).tracker = s.tracker ∧
    (platformCause c p s).alightStation = s.alightStation ∧
    (platformCause c p s).boardStation = s.boardStation ∧ (platformCause c p s).poller = s.poller ∧
    (platformCause c p s).results = s.results ∧ (platformCause c p s).masts = s.masts ∧
    (platformCause c p s).wind = s.wind ∧ (platformCause c p s).trace = s.trace ∧
    (platformCause c p s).causes = s.causes ∧ (platformCause c p s).rx = s.rx ∧
    (platformCause c p s).driveQueue = s.driveQueue ∧ (platformCause c p s).requests = s.requests ∧
    (platformCause c p s).timers = s.timers ∧ (platformCause c p s).freeCount = s.freeCount ∧
    (platformCause c p s).pending = s.pending := by
  simp [platformCause]

/-- A station gone STALE (R72). -/
@[simp] theorem stationStale_frame (p : Station) :
    (stationStale p s).ms = s.ms ∧ (stationStale p s).modeRec = s.modeRec ∧
    (stationStale p s).ride = s.ride ∧ (stationStale p s).zone = s.zone ∧
    (stationStale p s).windTable = s.windTable ∧ (stationStale p s).pollParams = s.pollParams ∧
    (stationStale p s).pollEntries = s.pollEntries ∧ (stationStale p s).passList = s.passList ∧
    (stationStale p s).profiles = s.profiles ∧ (stationStale p s).expiries = s.expiries ∧
    (stationStale p s).out = s.out ∧ (stationStale p s).fb = s.fb ∧ (stationStale p s).still = s.still ∧
    (stationStale p s).tracker = s.tracker ∧ (stationStale p s).alightStation = s.alightStation ∧
    (stationStale p s).boardStation = s.boardStation ∧ (stationStale p s).poller = s.poller ∧
    (stationStale p s).results = s.results ∧ (stationStale p s).masts = s.masts ∧
    (stationStale p s).wind = s.wind ∧ (stationStale p s).trace = s.trace ∧
    (stationStale p s).causes = s.causes ∧ (stationStale p s).rx = s.rx ∧
    (stationStale p s).driveQueue = s.driveQueue ∧ (stationStale p s).requests = s.requests ∧
    (stationStale p s).timers = s.timers ∧ (stationStale p s).freeCount = s.freeCount ∧
    (stationStale p s).pending = s.pending := by
  unfold stationStale; split <;> simp

/-- A station's freshness reported (R72, R88). -/
@[simp] theorem stationFreshness_frame (p : Station) (f : Freshness) :
    (stationFreshness p f s).ms = s.ms ∧ (stationFreshness p f s).modeRec = s.modeRec ∧
    (stationFreshness p f s).ride = s.ride ∧ (stationFreshness p f s).zone = s.zone ∧
    (stationFreshness p f s).windTable = s.windTable ∧ (stationFreshness p f s).pollParams = s.pollParams ∧
    (stationFreshness p f s).pollEntries = s.pollEntries ∧ (stationFreshness p f s).passList = s.passList ∧
    (stationFreshness p f s).profiles = s.profiles ∧ (stationFreshness p f s).expiries = s.expiries ∧
    (stationFreshness p f s).out = s.out ∧ (stationFreshness p f s).fb = s.fb ∧
    (stationFreshness p f s).still = s.still ∧ (stationFreshness p f s).tracker = s.tracker ∧
    (stationFreshness p f s).poller = s.poller ∧ (stationFreshness p f s).results = s.results ∧
    (stationFreshness p f s).masts = s.masts ∧ (stationFreshness p f s).wind = s.wind ∧
    (stationFreshness p f s).trace = s.trace ∧ (stationFreshness p f s).rx = s.rx ∧
    (stationFreshness p f s).driveQueue = s.driveQueue ∧ (stationFreshness p f s).requests = s.requests ∧
    (stationFreshness p f s).timers = s.timers ∧ (stationFreshness p f s).freeCount = s.freeCount ∧
    (stationFreshness p f s).pending = s.pending := by
  unfold stationFreshness; simp only []; repeat' split
  all_goals simp

/-- A valid answer applied (R69, R70). -/
@[simp] theorem applyAnswer_frame (a : StationAnswer) (c : Nat) :
    (applyAnswer a c s).ms = s.ms ∧ (applyAnswer a c s).modeRec = s.modeRec ∧
    (applyAnswer a c s).ride = s.ride ∧ (applyAnswer a c s).zone = s.zone ∧
    (applyAnswer a c s).windTable = s.windTable ∧ (applyAnswer a c s).pollParams = s.pollParams ∧
    (applyAnswer a c s).pollEntries = s.pollEntries ∧ (applyAnswer a c s).passList = s.passList ∧
    (applyAnswer a c s).profiles = s.profiles ∧ (applyAnswer a c s).expiries = s.expiries ∧
    (applyAnswer a c s).out = s.out ∧ (applyAnswer a c s).fb = s.fb ∧ (applyAnswer a c s).still = s.still ∧
    (applyAnswer a c s).tracker = s.tracker ∧ (applyAnswer a c s).alightStation = s.alightStation ∧
    (applyAnswer a c s).boardStation = s.boardStation ∧ (applyAnswer a c s).poller = s.poller ∧
    (applyAnswer a c s).results = s.results ∧ (applyAnswer a c s).masts = s.masts ∧
    (applyAnswer a c s).wind = s.wind ∧ (applyAnswer a c s).trace = s.trace ∧
    (applyAnswer a c s).causes = s.causes ∧ (applyAnswer a c s).rx = s.rx ∧
    (applyAnswer a c s).driveQueue = s.driveQueue ∧ (applyAnswer a c s).requests = s.requests ∧
    (applyAnswer a c s).timers = s.timers ∧ (applyAnswer a c s).freeCount = s.freeCount ∧
    (applyAnswer a c s).pending = s.pending := by
  unfold applyAnswer; simp only []; split <;> simp

/-- A stop button taken (R71). -/
@[simp] theorem takeButton_frame (p : Station) (b : Bool) :
    (takeButton p b s).ms = s.ms ∧ (takeButton p b s).modeRec = s.modeRec ∧
    (takeButton p b s).ride = s.ride ∧ (takeButton p b s).zone = s.zone ∧
    (takeButton p b s).windTable = s.windTable ∧ (takeButton p b s).pollParams = s.pollParams ∧
    (takeButton p b s).pollEntries = s.pollEntries ∧ (takeButton p b s).passList = s.passList ∧
    (takeButton p b s).profiles = s.profiles ∧ (takeButton p b s).expiries = s.expiries ∧
    (takeButton p b s).out = s.out ∧ (takeButton p b s).fb = s.fb ∧ (takeButton p b s).still = s.still ∧
    (takeButton p b s).tracker = s.tracker ∧ (takeButton p b s).poller = s.poller ∧
    (takeButton p b s).results = s.results ∧ (takeButton p b s).masts = s.masts ∧
    (takeButton p b s).wind = s.wind ∧ (takeButton p b s).trace = s.trace ∧
    (takeButton p b s).causes = s.causes ∧ (takeButton p b s).rx = s.rx ∧
    (takeButton p b s).driveQueue = s.driveQueue ∧ (takeButton p b s).requests = s.requests ∧
    (takeButton p b s).timers = s.timers ∧ (takeButton p b s).freeCount = s.freeCount ∧
    (takeButton p b s).pending = s.pending := by
  unfold takeButton; simp only []; split <;> simp

/-- A platform answer taken (R69 to R71). -/
@[simp] theorem takeStationAnswer_frame (p : Station) (a : StationAnswer) :
    (takeStationAnswer p a s).ms = s.ms ∧ (takeStationAnswer p a s).modeRec = s.modeRec ∧
    (takeStationAnswer p a s).ride = s.ride ∧ (takeStationAnswer p a s).zone = s.zone ∧
    (takeStationAnswer p a s).windTable = s.windTable ∧
    (takeStationAnswer p a s).pollParams = s.pollParams ∧
    (takeStationAnswer p a s).pollEntries = s.pollEntries ∧
    (takeStationAnswer p a s).passList = s.passList ∧ (takeStationAnswer p a s).profiles = s.profiles ∧
    (takeStationAnswer p a s).expiries = s.expiries ∧ (takeStationAnswer p a s).out = s.out ∧
    (takeStationAnswer p a s).fb = s.fb ∧ (takeStationAnswer p a s).still = s.still ∧
    (takeStationAnswer p a s).tracker = s.tracker ∧ (takeStationAnswer p a s).poller = s.poller ∧
    (takeStationAnswer p a s).results = s.results ∧ (takeStationAnswer p a s).masts = s.masts ∧
    (takeStationAnswer p a s).wind = s.wind ∧ (takeStationAnswer p a s).trace = s.trace ∧
    (takeStationAnswer p a s).rx = s.rx ∧ (takeStationAnswer p a s).driveQueue = s.driveQueue ∧
    (takeStationAnswer p a s).requests = s.requests ∧ (takeStationAnswer p a s).timers = s.timers ∧
    (takeStationAnswer p a s).freeCount = s.freeCount ∧ (takeStationAnswer p a s).pending = s.pending := by
  unfold takeStationAnswer; simp only []; split <;> simp

/-- The tracker state reported (R45, R46). -/
@[simp] theorem reportTracker_frame :
    (reportTracker s).ms = s.ms ∧ (reportTracker s).modeRec = s.modeRec ∧ (reportTracker s).ride = s.ride ∧
    (reportTracker s).zone = s.zone ∧ (reportTracker s).windTable = s.windTable ∧
    (reportTracker s).pollParams = s.pollParams ∧ (reportTracker s).pollEntries = s.pollEntries ∧
    (reportTracker s).passList = s.passList ∧ (reportTracker s).profiles = s.profiles ∧
    (reportTracker s).expiries = s.expiries ∧ (reportTracker s).out = s.out ∧ (reportTracker s).fb = s.fb ∧
    (reportTracker s).still = s.still ∧ (reportTracker s).tracker = s.tracker ∧
    (reportTracker s).alightStation = s.alightStation ∧ (reportTracker s).boardStation = s.boardStation ∧
    (reportTracker s).poller = s.poller ∧ (reportTracker s).results = s.results ∧
    (reportTracker s).masts = s.masts ∧ (reportTracker s).wind = s.wind ∧
    (reportTracker s).trace = s.trace ∧ (reportTracker s).causes = s.causes ∧ (reportTracker s).rx = s.rx ∧
    (reportTracker s).driveQueue = s.driveQueue ∧ (reportTracker s).requests = s.requests ∧
    (reportTracker s).timers = s.timers ∧ (reportTracker s).freeCount = s.freeCount ∧
    (reportTracker s).pending = s.pending := by
  unfold reportTracker; split <;> simp

/-- A tracker record set and reported. -/
@[simp] theorem setTracker_frame (t : Tracker) :
    (setTracker t s).ms = s.ms ∧ (setTracker t s).modeRec = s.modeRec ∧ (setTracker t s).ride = s.ride ∧
    (setTracker t s).zone = s.zone ∧ (setTracker t s).windTable = s.windTable ∧
    (setTracker t s).pollParams = s.pollParams ∧ (setTracker t s).pollEntries = s.pollEntries ∧
    (setTracker t s).passList = s.passList ∧ (setTracker t s).profiles = s.profiles ∧
    (setTracker t s).expiries = s.expiries ∧ (setTracker t s).out = s.out ∧ (setTracker t s).fb = s.fb ∧
    (setTracker t s).still = s.still ∧ (setTracker t s).alightStation = s.alightStation ∧
    (setTracker t s).boardStation = s.boardStation ∧ (setTracker t s).poller = s.poller ∧
    (setTracker t s).results = s.results ∧ (setTracker t s).masts = s.masts ∧
    (setTracker t s).wind = s.wind ∧ (setTracker t s).trace = s.trace ∧
    (setTracker t s).causes = s.causes ∧ (setTracker t s).rx = s.rx ∧
    (setTracker t s).driveQueue = s.driveQueue ∧ (setTracker t s).requests = s.requests ∧
    (setTracker t s).timers = s.timers ∧ (setTracker t s).freeCount = s.freeCount ∧
    (setTracker t s).pending = s.pending := by
  unfold setTracker; split <;> simp

/-- The tracker's turn at a FEEDBACK (R29). -/
@[simp] theorem trackFeedback_frame (b : Bool) (f : FeedbackFields) :
    (trackFeedback b f s).ms = s.ms ∧ (trackFeedback b f s).modeRec = s.modeRec ∧
    (trackFeedback b f s).ride = s.ride ∧ (trackFeedback b f s).zone = s.zone ∧
    (trackFeedback b f s).windTable = s.windTable ∧ (trackFeedback b f s).pollParams = s.pollParams ∧
    (trackFeedback b f s).pollEntries = s.pollEntries ∧ (trackFeedback b f s).passList = s.passList ∧
    (trackFeedback b f s).profiles = s.profiles ∧ (trackFeedback b f s).expiries = s.expiries ∧
    (trackFeedback b f s).out = s.out ∧ (trackFeedback b f s).fb = s.fb ∧
    (trackFeedback b f s).still = s.still ∧ (trackFeedback b f s).alightStation = s.alightStation ∧
    (trackFeedback b f s).boardStation = s.boardStation ∧ (trackFeedback b f s).poller = s.poller ∧
    (trackFeedback b f s).results = s.results ∧ (trackFeedback b f s).masts = s.masts ∧
    (trackFeedback b f s).wind = s.wind ∧ (trackFeedback b f s).trace = s.trace ∧
    (trackFeedback b f s).causes = s.causes ∧ (trackFeedback b f s).rx = s.rx ∧
    (trackFeedback b f s).driveQueue = s.driveQueue ∧ (trackFeedback b f s).requests = s.requests ∧
    (trackFeedback b f s).timers = s.timers ∧ (trackFeedback b f s).freeCount = s.freeCount ∧
    (trackFeedback b f s).pending = s.pending := by
  simp [trackFeedback]

/-- A read in SEARCHING (R39, R40). -/
@[simp] theorem searchRead_frame (j : Nat) :
    (searchRead j s).ms = s.ms ∧ (searchRead j s).modeRec = s.modeRec ∧ (searchRead j s).ride = s.ride ∧
    (searchRead j s).zone = s.zone ∧ (searchRead j s).windTable = s.windTable ∧
    (searchRead j s).pollParams = s.pollParams ∧ (searchRead j s).pollEntries = s.pollEntries ∧
    (searchRead j s).passList = s.passList ∧ (searchRead j s).profiles = s.profiles ∧
    (searchRead j s).expiries = s.expiries ∧ (searchRead j s).out = s.out ∧ (searchRead j s).fb = s.fb ∧
    (searchRead j s).still = s.still ∧ (searchRead j s).alightStation = s.alightStation ∧
    (searchRead j s).boardStation = s.boardStation ∧ (searchRead j s).poller = s.poller ∧
    (searchRead j s).results = s.results ∧ (searchRead j s).masts = s.masts ∧
    (searchRead j s).wind = s.wind ∧ (searchRead j s).trace = s.trace ∧
    (searchRead j s).causes = s.causes ∧ (searchRead j s).rx = s.rx ∧
    (searchRead j s).driveQueue = s.driveQueue ∧ (searchRead j s).requests = s.requests ∧
    (searchRead j s).timers = s.timers ∧ (searchRead j s).freeCount = s.freeCount ∧
    (searchRead j s).pending = s.pending := by
  unfold searchRead; split <;> simp

/-- A window outcome taken (R41, R42). -/
@[simp] theorem takeOutcome_frame (o : IdOutcome) :
    (takeOutcome o s).ms = s.ms ∧ (takeOutcome o s).modeRec = s.modeRec ∧ (takeOutcome o s).ride = s.ride ∧
    (takeOutcome o s).zone = s.zone ∧ (takeOutcome o s).windTable = s.windTable ∧
    (takeOutcome o s).pollParams = s.pollParams ∧ (takeOutcome o s).pollEntries = s.pollEntries ∧
    (takeOutcome o s).passList = s.passList ∧ (takeOutcome o s).profiles = s.profiles ∧
    (takeOutcome o s).expiries = s.expiries ∧ (takeOutcome o s).out = s.out ∧ (takeOutcome o s).fb = s.fb ∧
    (takeOutcome o s).still = s.still ∧ (takeOutcome o s).alightStation = s.alightStation ∧
    (takeOutcome o s).boardStation = s.boardStation ∧ (takeOutcome o s).poller = s.poller ∧
    (takeOutcome o s).results = s.results ∧ (takeOutcome o s).masts = s.masts ∧
    (takeOutcome o s).wind = s.wind ∧ (takeOutcome o s).trace = s.trace ∧
    (takeOutcome o s).causes = s.causes ∧ (takeOutcome o s).rx = s.rx ∧
    (takeOutcome o s).driveQueue = s.driveQueue ∧ (takeOutcome o s).requests = s.requests ∧
    (takeOutcome o s).timers = s.timers ∧ (takeOutcome o s).freeCount = s.freeCount ∧
    (takeOutcome o s).pending = s.pending := by
  unfold takeOutcome; repeat' split
  all_goals simp

/-- A window opened (R56). -/
@[simp] theorem openWindow_frame (k : Nat) :
    (openWindow k s).ms = s.ms ∧ (openWindow k s).modeRec = s.modeRec ∧ (openWindow k s).ride = s.ride ∧
    (openWindow k s).zone = s.zone ∧ (openWindow k s).windTable = s.windTable ∧
    (openWindow k s).pollParams = s.pollParams ∧ (openWindow k s).pollEntries = s.pollEntries ∧
    (openWindow k s).passList = s.passList ∧ (openWindow k s).profiles = s.profiles ∧
    (openWindow k s).req = s.req ∧ (openWindow k s).expiries = s.expiries ∧ (openWindow k s).out = s.out ∧
    (openWindow k s).fb = s.fb ∧ (openWindow k s).still = s.still ∧ (openWindow k s).tracker = s.tracker ∧
    (openWindow k s).alightStation = s.alightStation ∧ (openWindow k s).boardStation = s.boardStation ∧
    (openWindow k s).poller = s.poller ∧ (openWindow k s).results = s.results ∧
    (openWindow k s).masts = s.masts ∧ (openWindow k s).wind = s.wind ∧ (openWindow k s).trace = s.trace ∧
    (openWindow k s).holds = s.holds ∧ (openWindow k s).causes = s.causes ∧
    (openWindow k s).snaps = s.snaps ∧ (openWindow k s).run = s.run ∧ (openWindow k s).rx = s.rx ∧
    (openWindow k s).consoleQueue = s.consoleQueue ∧ (openWindow k s).driveQueue = s.driveQueue ∧
    (openWindow k s).requests = s.requests ∧ (openWindow k s).waitTag = s.waitTag ∧
    (openWindow k s).latched = s.latched ∧ (openWindow k s).timers = s.timers ∧
    (openWindow k s).freeCount = s.freeCount ∧ (openWindow k s).pending = s.pending := by
  unfold openWindow; split <;> simp

/-- A window closed (R58). -/
@[simp] theorem closeWindow_frame (k : Nat) :
    (closeWindow k s).ms = s.ms ∧ (closeWindow k s).modeRec = s.modeRec ∧ (closeWindow k s).ride = s.ride ∧
    (closeWindow k s).zone = s.zone ∧ (closeWindow k s).windTable = s.windTable ∧
    (closeWindow k s).pollParams = s.pollParams ∧ (closeWindow k s).pollEntries = s.pollEntries ∧
    (closeWindow k s).passList = s.passList ∧ (closeWindow k s).profiles = s.profiles ∧
    (closeWindow k s).expiries = s.expiries ∧ (closeWindow k s).out = s.out ∧ (closeWindow k s).fb = s.fb ∧
    (closeWindow k s).still = s.still ∧ (closeWindow k s).alightStation = s.alightStation ∧
    (closeWindow k s).boardStation = s.boardStation ∧ (closeWindow k s).poller = s.poller ∧
    (closeWindow k s).results = s.results ∧ (closeWindow k s).masts = s.masts ∧
    (closeWindow k s).wind = s.wind ∧ (closeWindow k s).trace = s.trace ∧
    (closeWindow k s).causes = s.causes ∧ (closeWindow k s).rx = s.rx ∧
    (closeWindow k s).driveQueue = s.driveQueue ∧ (closeWindow k s).requests = s.requests ∧
    (closeWindow k s).timers = s.timers ∧ (closeWindow k s).freeCount = s.freeCount ∧
    (closeWindow k s).pending = s.pending := by
  unfold closeWindow; simp only []; split <;> simp

/-- The crossing of a_start (R60). -/
@[simp] theorem crossAStart_frame (k : Nat) :
    (crossAStart k s).ms = s.ms ∧ (crossAStart k s).modeRec = s.modeRec ∧ (crossAStart k s).ride = s.ride ∧
    (crossAStart k s).zone = s.zone ∧ (crossAStart k s).windTable = s.windTable ∧
    (crossAStart k s).pollParams = s.pollParams ∧ (crossAStart k s).pollEntries = s.pollEntries ∧
    (crossAStart k s).passList = s.passList ∧ (crossAStart k s).profiles = s.profiles ∧
    (crossAStart k s).expiries = s.expiries ∧ (crossAStart k s).out = s.out ∧ (crossAStart k s).fb = s.fb ∧
    (crossAStart k s).still = s.still ∧ (crossAStart k s).tracker = s.tracker ∧
    (crossAStart k s).alightStation = s.alightStation ∧ (crossAStart k s).boardStation = s.boardStation ∧
    (crossAStart k s).poller = s.poller ∧ (crossAStart k s).results = s.results ∧
    (crossAStart k s).masts = s.masts ∧ (crossAStart k s).wind = s.wind ∧
    (crossAStart k s).trace = s.trace ∧ (crossAStart k s).holds = s.holds ∧
    (crossAStart k s).causes = s.causes ∧ (crossAStart k s).snaps = s.snaps ∧ (crossAStart k s).rx = s.rx ∧
    (crossAStart k s).driveQueue = s.driveQueue ∧ (crossAStart k s).requests = s.requests ∧
    (crossAStart k s).latched = s.latched ∧ (crossAStart k s).timers = s.timers ∧
    (crossAStart k s).freeCount = s.freeCount ∧ (crossAStart k s).pending = s.pending := by
  unfold crossAStart; split <;> simp

/-- The crossing of b_start (R61). -/
@[simp] theorem crossBStart_frame (k : Nat) :
    (crossBStart k s).ms = s.ms ∧ (crossBStart k s).modeRec = s.modeRec ∧ (crossBStart k s).ride = s.ride ∧
    (crossBStart k s).zone = s.zone ∧ (crossBStart k s).windTable = s.windTable ∧
    (crossBStart k s).pollParams = s.pollParams ∧ (crossBStart k s).pollEntries = s.pollEntries ∧
    (crossBStart k s).passList = s.passList ∧ (crossBStart k s).profiles = s.profiles ∧
    (crossBStart k s).expiries = s.expiries ∧ (crossBStart k s).out = s.out ∧ (crossBStart k s).fb = s.fb ∧
    (crossBStart k s).still = s.still ∧ (crossBStart k s).tracker = s.tracker ∧
    (crossBStart k s).alightStation = s.alightStation ∧ (crossBStart k s).boardStation = s.boardStation ∧
    (crossBStart k s).poller = s.poller ∧ (crossBStart k s).results = s.results ∧
    (crossBStart k s).masts = s.masts ∧ (crossBStart k s).wind = s.wind ∧
    (crossBStart k s).trace = s.trace ∧ (crossBStart k s).holds = s.holds ∧
    (crossBStart k s).causes = s.causes ∧ (crossBStart k s).snaps = s.snaps ∧ (crossBStart k s).rx = s.rx ∧
    (crossBStart k s).driveQueue = s.driveQueue ∧ (crossBStart k s).requests = s.requests ∧
    (crossBStart k s).timers = s.timers ∧ (crossBStart k s).freeCount = s.freeCount ∧
    (crossBStart k s).pending = s.pending := by
  unfold crossBStart; split <;> simp

/-- The crossing of the lock point (R63). -/
@[simp] theorem crossLock_frame (k : Nat) :
    (crossLock k s).ms = s.ms ∧ (crossLock k s).modeRec = s.modeRec ∧ (crossLock k s).ride = s.ride ∧
    (crossLock k s).zone = s.zone ∧ (crossLock k s).windTable = s.windTable ∧
    (crossLock k s).pollParams = s.pollParams ∧ (crossLock k s).pollEntries = s.pollEntries ∧
    (crossLock k s).passList = s.passList ∧ (crossLock k s).profiles = s.profiles ∧
    (crossLock k s).expiries = s.expiries ∧ (crossLock k s).out = s.out ∧ (crossLock k s).fb = s.fb ∧
    (crossLock k s).still = s.still ∧ (crossLock k s).tracker = s.tracker ∧
    (crossLock k s).alightStation = s.alightStation ∧ (crossLock k s).boardStation = s.boardStation ∧
    (crossLock k s).poller = s.poller ∧ (crossLock k s).results = s.results ∧
    (crossLock k s).masts = s.masts ∧ (crossLock k s).wind = s.wind ∧ (crossLock k s).trace = s.trace ∧
    (crossLock k s).causes = s.causes ∧ (crossLock k s).rx = s.rx ∧
    (crossLock k s).driveQueue = s.driveQueue ∧ (crossLock k s).requests = s.requests ∧
    (crossLock k s).timers = s.timers ∧ (crossLock k s).freeCount = s.freeCount ∧
    (crossLock k s).pending = s.pending := by
  unfold crossLock; split <;> simp

/-- The end of a pass (R64). -/
@[simp] theorem passEnd_frame (k : Nat) :
    (passEnd k s).ms = s.ms ∧ (passEnd k s).modeRec = s.modeRec ∧ (passEnd k s).ride = s.ride ∧
    (passEnd k s).zone = s.zone ∧ (passEnd k s).windTable = s.windTable ∧
    (passEnd k s).pollParams = s.pollParams ∧ (passEnd k s).pollEntries = s.pollEntries ∧
    (passEnd k s).passList = s.passList ∧ (passEnd k s).profiles = s.profiles ∧
    (passEnd k s).expiries = s.expiries ∧ (passEnd k s).out = s.out ∧ (passEnd k s).fb = s.fb ∧
    (passEnd k s).still = s.still ∧ (passEnd k s).tracker = s.tracker ∧
    (passEnd k s).alightStation = s.alightStation ∧ (passEnd k s).boardStation = s.boardStation ∧
    (passEnd k s).poller = s.poller ∧ (passEnd k s).results = s.results ∧ (passEnd k s).masts = s.masts ∧
    (passEnd k s).wind = s.wind ∧ (passEnd k s).trace = s.trace ∧ (passEnd k s).causes = s.causes ∧
    (passEnd k s).rx = s.rx ∧ (passEnd k s).driveQueue = s.driveQueue ∧
    (passEnd k s).requests = s.requests ∧ (passEnd k s).timers = s.timers ∧
    (passEnd k s).freeCount = s.freeCount ∧ (passEnd k s).pending = s.pending := by
  unfold passEnd; simp only []; split <;> simp

/-- The crossing of b_end (R59, R64). -/
@[simp] theorem crossBEnd_frame (k : Nat) :
    (crossBEnd k s).ms = s.ms ∧ (crossBEnd k s).modeRec = s.modeRec ∧ (crossBEnd k s).ride = s.ride ∧
    (crossBEnd k s).zone = s.zone ∧ (crossBEnd k s).windTable = s.windTable ∧
    (crossBEnd k s).pollParams = s.pollParams ∧ (crossBEnd k s).pollEntries = s.pollEntries ∧
    (crossBEnd k s).passList = s.passList ∧ (crossBEnd k s).profiles = s.profiles ∧
    (crossBEnd k s).expiries = s.expiries ∧ (crossBEnd k s).out = s.out ∧ (crossBEnd k s).fb = s.fb ∧
    (crossBEnd k s).still = s.still ∧ (crossBEnd k s).tracker = s.tracker ∧
    (crossBEnd k s).alightStation = s.alightStation ∧ (crossBEnd k s).boardStation = s.boardStation ∧
    (crossBEnd k s).poller = s.poller ∧ (crossBEnd k s).results = s.results ∧
    (crossBEnd k s).masts = s.masts ∧ (crossBEnd k s).wind = s.wind ∧ (crossBEnd k s).trace = s.trace ∧
    (crossBEnd k s).causes = s.causes ∧ (crossBEnd k s).rx = s.rx ∧
    (crossBEnd k s).driveQueue = s.driveQueue ∧ (crossBEnd k s).requests = s.requests ∧
    (crossBEnd k s).timers = s.timers ∧ (crossBEnd k s).freeCount = s.freeCount ∧
    (crossBEnd k s).pending = s.pending := by
  unfold crossBEnd; simp only []; split <;> simp

/-- A crossing taken (R53). -/
@[simp] theorem takeCrossing_frame (k : Nat) (p : Point) :
    (takeCrossing k p s).ms = s.ms ∧ (takeCrossing k p s).modeRec = s.modeRec ∧
    (takeCrossing k p s).ride = s.ride ∧ (takeCrossing k p s).zone = s.zone ∧
    (takeCrossing k p s).windTable = s.windTable ∧ (takeCrossing k p s).pollParams = s.pollParams ∧
    (takeCrossing k p s).pollEntries = s.pollEntries ∧ (takeCrossing k p s).passList = s.passList ∧
    (takeCrossing k p s).profiles = s.profiles ∧ (takeCrossing k p s).expiries = s.expiries ∧
    (takeCrossing k p s).out = s.out ∧ (takeCrossing k p s).fb = s.fb ∧
    (takeCrossing k p s).still = s.still ∧ (takeCrossing k p s).alightStation = s.alightStation ∧
    (takeCrossing k p s).boardStation = s.boardStation ∧ (takeCrossing k p s).poller = s.poller ∧
    (takeCrossing k p s).results = s.results ∧ (takeCrossing k p s).masts = s.masts ∧
    (takeCrossing k p s).wind = s.wind ∧ (takeCrossing k p s).trace = s.trace ∧
    (takeCrossing k p s).causes = s.causes ∧ (takeCrossing k p s).rx = s.rx ∧
    (takeCrossing k p s).driveQueue = s.driveQueue ∧ (takeCrossing k p s).requests = s.requests ∧
    (takeCrossing k p s).timers = s.timers ∧ (takeCrossing k p s).freeCount = s.freeCount ∧
    (takeCrossing k p s).pending = s.pending := by
  cases p <;> simp [takeCrossing]

/-- The crossings of a frame taken (R53). -/
@[simp] theorem takeCrossings_frame (xs : List (Nat × Point)) :
    (takeCrossings xs s).ms = s.ms ∧ (takeCrossings xs s).modeRec = s.modeRec ∧
    (takeCrossings xs s).ride = s.ride ∧ (takeCrossings xs s).zone = s.zone ∧
    (takeCrossings xs s).windTable = s.windTable ∧ (takeCrossings xs s).pollParams = s.pollParams ∧
    (takeCrossings xs s).pollEntries = s.pollEntries ∧ (takeCrossings xs s).passList = s.passList ∧
    (takeCrossings xs s).profiles = s.profiles ∧ (takeCrossings xs s).expiries = s.expiries ∧
    (takeCrossings xs s).out = s.out ∧ (takeCrossings xs s).fb = s.fb ∧
    (takeCrossings xs s).still = s.still ∧ (takeCrossings xs s).alightStation = s.alightStation ∧
    (takeCrossings xs s).boardStation = s.boardStation ∧ (takeCrossings xs s).poller = s.poller ∧
    (takeCrossings xs s).results = s.results ∧ (takeCrossings xs s).masts = s.masts ∧
    (takeCrossings xs s).wind = s.wind ∧ (takeCrossings xs s).trace = s.trace ∧
    (takeCrossings xs s).causes = s.causes ∧ (takeCrossings xs s).rx = s.rx ∧
    (takeCrossings xs s).driveQueue = s.driveQueue ∧ (takeCrossings xs s).requests = s.requests ∧
    (takeCrossings xs s).timers = s.timers ∧ (takeCrossings xs s).freeCount = s.freeCount ∧
    (takeCrossings xs s).pending = s.pending := by
  induction xs generalizing s with
  | nil => simp [takeCrossings]
  | cons x xs ih =>
    unfold takeCrossings
    simp only []
    split <;> simp [ih]

/-- The boarding controller's turn at a FEEDBACK (R53). -/
@[simp] theorem boardFeedback_frame (b : Tracker) :
    (boardFeedback b s).ms = s.ms ∧ (boardFeedback b s).modeRec = s.modeRec ∧
    (boardFeedback b s).ride = s.ride ∧ (boardFeedback b s).zone = s.zone ∧
    (boardFeedback b s).windTable = s.windTable ∧ (boardFeedback b s).pollParams = s.pollParams ∧
    (boardFeedback b s).pollEntries = s.pollEntries ∧ (boardFeedback b s).passList = s.passList ∧
    (boardFeedback b s).profiles = s.profiles ∧ (boardFeedback b s).expiries = s.expiries ∧
    (boardFeedback b s).out = s.out ∧ (boardFeedback b s).fb = s.fb ∧ (boardFeedback b s).still = s.still ∧
    (boardFeedback b s).alightStation = s.alightStation ∧
    (boardFeedback b s).boardStation = s.boardStation ∧ (boardFeedback b s).poller = s.poller ∧
    (boardFeedback b s).results = s.results ∧ (boardFeedback b s).masts = s.masts ∧
    (boardFeedback b s).wind = s.wind ∧ (boardFeedback b s).trace = s.trace ∧
    (boardFeedback b s).causes = s.causes ∧ (boardFeedback b s).rx = s.rx ∧
    (boardFeedback b s).driveQueue = s.driveQueue ∧ (boardFeedback b s).requests = s.requests ∧
    (boardFeedback b s).timers = s.timers ∧ (boardFeedback b s).freeCount = s.freeCount ∧
    (boardFeedback b s).pending = s.pending := by
  unfold boardFeedback; repeat' split
  all_goals simp

/-- A read offered to the open window (R57). -/
@[simp] theorem offerRead_frame (j : Nat) :
    (offerRead j s).ms = s.ms ∧ (offerRead j s).modeRec = s.modeRec ∧ (offerRead j s).ride = s.ride ∧
    (offerRead j s).zone = s.zone ∧ (offerRead j s).windTable = s.windTable ∧
    (offerRead j s).pollParams = s.pollParams ∧ (offerRead j s).pollEntries = s.pollEntries ∧
    (offerRead j s).passList = s.passList ∧ (offerRead j s).profiles = s.profiles ∧
    (offerRead j s).req = s.req ∧ (offerRead j s).expiries = s.expiries ∧ (offerRead j s).out = s.out ∧
    (offerRead j s).fb = s.fb ∧ (offerRead j s).still = s.still ∧ (offerRead j s).tracker = s.tracker ∧
    (offerRead j s).alightStation = s.alightStation ∧ (offerRead j s).boardStation = s.boardStation ∧
    (offerRead j s).poller = s.poller ∧ (offerRead j s).results = s.results ∧
    (offerRead j s).masts = s.masts ∧ (offerRead j s).wind = s.wind ∧ (offerRead j s).trace = s.trace ∧
    (offerRead j s).holds = s.holds ∧ (offerRead j s).causes = s.causes ∧ (offerRead j s).snaps = s.snaps ∧
    (offerRead j s).run = s.run ∧ (offerRead j s).rx = s.rx ∧
    (offerRead j s).consoleQueue = s.consoleQueue ∧ (offerRead j s).driveQueue = s.driveQueue ∧
    (offerRead j s).requests = s.requests ∧ (offerRead j s).waitTag = s.waitTag ∧
    (offerRead j s).latched = s.latched ∧ (offerRead j s).timers = s.timers ∧
    (offerRead j s).freeCount = s.freeCount ∧ (offerRead j s).pending = s.pending := by
  unfold offerRead; repeat' split
  all_goals simp

/-- A tag answer taken (R55). -/
@[simp] theorem takeTagAnswer_frame (a : TagAnswer) :
    (takeTagAnswer a s).ms = s.ms ∧ (takeTagAnswer a s).modeRec = s.modeRec ∧
    (takeTagAnswer a s).ride = s.ride ∧ (takeTagAnswer a s).zone = s.zone ∧
    (takeTagAnswer a s).windTable = s.windTable ∧ (takeTagAnswer a s).pollParams = s.pollParams ∧
    (takeTagAnswer a s).pollEntries = s.pollEntries ∧ (takeTagAnswer a s).passList = s.passList ∧
    (takeTagAnswer a s).profiles = s.profiles ∧ (takeTagAnswer a s).expiries = s.expiries ∧
    (takeTagAnswer a s).out = s.out ∧ (takeTagAnswer a s).fb = s.fb ∧ (takeTagAnswer a s).still = s.still ∧
    (takeTagAnswer a s).alightStation = s.alightStation ∧
    (takeTagAnswer a s).boardStation = s.boardStation ∧ (takeTagAnswer a s).poller = s.poller ∧
    (takeTagAnswer a s).results = s.results ∧ (takeTagAnswer a s).masts = s.masts ∧
    (takeTagAnswer a s).wind = s.wind ∧ (takeTagAnswer a s).trace = s.trace ∧
    (takeTagAnswer a s).causes = s.causes ∧ (takeTagAnswer a s).rx = s.rx ∧
    (takeTagAnswer a s).driveQueue = s.driveQueue ∧ (takeTagAnswer a s).requests = s.requests ∧
    (takeTagAnswer a s).timers = s.timers ∧ (takeTagAnswer a s).freeCount = s.freeCount ∧
    (takeTagAnswer a s).pending = s.pending := by
  unfold takeTagAnswer; repeat' split
  all_goals simp

/-- A mast answer taken (R94). -/
@[simp] theorem takeMastAnswer_frame (n : Nat) (a : MastAnswer) :
    (takeMastAnswer n a s).ms = s.ms ∧ (takeMastAnswer n a s).modeRec = s.modeRec ∧
    (takeMastAnswer n a s).ride = s.ride ∧ (takeMastAnswer n a s).zone = s.zone ∧
    (takeMastAnswer n a s).windTable = s.windTable ∧ (takeMastAnswer n a s).pollParams = s.pollParams ∧
    (takeMastAnswer n a s).pollEntries = s.pollEntries ∧ (takeMastAnswer n a s).passList = s.passList ∧
    (takeMastAnswer n a s).profiles = s.profiles ∧ (takeMastAnswer n a s).req = s.req ∧
    (takeMastAnswer n a s).expiries = s.expiries ∧ (takeMastAnswer n a s).out = s.out ∧
    (takeMastAnswer n a s).fb = s.fb ∧ (takeMastAnswer n a s).still = s.still ∧
    (takeMastAnswer n a s).tracker = s.tracker ∧ (takeMastAnswer n a s).cabins = s.cabins ∧
    (takeMastAnswer n a s).alightStation = s.alightStation ∧
    (takeMastAnswer n a s).boardStation = s.boardStation ∧ (takeMastAnswer n a s).poller = s.poller ∧
    (takeMastAnswer n a s).results = s.results ∧ (takeMastAnswer n a s).wind = s.wind ∧
    (takeMastAnswer n a s).trace = s.trace ∧ (takeMastAnswer n a s).holds = s.holds ∧
    (takeMastAnswer n a s).causes = s.causes ∧ (takeMastAnswer n a s).snaps = s.snaps ∧
    (takeMastAnswer n a s).run = s.run ∧ (takeMastAnswer n a s).rx = s.rx ∧
    (takeMastAnswer n a s).consoleQueue = s.consoleQueue ∧
    (takeMastAnswer n a s).driveQueue = s.driveQueue ∧ (takeMastAnswer n a s).requests = s.requests ∧
    (takeMastAnswer n a s).waitTag = s.waitTag ∧ (takeMastAnswer n a s).timers = s.timers ∧
    (takeMastAnswer n a s).freeCount = s.freeCount ∧ (takeMastAnswer n a s).pending = s.pending := by
  simp [takeMastAnswer]

/-- A mast freshness taken (R95). -/
@[simp] theorem mastFreshness_frame (n : Nat) (f : Freshness) :
    (mastFreshness n f s).ms = s.ms ∧ (mastFreshness n f s).modeRec = s.modeRec ∧
    (mastFreshness n f s).ride = s.ride ∧ (mastFreshness n f s).zone = s.zone ∧
    (mastFreshness n f s).windTable = s.windTable ∧ (mastFreshness n f s).pollParams = s.pollParams ∧
    (mastFreshness n f s).pollEntries = s.pollEntries ∧ (mastFreshness n f s).passList = s.passList ∧
    (mastFreshness n f s).profiles = s.profiles ∧ (mastFreshness n f s).req = s.req ∧
    (mastFreshness n f s).expiries = s.expiries ∧ (mastFreshness n f s).out = s.out ∧
    (mastFreshness n f s).fb = s.fb ∧ (mastFreshness n f s).still = s.still ∧
    (mastFreshness n f s).tracker = s.tracker ∧ (mastFreshness n f s).cabins = s.cabins ∧
    (mastFreshness n f s).alightStation = s.alightStation ∧
    (mastFreshness n f s).boardStation = s.boardStation ∧ (mastFreshness n f s).poller = s.poller ∧
    (mastFreshness n f s).results = s.results ∧ (mastFreshness n f s).wind = s.wind ∧
    (mastFreshness n f s).trace = s.trace ∧ (mastFreshness n f s).holds = s.holds ∧
    (mastFreshness n f s).causes = s.causes ∧ (mastFreshness n f s).snaps = s.snaps ∧
    (mastFreshness n f s).run = s.run ∧ (mastFreshness n f s).rx = s.rx ∧
    (mastFreshness n f s).consoleQueue = s.consoleQueue ∧ (mastFreshness n f s).driveQueue = s.driveQueue ∧
    (mastFreshness n f s).requests = s.requests ∧ (mastFreshness n f s).waitTag = s.waitTag ∧
    (mastFreshness n f s).latched = s.latched ∧ (mastFreshness n f s).timers = s.timers ∧
    (mastFreshness n f s).freeCount = s.freeCount ∧ (mastFreshness n f s).pending = s.pending := by
  simp [mastFreshness]

/-- The WIND cause reported (R105). -/
@[simp] theorem reportWind_frame :
    (reportWind s).ms = s.ms ∧ (reportWind s).modeRec = s.modeRec ∧ (reportWind s).ride = s.ride ∧
    (reportWind s).zone = s.zone ∧ (reportWind s).windTable = s.windTable ∧
    (reportWind s).pollParams = s.pollParams ∧ (reportWind s).pollEntries = s.pollEntries ∧
    (reportWind s).passList = s.passList ∧ (reportWind s).profiles = s.profiles ∧
    (reportWind s).expiries = s.expiries ∧ (reportWind s).out = s.out ∧ (reportWind s).fb = s.fb ∧
    (reportWind s).still = s.still ∧ (reportWind s).tracker = s.tracker ∧
    (reportWind s).alightStation = s.alightStation ∧ (reportWind s).boardStation = s.boardStation ∧
    (reportWind s).poller = s.poller ∧ (reportWind s).results = s.results ∧
    (reportWind s).masts = s.masts ∧ (reportWind s).wind = s.wind ∧ (reportWind s).trace = s.trace ∧
    (reportWind s).causes = s.causes ∧ (reportWind s).rx = s.rx ∧
    (reportWind s).driveQueue = s.driveQueue ∧ (reportWind s).requests = s.requests ∧
    (reportWind s).timers = s.timers ∧ (reportWind s).freeCount = s.freeCount ∧
    (reportWind s).pending = s.pending := by
  unfold reportWind; split <;> simp

/-- The MASTS cause reported (R101). -/
@[simp] theorem reportMasts_frame :
    (reportMasts s).ms = s.ms ∧ (reportMasts s).modeRec = s.modeRec ∧ (reportMasts s).ride = s.ride ∧
    (reportMasts s).zone = s.zone ∧ (reportMasts s).windTable = s.windTable ∧
    (reportMasts s).pollParams = s.pollParams ∧ (reportMasts s).pollEntries = s.pollEntries ∧
    (reportMasts s).passList = s.passList ∧ (reportMasts s).profiles = s.profiles ∧
    (reportMasts s).expiries = s.expiries ∧ (reportMasts s).out = s.out ∧ (reportMasts s).fb = s.fb ∧
    (reportMasts s).still = s.still ∧ (reportMasts s).tracker = s.tracker ∧
    (reportMasts s).alightStation = s.alightStation ∧ (reportMasts s).boardStation = s.boardStation ∧
    (reportMasts s).poller = s.poller ∧ (reportMasts s).results = s.results ∧
    (reportMasts s).masts = s.masts ∧ (reportMasts s).wind = s.wind ∧ (reportMasts s).trace = s.trace ∧
    (reportMasts s).causes = s.causes ∧ (reportMasts s).rx = s.rx ∧
    (reportMasts s).driveQueue = s.driveQueue ∧ (reportMasts s).requests = s.requests ∧
    (reportMasts s).timers = s.timers ∧ (reportMasts s).freeCount = s.freeCount ∧
    (reportMasts s).pending = s.pending := by
  unfold reportMasts; repeat' split
  all_goals simp

/-- The trace entries of a cycle end (R107, R108). -/
@[simp] theorem appendTrace_frame (l : WindLevel) :
    (appendTrace l s).ms = s.ms ∧ (appendTrace l s).modeRec = s.modeRec ∧ (appendTrace l s).ride = s.ride ∧
    (appendTrace l s).zone = s.zone ∧ (appendTrace l s).windTable = s.windTable ∧
    (appendTrace l s).pollParams = s.pollParams ∧ (appendTrace l s).pollEntries = s.pollEntries ∧
    (appendTrace l s).passList = s.passList ∧ (appendTrace l s).profiles = s.profiles ∧
    (appendTrace l s).req = s.req ∧ (appendTrace l s).expiries = s.expiries ∧
    (appendTrace l s).out = s.out ∧ (appendTrace l s).fb = s.fb ∧ (appendTrace l s).still = s.still ∧
    (appendTrace l s).tracker = s.tracker ∧ (appendTrace l s).cabins = s.cabins ∧
    (appendTrace l s).alightStation = s.alightStation ∧ (appendTrace l s).boardStation = s.boardStation ∧
    (appendTrace l s).poller = s.poller ∧ (appendTrace l s).results = s.results ∧
    (appendTrace l s).masts = s.masts ∧ (appendTrace l s).wind = s.wind ∧
    (appendTrace l s).holds = s.holds ∧ (appendTrace l s).causes = s.causes ∧
    (appendTrace l s).snaps = s.snaps ∧ (appendTrace l s).run = s.run ∧ (appendTrace l s).rx = s.rx ∧
    (appendTrace l s).consoleQueue = s.consoleQueue ∧ (appendTrace l s).driveQueue = s.driveQueue ∧
    (appendTrace l s).requests = s.requests ∧ (appendTrace l s).waitTag = s.waitTag ∧
    (appendTrace l s).timers = s.timers ∧ (appendTrace l s).freeCount = s.freeCount ∧
    (appendTrace l s).pending = s.pending := by
  unfold appendTrace; split <;> simp

/-- The wind monitor's cycle work (R99). -/
@[simp] theorem windCycleEnd_frame :
    (windCycleEnd s).ms = s.ms ∧ (windCycleEnd s).modeRec = s.modeRec ∧ (windCycleEnd s).ride = s.ride ∧
    (windCycleEnd s).zone = s.zone ∧ (windCycleEnd s).windTable = s.windTable ∧
    (windCycleEnd s).pollParams = s.pollParams ∧ (windCycleEnd s).pollEntries = s.pollEntries ∧
    (windCycleEnd s).passList = s.passList ∧ (windCycleEnd s).profiles = s.profiles ∧
    (windCycleEnd s).expiries = s.expiries ∧ (windCycleEnd s).out = s.out ∧ (windCycleEnd s).fb = s.fb ∧
    (windCycleEnd s).still = s.still ∧ (windCycleEnd s).tracker = s.tracker ∧
    (windCycleEnd s).alightStation = s.alightStation ∧ (windCycleEnd s).boardStation = s.boardStation ∧
    (windCycleEnd s).poller = s.poller ∧ (windCycleEnd s).results = s.results ∧
    (windCycleEnd s).masts = s.masts ∧ (windCycleEnd s).causes = s.causes ∧ (windCycleEnd s).rx = s.rx ∧
    (windCycleEnd s).driveQueue = s.driveQueue ∧ (windCycleEnd s).requests = s.requests ∧
    (windCycleEnd s).timers = s.timers ∧ (windCycleEnd s).freeCount = s.freeCount ∧
    (windCycleEnd s).pending = s.pending := by
  simp [windCycleEnd]

/-- Steps 1 to 3 of a cycle's end (R89). -/
@[simp] theorem finishCycle_frame :
    (finishCycle s).ms = s.ms ∧ (finishCycle s).modeRec = s.modeRec ∧ (finishCycle s).ride = s.ride ∧
    (finishCycle s).zone = s.zone ∧ (finishCycle s).windTable = s.windTable ∧
    (finishCycle s).pollParams = s.pollParams ∧ (finishCycle s).pollEntries = s.pollEntries ∧
    (finishCycle s).passList = s.passList ∧ (finishCycle s).profiles = s.profiles ∧
    (finishCycle s).expiries = s.expiries ∧ (finishCycle s).out = s.out ∧ (finishCycle s).fb = s.fb ∧
    (finishCycle s).still = s.still ∧ (finishCycle s).tracker = s.tracker ∧
    (finishCycle s).alightStation = s.alightStation ∧ (finishCycle s).boardStation = s.boardStation ∧
    (finishCycle s).results = s.results ∧ (finishCycle s).masts = s.masts ∧
    (finishCycle s).causes = s.causes ∧ (finishCycle s).rx = s.rx ∧
    (finishCycle s).driveQueue = s.driveQueue ∧ (finishCycle s).requests = s.requests ∧
    (finishCycle s).timers = s.timers ∧ (finishCycle s).freeCount = s.freeCount ∧
    (finishCycle s).pending = s.pending := by
  simp [finishCycle]

/-- A cycle started (R82). -/
@[simp] theorem startCycle_frame :
    (startCycle s).ms = s.ms ∧ (startCycle s).modeRec = s.modeRec ∧ (startCycle s).ride = s.ride ∧
    (startCycle s).zone = s.zone ∧ (startCycle s).windTable = s.windTable ∧
    (startCycle s).pollParams = s.pollParams ∧ (startCycle s).pollEntries = s.pollEntries ∧
    (startCycle s).passList = s.passList ∧ (startCycle s).profiles = s.profiles ∧
    (startCycle s).expiries = s.expiries ∧ (startCycle s).out = s.out ∧ (startCycle s).fb = s.fb ∧
    (startCycle s).still = s.still ∧ (startCycle s).tracker = s.tracker ∧
    (startCycle s).alightStation = s.alightStation ∧ (startCycle s).boardStation = s.boardStation ∧
    (startCycle s).results = s.results ∧ (startCycle s).masts = s.masts ∧
    (startCycle s).causes = s.causes ∧ (startCycle s).rx = s.rx ∧
    (startCycle s).driveQueue = s.driveQueue ∧ (startCycle s).requests = s.requests ∧
    (startCycle s).timers = s.timers ∧ (startCycle s).freeCount = s.freeCount ∧
    (startCycle s).pending = s.pending := by
  unfold startCycle; repeat' split
  all_goals simp

/-- A cycle ended (R89). -/
@[simp] theorem endCycle_frame :
    (endCycle s).ms = s.ms ∧ (endCycle s).modeRec = s.modeRec ∧ (endCycle s).ride = s.ride ∧
    (endCycle s).zone = s.zone ∧ (endCycle s).windTable = s.windTable ∧
    (endCycle s).pollParams = s.pollParams ∧ (endCycle s).pollEntries = s.pollEntries ∧
    (endCycle s).passList = s.passList ∧ (endCycle s).profiles = s.profiles ∧
    (endCycle s).expiries = s.expiries ∧ (endCycle s).out = s.out ∧ (endCycle s).fb = s.fb ∧
    (endCycle s).still = s.still ∧ (endCycle s).tracker = s.tracker ∧
    (endCycle s).alightStation = s.alightStation ∧ (endCycle s).boardStation = s.boardStation ∧
    (endCycle s).results = s.results ∧ (endCycle s).masts = s.masts ∧ (endCycle s).causes = s.causes ∧
    (endCycle s).rx = s.rx ∧ (endCycle s).driveQueue = s.driveQueue ∧ (endCycle s).requests = s.requests ∧
    (endCycle s).timers = s.timers ∧ (endCycle s).freeCount = s.freeCount ∧ (endCycle s).pending = s.pending := by
  unfold endCycle; simp only []; split <;> simp

/-- The walk moved on (R82). -/
@[simp] theorem moveOn_frame (i : Nat) :
    (moveOn i s).ms = s.ms ∧ (moveOn i s).modeRec = s.modeRec ∧ (moveOn i s).ride = s.ride ∧
    (moveOn i s).zone = s.zone ∧ (moveOn i s).windTable = s.windTable ∧
    (moveOn i s).pollParams = s.pollParams ∧ (moveOn i s).pollEntries = s.pollEntries ∧
    (moveOn i s).passList = s.passList ∧ (moveOn i s).profiles = s.profiles ∧
    (moveOn i s).expiries = s.expiries ∧ (moveOn i s).out = s.out ∧ (moveOn i s).fb = s.fb ∧
    (moveOn i s).still = s.still ∧ (moveOn i s).tracker = s.tracker ∧
    (moveOn i s).alightStation = s.alightStation ∧ (moveOn i s).boardStation = s.boardStation ∧
    (moveOn i s).results = s.results ∧ (moveOn i s).masts = s.masts ∧ (moveOn i s).causes = s.causes ∧
    (moveOn i s).rx = s.rx ∧ (moveOn i s).driveQueue = s.driveQueue ∧ (moveOn i s).requests = s.requests ∧
    (moveOn i s).timers = s.timers ∧ (moveOn i s).freeCount = s.freeCount ∧ (moveOn i s).pending = s.pending := by
  unfold moveOn; split <;> simp

/-- A cycle asked for (R81). -/
@[simp] theorem requestCycle_frame :
    (requestCycle s).ms = s.ms ∧ (requestCycle s).modeRec = s.modeRec ∧ (requestCycle s).ride = s.ride ∧
    (requestCycle s).zone = s.zone ∧ (requestCycle s).windTable = s.windTable ∧
    (requestCycle s).pollParams = s.pollParams ∧ (requestCycle s).pollEntries = s.pollEntries ∧
    (requestCycle s).passList = s.passList ∧ (requestCycle s).profiles = s.profiles ∧
    (requestCycle s).expiries = s.expiries ∧ (requestCycle s).out = s.out ∧ (requestCycle s).fb = s.fb ∧
    (requestCycle s).still = s.still ∧ (requestCycle s).tracker = s.tracker ∧
    (requestCycle s).alightStation = s.alightStation ∧ (requestCycle s).boardStation = s.boardStation ∧
    (requestCycle s).results = s.results ∧ (requestCycle s).masts = s.masts ∧
    (requestCycle s).causes = s.causes ∧ (requestCycle s).rx = s.rx ∧
    (requestCycle s).driveQueue = s.driveQueue ∧ (requestCycle s).requests = s.requests ∧
    (requestCycle s).timers = s.timers ∧ (requestCycle s).freeCount = s.freeCount ∧
    (requestCycle s).pending = s.pending := by
  unfold requestCycle; split <;> simp

/-- A freshness change reported (R88). -/
@[simp] theorem reportFreshness_frame (i : Nat) (f : Freshness) :
    (reportFreshness i f s).ms = s.ms ∧ (reportFreshness i f s).modeRec = s.modeRec ∧
    (reportFreshness i f s).ride = s.ride ∧ (reportFreshness i f s).zone = s.zone ∧
    (reportFreshness i f s).windTable = s.windTable ∧ (reportFreshness i f s).pollParams = s.pollParams ∧
    (reportFreshness i f s).pollEntries = s.pollEntries ∧ (reportFreshness i f s).passList = s.passList ∧
    (reportFreshness i f s).profiles = s.profiles ∧ (reportFreshness i f s).expiries = s.expiries ∧
    (reportFreshness i f s).out = s.out ∧ (reportFreshness i f s).fb = s.fb ∧
    (reportFreshness i f s).still = s.still ∧ (reportFreshness i f s).tracker = s.tracker ∧
    (reportFreshness i f s).poller = s.poller ∧ (reportFreshness i f s).results = s.results ∧
    (reportFreshness i f s).wind = s.wind ∧ (reportFreshness i f s).trace = s.trace ∧
    (reportFreshness i f s).rx = s.rx ∧ (reportFreshness i f s).driveQueue = s.driveQueue ∧
    (reportFreshness i f s).requests = s.requests ∧ (reportFreshness i f s).timers = s.timers ∧
    (reportFreshness i f s).freeCount = s.freeCount ∧ (reportFreshness i f s).pending = s.pending := by
  unfold reportFreshness; repeat' split
  all_goals simp

/-- A result recorded (R86). -/
@[simp] theorem recordResult_frame (i : Nat) (r : PollResult) :
    (recordResult i r s).ms = s.ms ∧ (recordResult i r s).modeRec = s.modeRec ∧
    (recordResult i r s).ride = s.ride ∧ (recordResult i r s).zone = s.zone ∧
    (recordResult i r s).windTable = s.windTable ∧ (recordResult i r s).pollParams = s.pollParams ∧
    (recordResult i r s).pollEntries = s.pollEntries ∧ (recordResult i r s).passList = s.passList ∧
    (recordResult i r s).profiles = s.profiles ∧ (recordResult i r s).expiries = s.expiries ∧
    (recordResult i r s).out = s.out ∧ (recordResult i r s).fb = s.fb ∧
    (recordResult i r s).still = s.still ∧ (recordResult i r s).tracker = s.tracker ∧
    (recordResult i r s).poller = s.poller ∧ (recordResult i r s).wind = s.wind ∧
    (recordResult i r s).trace = s.trace ∧ (recordResult i r s).rx = s.rx ∧
    (recordResult i r s).driveQueue = s.driveQueue ∧ (recordResult i r s).requests = s.requests ∧
    (recordResult i r s).timers = s.timers ∧ (recordResult i r s).freeCount = s.freeCount ∧
    (recordResult i r s).pending = s.pending := by
  unfold recordResult; simp only []; split <;> simp

/-- An answer's content handed on (R86). -/
@[simp] theorem handContent_frame (i : Nat) (c : AnswerContent) :
    (handContent i c s).ms = s.ms ∧ (handContent i c s).modeRec = s.modeRec ∧
    (handContent i c s).ride = s.ride ∧ (handContent i c s).zone = s.zone ∧
    (handContent i c s).windTable = s.windTable ∧ (handContent i c s).pollParams = s.pollParams ∧
    (handContent i c s).pollEntries = s.pollEntries ∧ (handContent i c s).passList = s.passList ∧
    (handContent i c s).profiles = s.profiles ∧ (handContent i c s).expiries = s.expiries ∧
    (handContent i c s).out = s.out ∧ (handContent i c s).fb = s.fb ∧ (handContent i c s).still = s.still ∧
    (handContent i c s).poller = s.poller ∧ (handContent i c s).results = s.results ∧
    (handContent i c s).wind = s.wind ∧ (handContent i c s).trace = s.trace ∧
    (handContent i c s).rx = s.rx ∧ (handContent i c s).driveQueue = s.driveQueue ∧
    (handContent i c s).requests = s.requests ∧ (handContent i c s).timers = s.timers ∧
    (handContent i c s).freeCount = s.freeCount ∧ (handContent i c s).pending = s.pending := by
  unfold handContent; repeat' split
  all_goals simp

/-- A settling frame judged (R84, R86). -/
@[simp] theorem settleFrame_frame (i : Nat) (r : RawFrame) :
    (settleFrame i r s).ms = s.ms ∧ (settleFrame i r s).modeRec = s.modeRec ∧
    (settleFrame i r s).ride = s.ride ∧ (settleFrame i r s).zone = s.zone ∧
    (settleFrame i r s).windTable = s.windTable ∧ (settleFrame i r s).pollParams = s.pollParams ∧
    (settleFrame i r s).pollEntries = s.pollEntries ∧ (settleFrame i r s).passList = s.passList ∧
    (settleFrame i r s).profiles = s.profiles ∧ (settleFrame i r s).expiries = s.expiries ∧
    (settleFrame i r s).out = s.out ∧ (settleFrame i r s).fb = s.fb ∧ (settleFrame i r s).still = s.still ∧
    (settleFrame i r s).rx = s.rx ∧ (settleFrame i r s).driveQueue = s.driveQueue ∧
    (settleFrame i r s).requests = s.requests ∧ (settleFrame i r s).timers = s.timers ∧
    (settleFrame i r s).freeCount = s.freeCount ∧ (settleFrame i r s).pending = s.pending := by
  unfold settleFrame; repeat' split
  all_goals simp

/-- The field line's receive buffer set (R168). -/
@[simp] theorem setFieldBuffer_frame (b : ReceiveBuffer) :
    (setFieldBuffer b s).ms = s.ms ∧ (setFieldBuffer b s).modeRec = s.modeRec ∧
    (setFieldBuffer b s).ride = s.ride ∧ (setFieldBuffer b s).zone = s.zone ∧
    (setFieldBuffer b s).windTable = s.windTable ∧ (setFieldBuffer b s).pollParams = s.pollParams ∧
    (setFieldBuffer b s).pollEntries = s.pollEntries ∧ (setFieldBuffer b s).passList = s.passList ∧
    (setFieldBuffer b s).profiles = s.profiles ∧ (setFieldBuffer b s).req = s.req ∧
    (setFieldBuffer b s).expiries = s.expiries ∧ (setFieldBuffer b s).out = s.out ∧
    (setFieldBuffer b s).fb = s.fb ∧ (setFieldBuffer b s).still = s.still ∧
    (setFieldBuffer b s).tracker = s.tracker ∧ (setFieldBuffer b s).cabins = s.cabins ∧
    (setFieldBuffer b s).alightStation = s.alightStation ∧
    (setFieldBuffer b s).boardStation = s.boardStation ∧ (setFieldBuffer b s).poller = s.poller ∧
    (setFieldBuffer b s).results = s.results ∧ (setFieldBuffer b s).masts = s.masts ∧
    (setFieldBuffer b s).wind = s.wind ∧ (setFieldBuffer b s).trace = s.trace ∧
    (setFieldBuffer b s).holds = s.holds ∧ (setFieldBuffer b s).causes = s.causes ∧
    (setFieldBuffer b s).snaps = s.snaps ∧ (setFieldBuffer b s).run = s.run ∧
    (setFieldBuffer b s).consoleQueue = s.consoleQueue ∧ (setFieldBuffer b s).driveQueue = s.driveQueue ∧
    (setFieldBuffer b s).requests = s.requests ∧ (setFieldBuffer b s).waitTag = s.waitTag ∧
    (setFieldBuffer b s).latched = s.latched ∧ (setFieldBuffer b s).timers = s.timers ∧
    (setFieldBuffer b s).freeCount = s.freeCount ∧ (setFieldBuffer b s).pending = s.pending := by
  simp [setFieldBuffer]

/-- A field-line frame discarded (R83, R85). -/
@[simp] theorem discardFieldFrame_frame :
    (discardFieldFrame s).ms = s.ms ∧ (discardFieldFrame s).modeRec = s.modeRec ∧
    (discardFieldFrame s).ride = s.ride ∧ (discardFieldFrame s).zone = s.zone ∧
    (discardFieldFrame s).windTable = s.windTable ∧ (discardFieldFrame s).pollParams = s.pollParams ∧
    (discardFieldFrame s).pollEntries = s.pollEntries ∧ (discardFieldFrame s).passList = s.passList ∧
    (discardFieldFrame s).profiles = s.profiles ∧ (discardFieldFrame s).req = s.req ∧
    (discardFieldFrame s).expiries = s.expiries ∧ (discardFieldFrame s).out = s.out ∧
    (discardFieldFrame s).fb = s.fb ∧ (discardFieldFrame s).still = s.still ∧
    (discardFieldFrame s).tracker = s.tracker ∧ (discardFieldFrame s).cabins = s.cabins ∧
    (discardFieldFrame s).alightStation = s.alightStation ∧
    (discardFieldFrame s).boardStation = s.boardStation ∧ (discardFieldFrame s).poller = s.poller ∧
    (discardFieldFrame s).results = s.results ∧ (discardFieldFrame s).masts = s.masts ∧
    (discardFieldFrame s).wind = s.wind ∧ (discardFieldFrame s).trace = s.trace ∧
    (discardFieldFrame s).holds = s.holds ∧ (discardFieldFrame s).causes = s.causes ∧
    (discardFieldFrame s).snaps = s.snaps ∧ (discardFieldFrame s).run = s.run ∧
    (discardFieldFrame s).consoleQueue = s.consoleQueue ∧ (discardFieldFrame s).driveQueue = s.driveQueue ∧
    (discardFieldFrame s).requests = s.requests ∧ (discardFieldFrame s).waitTag = s.waitTag ∧
    (discardFieldFrame s).timers = s.timers ∧ (discardFieldFrame s).freeCount = s.freeCount ∧
    (discardFieldFrame s).pending = s.pending := by
  unfold discardFieldFrame; split <;> simp

/-- A field-line frame at its end. -/
@[simp] theorem fieldFrame_frame (r : RawFrame) :
    (fieldFrame r s).ms = s.ms ∧ (fieldFrame r s).modeRec = s.modeRec ∧ (fieldFrame r s).ride = s.ride ∧
    (fieldFrame r s).zone = s.zone ∧ (fieldFrame r s).windTable = s.windTable ∧
    (fieldFrame r s).pollParams = s.pollParams ∧ (fieldFrame r s).pollEntries = s.pollEntries ∧
    (fieldFrame r s).passList = s.passList ∧ (fieldFrame r s).profiles = s.profiles ∧
    (fieldFrame r s).expiries = s.expiries ∧ (fieldFrame r s).out = s.out ∧ (fieldFrame r s).fb = s.fb ∧
    (fieldFrame r s).still = s.still ∧ (fieldFrame r s).driveQueue = s.driveQueue ∧
    (fieldFrame r s).requests = s.requests ∧ (fieldFrame r s).timers = s.timers ∧
    (fieldFrame r s).freeCount = s.freeCount ∧ (fieldFrame r s).pending = s.pending := by
  unfold fieldFrame; repeat' split
  all_goals simp

/-- The cabin shown written (R67). -/
@[simp] theorem showCabin_frame (i : Nat) :
    (showCabin i s).ms = s.ms ∧ (showCabin i s).modeRec = s.modeRec ∧ (showCabin i s).ride = s.ride ∧
    (showCabin i s).zone = s.zone ∧ (showCabin i s).windTable = s.windTable ∧
    (showCabin i s).pollParams = s.pollParams ∧ (showCabin i s).pollEntries = s.pollEntries ∧
    (showCabin i s).passList = s.passList ∧ (showCabin i s).profiles = s.profiles ∧
    (showCabin i s).req = s.req ∧ (showCabin i s).expiries = s.expiries ∧ (showCabin i s).out = s.out ∧
    (showCabin i s).fb = s.fb ∧ (showCabin i s).still = s.still ∧ (showCabin i s).tracker = s.tracker ∧
    (showCabin i s).cabins = s.cabins ∧ (showCabin i s).poller = s.poller ∧
    (showCabin i s).results = s.results ∧ (showCabin i s).masts = s.masts ∧ (showCabin i s).wind = s.wind ∧
    (showCabin i s).trace = s.trace ∧ (showCabin i s).holds = s.holds ∧ (showCabin i s).causes = s.causes ∧
    (showCabin i s).snaps = s.snaps ∧ (showCabin i s).run = s.run ∧ (showCabin i s).rx = s.rx ∧
    (showCabin i s).consoleQueue = s.consoleQueue ∧ (showCabin i s).driveQueue = s.driveQueue ∧
    (showCabin i s).requests = s.requests ∧ (showCabin i s).waitTag = s.waitTag ∧
    (showCabin i s).latched = s.latched ∧ (showCabin i s).timers = s.timers ∧
    (showCabin i s).freeCount = s.freeCount ∧ (showCabin i s).pending = s.pending := by
  unfold showCabin; repeat' split
  all_goals simp

/-- A POLL sent (R82). -/
@[simp] theorem sendPoll_frame (i : Nat) :
    (sendPoll i s).ms = s.ms ∧ (sendPoll i s).modeRec = s.modeRec ∧ (sendPoll i s).ride = s.ride ∧
    (sendPoll i s).zone = s.zone ∧ (sendPoll i s).windTable = s.windTable ∧
    (sendPoll i s).pollParams = s.pollParams ∧ (sendPoll i s).pollEntries = s.pollEntries ∧
    (sendPoll i s).passList = s.passList ∧ (sendPoll i s).profiles = s.profiles ∧
    (sendPoll i s).req = s.req ∧ (sendPoll i s).expiries = s.expiries ∧ (sendPoll i s).out = s.out ∧
    (sendPoll i s).fb = s.fb ∧ (sendPoll i s).still = s.still ∧ (sendPoll i s).tracker = s.tracker ∧
    (sendPoll i s).cabins = s.cabins ∧ (sendPoll i s).results = s.results ∧
    (sendPoll i s).masts = s.masts ∧ (sendPoll i s).wind = s.wind ∧ (sendPoll i s).trace = s.trace ∧
    (sendPoll i s).holds = s.holds ∧ (sendPoll i s).causes = s.causes ∧ (sendPoll i s).snaps = s.snaps ∧
    (sendPoll i s).run = s.run ∧ (sendPoll i s).rx = s.rx ∧ (sendPoll i s).consoleQueue = s.consoleQueue ∧
    (sendPoll i s).driveQueue = s.driveQueue ∧ (sendPoll i s).requests = s.requests ∧
    (sendPoll i s).waitTag = s.waitTag ∧ (sendPoll i s).latched = s.latched ∧
    (sendPoll i s).timers = s.timers ∧ (sendPoll i s).freeCount = s.freeCount ∧
    (sendPoll i s).pending = s.pending := by
  simp [sendPoll]

/-- A settling frame overrun (R83). -/
@[simp] theorem overrun_frame (i : Nat) :
    (overrun i s).ms = s.ms ∧ (overrun i s).modeRec = s.modeRec ∧ (overrun i s).ride = s.ride ∧
    (overrun i s).zone = s.zone ∧ (overrun i s).windTable = s.windTable ∧
    (overrun i s).pollParams = s.pollParams ∧ (overrun i s).pollEntries = s.pollEntries ∧
    (overrun i s).passList = s.passList ∧ (overrun i s).profiles = s.profiles ∧
    (overrun i s).expiries = s.expiries ∧ (overrun i s).out = s.out ∧ (overrun i s).fb = s.fb ∧
    (overrun i s).still = s.still ∧ (overrun i s).tracker = s.tracker ∧
    (overrun i s).driveQueue = s.driveQueue ∧ (overrun i s).requests = s.requests ∧
    (overrun i s).timers = s.timers ∧ (overrun i s).freeCount = s.freeCount ∧
    (overrun i s).pending = s.pending := by
  simp [overrun]

/-- Steps 1 and 2 of a SETPOINT (R2). -/
@[simp] theorem storeSetpoint_frame (v : Word16) :
    (storeSetpoint v s).ms = s.ms ∧ (storeSetpoint v s).modeRec = s.modeRec ∧
    (storeSetpoint v s).ride = s.ride ∧ (storeSetpoint v s).zone = s.zone ∧
    (storeSetpoint v s).windTable = s.windTable ∧ (storeSetpoint v s).pollParams = s.pollParams ∧
    (storeSetpoint v s).pollEntries = s.pollEntries ∧ (storeSetpoint v s).passList = s.passList ∧
    (storeSetpoint v s).profiles = s.profiles ∧ (storeSetpoint v s).out = s.out ∧
    (storeSetpoint v s).fb = s.fb ∧ (storeSetpoint v s).still = s.still ∧
    (storeSetpoint v s).tracker = s.tracker ∧ (storeSetpoint v s).cabins = s.cabins ∧
    (storeSetpoint v s).alightStation = s.alightStation ∧
    (storeSetpoint v s).boardStation = s.boardStation ∧ (storeSetpoint v s).poller = s.poller ∧
    (storeSetpoint v s).results = s.results ∧ (storeSetpoint v s).masts = s.masts ∧
    (storeSetpoint v s).wind = s.wind ∧ (storeSetpoint v s).trace = s.trace ∧
    (storeSetpoint v s).holds = s.holds ∧ (storeSetpoint v s).causes = s.causes ∧
    (storeSetpoint v s).snaps = s.snaps ∧ (storeSetpoint v s).run = s.run ∧ (storeSetpoint v s).rx = s.rx ∧
    (storeSetpoint v s).consoleQueue = s.consoleQueue ∧ (storeSetpoint v s).driveQueue = s.driveQueue ∧
    (storeSetpoint v s).requests = s.requests ∧ (storeSetpoint v s).waitTag = s.waitTag ∧
    (storeSetpoint v s).timers = s.timers ∧ (storeSetpoint v s).freeCount = s.freeCount ∧
    (storeSetpoint v s).pending = s.pending := by
  simp [storeSetpoint]

/-- Step 4 of a SETPOINT (R2). -/
@[simp] theorem armIfZero_frame :
    (armIfZero s).ms = s.ms ∧ (armIfZero s).modeRec = s.modeRec ∧ (armIfZero s).ride = s.ride ∧
    (armIfZero s).zone = s.zone ∧ (armIfZero s).windTable = s.windTable ∧
    (armIfZero s).pollParams = s.pollParams ∧ (armIfZero s).pollEntries = s.pollEntries ∧
    (armIfZero s).passList = s.passList ∧ (armIfZero s).profiles = s.profiles ∧
    (armIfZero s).expiries = s.expiries ∧ (armIfZero s).out = s.out ∧ (armIfZero s).fb = s.fb ∧
    (armIfZero s).still = s.still ∧ (armIfZero s).tracker = s.tracker ∧ (armIfZero s).cabins = s.cabins ∧
    (armIfZero s).alightStation = s.alightStation ∧ (armIfZero s).boardStation = s.boardStation ∧
    (armIfZero s).poller = s.poller ∧ (armIfZero s).results = s.results ∧ (armIfZero s).masts = s.masts ∧
    (armIfZero s).wind = s.wind ∧ (armIfZero s).trace = s.trace ∧ (armIfZero s).holds = s.holds ∧
    (armIfZero s).causes = s.causes ∧ (armIfZero s).snaps = s.snaps ∧ (armIfZero s).run = s.run ∧
    (armIfZero s).rx = s.rx ∧ (armIfZero s).consoleQueue = s.consoleQueue ∧
    (armIfZero s).driveQueue = s.driveQueue ∧ (armIfZero s).requests = s.requests ∧
    (armIfZero s).waitTag = s.waitTag ∧ (armIfZero s).latched = s.latched ∧
    (armIfZero s).timers = s.timers ∧ (armIfZero s).freeCount = s.freeCount ∧
    (armIfZero s).pending = s.pending := by
  unfold armIfZero; split <;> simp

/-- A SETPOINT taken (R2). -/
@[simp] theorem takeSetpoint_frame (v : Word16) :
    (takeSetpoint v s).ms = s.ms ∧ (takeSetpoint v s).modeRec = s.modeRec ∧
    (takeSetpoint v s).ride = s.ride ∧ (takeSetpoint v s).zone = s.zone ∧
    (takeSetpoint v s).windTable = s.windTable ∧ (takeSetpoint v s).pollParams = s.pollParams ∧
    (takeSetpoint v s).pollEntries = s.pollEntries ∧ (takeSetpoint v s).passList = s.passList ∧
    (takeSetpoint v s).profiles = s.profiles ∧ (takeSetpoint v s).out = s.out ∧
    (takeSetpoint v s).fb = s.fb ∧ (takeSetpoint v s).still = s.still ∧
    (takeSetpoint v s).tracker = s.tracker ∧ (takeSetpoint v s).cabins = s.cabins ∧
    (takeSetpoint v s).alightStation = s.alightStation ∧ (takeSetpoint v s).boardStation = s.boardStation ∧
    (takeSetpoint v s).poller = s.poller ∧ (takeSetpoint v s).results = s.results ∧
    (takeSetpoint v s).masts = s.masts ∧ (takeSetpoint v s).wind = s.wind ∧
    (takeSetpoint v s).trace = s.trace ∧ (takeSetpoint v s).causes = s.causes ∧
    (takeSetpoint v s).snaps = s.snaps ∧ (takeSetpoint v s).run = s.run ∧ (takeSetpoint v s).rx = s.rx ∧
    (takeSetpoint v s).consoleQueue = s.consoleQueue ∧ (takeSetpoint v s).driveQueue = s.driveQueue ∧
    (takeSetpoint v s).requests = s.requests ∧ (takeSetpoint v s).waitTag = s.waitTag ∧
    (takeSetpoint v s).timers = s.timers ∧ (takeSetpoint v s).freeCount = s.freeCount ∧
    (takeSetpoint v s).pending = s.pending := by
  simp [takeSetpoint]

/-- A DRIVE ORDER computed (R5 to R13). -/
@[simp] theorem driveOrder_frame :
    (driveOrder s).ms = s.ms ∧ (driveOrder s).modeRec = s.modeRec ∧ (driveOrder s).ride = s.ride ∧
    (driveOrder s).zone = s.zone ∧ (driveOrder s).windTable = s.windTable ∧
    (driveOrder s).pollParams = s.pollParams ∧ (driveOrder s).pollEntries = s.pollEntries ∧
    (driveOrder s).passList = s.passList ∧ (driveOrder s).profiles = s.profiles ∧
    (driveOrder s).req = s.req ∧ (driveOrder s).expiries = s.expiries ∧ (driveOrder s).fb = s.fb ∧
    (driveOrder s).still = s.still ∧ (driveOrder s).tracker = s.tracker ∧
    (driveOrder s).cabins = s.cabins ∧ (driveOrder s).alightStation = s.alightStation ∧
    (driveOrder s).boardStation = s.boardStation ∧ (driveOrder s).poller = s.poller ∧
    (driveOrder s).results = s.results ∧ (driveOrder s).masts = s.masts ∧ (driveOrder s).wind = s.wind ∧
    (driveOrder s).trace = s.trace ∧ (driveOrder s).holds = s.holds ∧ (driveOrder s).causes = s.causes ∧
    (driveOrder s).snaps = s.snaps ∧ (driveOrder s).rx = s.rx ∧
    (driveOrder s).consoleQueue = s.consoleQueue ∧ (driveOrder s).requests = s.requests ∧
    (driveOrder s).waitTag = s.waitTag ∧ (driveOrder s).latched = s.latched ∧
    (driveOrder s).freeCount = s.freeCount ∧ (driveOrder s).pending = s.pending := by
  simp [driveOrder]

/-- The drive status reported (R17). -/
@[simp] theorem reportDrive_frame :
    (reportDrive s).ms = s.ms ∧ (reportDrive s).modeRec = s.modeRec ∧ (reportDrive s).ride = s.ride ∧
    (reportDrive s).zone = s.zone ∧ (reportDrive s).windTable = s.windTable ∧
    (reportDrive s).pollParams = s.pollParams ∧ (reportDrive s).pollEntries = s.pollEntries ∧
    (reportDrive s).passList = s.passList ∧ (reportDrive s).profiles = s.profiles ∧
    (reportDrive s).expiries = s.expiries ∧ (reportDrive s).out = s.out ∧ (reportDrive s).fb = s.fb ∧
    (reportDrive s).still = s.still ∧ (reportDrive s).tracker = s.tracker ∧
    (reportDrive s).alightStation = s.alightStation ∧ (reportDrive s).boardStation = s.boardStation ∧
    (reportDrive s).poller = s.poller ∧ (reportDrive s).results = s.results ∧
    (reportDrive s).masts = s.masts ∧ (reportDrive s).wind = s.wind ∧ (reportDrive s).trace = s.trace ∧
    (reportDrive s).causes = s.causes ∧ (reportDrive s).rx = s.rx ∧
    (reportDrive s).driveQueue = s.driveQueue ∧ (reportDrive s).requests = s.requests ∧
    (reportDrive s).timers = s.timers ∧ (reportDrive s).freeCount = s.freeCount ∧
    (reportDrive s).pending = s.pending := by
  unfold reportDrive; split <;> simp

/-- The drive gate's turn at a FEEDBACK (R15). -/
@[simp] theorem gateFeedback_frame (f : FeedbackFields) :
    (gateFeedback f s).ms = s.ms ∧ (gateFeedback f s).modeRec = s.modeRec ∧
    (gateFeedback f s).ride = s.ride ∧ (gateFeedback f s).zone = s.zone ∧
    (gateFeedback f s).windTable = s.windTable ∧ (gateFeedback f s).pollParams = s.pollParams ∧
    (gateFeedback f s).pollEntries = s.pollEntries ∧ (gateFeedback f s).passList = s.passList ∧
    (gateFeedback f s).profiles = s.profiles ∧ (gateFeedback f s).expiries = s.expiries ∧
    (gateFeedback f s).out = s.out ∧ (gateFeedback f s).tracker = s.tracker ∧
    (gateFeedback f s).alightStation = s.alightStation ∧ (gateFeedback f s).boardStation = s.boardStation ∧
    (gateFeedback f s).poller = s.poller ∧ (gateFeedback f s).results = s.results ∧
    (gateFeedback f s).masts = s.masts ∧ (gateFeedback f s).wind = s.wind ∧
    (gateFeedback f s).trace = s.trace ∧ (gateFeedback f s).rx = s.rx ∧
    (gateFeedback f s).driveQueue = s.driveQueue ∧ (gateFeedback f s).requests = s.requests ∧
    (gateFeedback f s).timers = s.timers ∧ (gateFeedback f s).freeCount = s.freeCount ∧
    (gateFeedback f s).pending = s.pending := by
  simp [gateFeedback]

/-- The turns of the four blocks at a FEEDBACK (R15). -/
@[simp] theorem feedbackTurns_frame (f : FeedbackFields) :
    (feedbackTurns f s).ms = s.ms ∧ (feedbackTurns f s).modeRec = s.modeRec ∧
    (feedbackTurns f s).ride = s.ride ∧ (feedbackTurns f s).zone = s.zone ∧
    (feedbackTurns f s).windTable = s.windTable ∧ (feedbackTurns f s).pollParams = s.pollParams ∧
    (feedbackTurns f s).pollEntries = s.pollEntries ∧ (feedbackTurns f s).passList = s.passList ∧
    (feedbackTurns f s).profiles = s.profiles ∧ (feedbackTurns f s).expiries = s.expiries ∧
    (feedbackTurns f s).out = s.out ∧ (feedbackTurns f s).alightStation = s.alightStation ∧
    (feedbackTurns f s).boardStation = s.boardStation ∧ (feedbackTurns f s).poller = s.poller ∧
    (feedbackTurns f s).results = s.results ∧ (feedbackTurns f s).masts = s.masts ∧
    (feedbackTurns f s).wind = s.wind ∧ (feedbackTurns f s).trace = s.trace ∧
    (feedbackTurns f s).rx = s.rx ∧ (feedbackTurns f s).driveQueue = s.driveQueue ∧
    (feedbackTurns f s).requests = s.requests ∧ (feedbackTurns f s).timers = s.timers ∧
    (feedbackTurns f s).freeCount = s.freeCount ∧ (feedbackTurns f s).pending = s.pending := by
  simp [feedbackTurns]

/-- The copy of a FEEDBACK queued (R175). -/
@[simp] theorem forwardFeedback_frame (f : FeedbackFields) (n : Nat) :
    (forwardFeedback f n s).ms = s.ms ∧ (forwardFeedback f n s).modeRec = s.modeRec ∧
    (forwardFeedback f n s).ride = s.ride ∧ (forwardFeedback f n s).zone = s.zone ∧
    (forwardFeedback f n s).windTable = s.windTable ∧ (forwardFeedback f n s).pollParams = s.pollParams ∧
    (forwardFeedback f n s).pollEntries = s.pollEntries ∧ (forwardFeedback f n s).passList = s.passList ∧
    (forwardFeedback f n s).profiles = s.profiles ∧ (forwardFeedback f n s).req = s.req ∧
    (forwardFeedback f n s).expiries = s.expiries ∧ (forwardFeedback f n s).out = s.out ∧
    (forwardFeedback f n s).fb = s.fb ∧ (forwardFeedback f n s).still = s.still ∧
    (forwardFeedback f n s).tracker = s.tracker ∧ (forwardFeedback f n s).cabins = s.cabins ∧
    (forwardFeedback f n s).alightStation = s.alightStation ∧
    (forwardFeedback f n s).boardStation = s.boardStation ∧ (forwardFeedback f n s).poller = s.poller ∧
    (forwardFeedback f n s).results = s.results ∧ (forwardFeedback f n s).masts = s.masts ∧
    (forwardFeedback f n s).wind = s.wind ∧ (forwardFeedback f n s).trace = s.trace ∧
    (forwardFeedback f n s).holds = s.holds ∧ (forwardFeedback f n s).causes = s.causes ∧
    (forwardFeedback f n s).snaps = s.snaps ∧ (forwardFeedback f n s).run = s.run ∧
    (forwardFeedback f n s).rx = s.rx ∧ (forwardFeedback f n s).driveQueue = s.driveQueue ∧
    (forwardFeedback f n s).requests = s.requests ∧ (forwardFeedback f n s).waitTag = s.waitTag ∧
    (forwardFeedback f n s).timers = s.timers ∧ (forwardFeedback f n s).pending = s.pending := by
  unfold forwardFeedback; repeat' split
  all_goals simp

/-- A FEEDBACK taken (R15, R175). -/
@[simp] theorem takeFeedback_frame (f : FeedbackFields) :
    (takeFeedback f s).ms = s.ms ∧ (takeFeedback f s).modeRec = s.modeRec ∧
    (takeFeedback f s).ride = s.ride ∧ (takeFeedback f s).zone = s.zone ∧
    (takeFeedback f s).windTable = s.windTable ∧ (takeFeedback f s).pollParams = s.pollParams ∧
    (takeFeedback f s).pollEntries = s.pollEntries ∧ (takeFeedback f s).passList = s.passList ∧
    (takeFeedback f s).profiles = s.profiles ∧ (takeFeedback f s).expiries = s.expiries ∧
    (takeFeedback f s).out = s.out ∧ (takeFeedback f s).alightStation = s.alightStation ∧
    (takeFeedback f s).boardStation = s.boardStation ∧ (takeFeedback f s).poller = s.poller ∧
    (takeFeedback f s).results = s.results ∧ (takeFeedback f s).masts = s.masts ∧
    (takeFeedback f s).wind = s.wind ∧ (takeFeedback f s).trace = s.trace ∧ (takeFeedback f s).rx = s.rx ∧
    (takeFeedback f s).driveQueue = s.driveQueue ∧ (takeFeedback f s).requests = s.requests ∧
    (takeFeedback f s).timers = s.timers ∧ (takeFeedback f s).pending = s.pending := by
  simp [takeFeedback]

/-- The feedback timeout (R18). -/
@[simp] theorem feedbackSilent_frame :
    (feedbackSilent s).ms = s.ms ∧ (feedbackSilent s).modeRec = s.modeRec ∧
    (feedbackSilent s).ride = s.ride ∧ (feedbackSilent s).zone = s.zone ∧
    (feedbackSilent s).windTable = s.windTable ∧ (feedbackSilent s).pollParams = s.pollParams ∧
    (feedbackSilent s).pollEntries = s.pollEntries ∧ (feedbackSilent s).passList = s.passList ∧
    (feedbackSilent s).profiles = s.profiles ∧ (feedbackSilent s).expiries = s.expiries ∧
    (feedbackSilent s).out = s.out ∧ (feedbackSilent s).tracker = s.tracker ∧
    (feedbackSilent s).alightStation = s.alightStation ∧ (feedbackSilent s).boardStation = s.boardStation ∧
    (feedbackSilent s).poller = s.poller ∧ (feedbackSilent s).results = s.results ∧
    (feedbackSilent s).masts = s.masts ∧ (feedbackSilent s).wind = s.wind ∧
    (feedbackSilent s).trace = s.trace ∧ (feedbackSilent s).rx = s.rx ∧
    (feedbackSilent s).driveQueue = s.driveQueue ∧ (feedbackSilent s).requests = s.requests ∧
    (feedbackSilent s).timers = s.timers ∧ (feedbackSilent s).freeCount = s.freeCount ∧
    (feedbackSilent s).pending = s.pending := by
  simp [feedbackSilent]

end Sys2Proof.Machine
end

