-- ==== Sys2Proof/Laws/Operands.lean ====
section
/-! SUPPORT. Big-endian fields: cutting and laying out are inverse (00_scope, Numbers and bytes). -/

namespace Sys2Proof.Machine

@[simp] theorem byte_toNat (b : Byte) : byte b.toNat = b := by simp [byte]

@[simp] theorem toNat_byte (n : Nat) : (byte n).toNat = n % 256 := by simp [byte]

@[simp] theorem be2_length (n : Nat) : (be2 n).length = 2 := rfl

@[simp] theorem be4_length (n : Nat) : (be4 n).length = 4 := rfl

@[simp] theorem signed2_length (z : Int) : (signed2 z).length = 2 := rfl

@[simp] theorem beField_length (w n : Nat) : (beField w n).length = w := by
  induction w with
  | zero => rfl
  | succ w ih => simp [beField, ih]

/-- A field read with bytes before it adds them above. -/
theorem foldl_bytes (bs : List Byte) (a : Nat) :
    bs.foldl (fun a b => a * 256 + b.toNat) a = a * 256 ^ bs.length + natOf bs := by
  induction bs generalizing a with
  | nil => simp [natOf]
  | cons b bs ih =>
    simp only [natOf, List.foldl_cons, List.length_cons, Nat.pow_succ] at *
    rw [ih, ih (0 * 256 + b.toNat)]
    ring

theorem natOf_cons (b : Byte) (bs : List Byte) :
    natOf (b :: bs) = b.toNat * 256 ^ bs.length + natOf bs := by
  rw [natOf, List.foldl_cons, foldl_bytes]
  simp

theorem natOf_lt (bs : List Byte) : natOf bs < 256 ^ bs.length := by
  induction bs with
  | nil => simp [natOf]
  | cons b bs ih =>
    rw [natOf_cons, List.length_cons, Nat.pow_succ]
    have : b.toNat < 256 := b.isLt
    nlinarith [Nat.pow_pos (n := bs.length) (show 0 < 256 by decide)]

/-- A number laid out in a field is read back, cut to the field. -/
theorem natOf_beField (w n : Nat) : natOf (beField w n) = n % 256 ^ w := by
  induction w with
  | zero => simp [beField, natOf, Nat.mod_one]
  | succ w ih =>
    rw [beField, natOf_cons, ih, beField_length, toNat_byte, Nat.pow_succ]
    rw [Nat.mod_mul]
    ring

/-- The bytes of a field are the layout of the number they hold. -/
theorem beField_natOf (bs : List Byte) : beField bs.length (natOf bs) = bs := by
  induction bs with
  | nil => rfl
  | cons b bs ih =>
    have h := natOf_lt bs
    have hp : 0 < 256 ^ bs.length := Nat.pow_pos (by decide)
    rw [List.length_cons, beField, natOf_cons]
    congr 1
    · rw [Nat.mul_comm, Nat.mul_add_div hp, Nat.div_eq_of_lt h]
      simp
    · have : ∀ (w m a : Nat), w ≤ bs.length → beField w (a * 256 ^ bs.length + m) = beField w m := by
        intro w
        induction w with
        | zero => intros; rfl
        | succ w ihw =>
          intro m a hw
          rw [beField, beField, ihw m a (by omega)]
          congr 1
          obtain ⟨k, hk⟩ := Nat.exists_eq_add_of_le (show w + 1 ≤ bs.length from hw)
          have hs : a * 256 ^ bs.length = 256 ^ w * (a * 256 ^ k * 256) := by
            rw [hk, Nat.pow_add, Nat.pow_succ]; ring
          rw [hs, Nat.mul_add_div (Nat.pow_pos (by decide))]
          simp [byte, BitVec.ofNat_add, BitVec.ofNat_mul]
      rw [this _ _ _ (Nat.le_refl _), ih]

@[simp] theorem layFields_length (ws ns : List Nat) (h : ws.length = ns.length) :
    (layFields ws ns).length = ws.sum := by
  induction ws generalizing ns with
  | nil => cases ns <;> rfl
  | cons w ws ih =>
    cases ns with
    | nil => simp at h
    | cons n ns => simp [layFields, ih ns (by simpa using h)]

/-- Fields laid out are cut back to the numbers, each within its field. -/
theorem cutFields_layFields (ws ns : List Nat) (h : ws.length = ns.length)
    (hn : ∀ x ∈ ws.zip ns, x.2 < 256 ^ x.1) : cutFields ws (layFields ws ns) = ns := by
  induction ws generalizing ns with
  | nil => cases ns with
    | nil => rfl
    | cons n ns => simp at h
  | cons w ws ih =>
    cases ns with
    | nil => simp at h
    | cons n ns =>
      have h1 : n < 256 ^ w := hn (w, n) (by simp)
      simp only [layFields, cutFields]
      rw [List.take_left' (by simp), List.drop_left' (by simp), natOf_beField,
        Nat.mod_eq_of_lt h1, ih ns (by simpa using h)
          (fun x hx => hn x (by simp [hx]))]

/-- A run of bytes is the layout of the fields cut from it. -/
theorem layFields_cutFields (ws : List Nat) (bs : List Byte) (h : bs.length = ws.sum) :
    layFields ws (cutFields ws bs) = bs := by
  induction ws generalizing bs with
  | nil =>
    have : bs = [] := by simpa using h
    subst this; rfl
  | cons w ws ih =>
    simp only [List.sum_cons] at h
    simp only [cutFields, layFields]
    rw [ih (bs.drop w) (by simp [h])]
    have : (bs.take w).length = w := by simp [h]
    calc beField w (natOf (bs.take w)) ++ bs.drop w
        = beField (bs.take w).length (natOf (bs.take w)) ++ bs.drop w := by rw [this]
      _ = bs := by rw [beField_natOf, List.take_append_drop]

end Sys2Proof.Machine
end

