-- ==== Sys2Proof/Laws/State.lean ====
section
/-! SUPPORT. What each update of the state writes: one lemma per written field, true by unfolding, for
simp.  What an update leaves as it was stands in Laws/Frames.lean. -/

namespace Sys2Proof.Machine

variable (s : State)

/-! ### Flags and queues -/

@[simp] theorem latch_latched (e : Event) : (latch e s).latched = s.latched.with e := rfl

@[simp] theorem latchIf_true (e : Event) : latchIf true e s = latch e s := rfl

@[simp] theorem latchIf_false (e : Event) : latchIf false e s = s := rfl

/-- An event put in the set is in it, and no other event changes. -/
@[simp] theorem LatchedSet.has_with (l : LatchedSet) (e f : Event) :
    (l.with e).has f = (f == e || l.has f) := by
  cases e <;> cases f <;> rfl

@[simp] theorem LatchedSet.has_clear (e : Event) : LatchedSet.clear.has e = false := by
  cases e <;> rfl

@[simp] theorem queueFrames_consoleQueue (fs : List Frame) :
    (queueFrames fs s).consoleQueue = s.consoleQueue ++ fs := rfl

@[simp] theorem reply_consoleQueue (code tag : Byte) (st : Status) (data : List Byte) :
    (reply code tag st data s).consoleQueue = s.consoleQueue ++ replyParts code tag st data := rfl

/-! ### Runs -/

@[simp] theorem startStep_stepStart : (startStep s).run.stepStart = s.ms := rfl

@[simp] theorem startStep_travel : (startStep s).run.travel = 0 := rfl

@[simp] theorem startStep_ordersInStep : (startStep s).run.ordersInStep = false := rfl

@[simp] theorem startStep_running : (startStep s).run.running = s.run.running := rfl

@[simp] theorem startStep_profile : (startStep s).run.profile = s.run.profile := rfl

@[simp] theorem startStep_step : (startStep s).run.step = s.run.step := rfl

@[simp] theorem startStep_repeats : (startStep s).run.repeats = s.run.repeats := rfl

@[simp] theorem startStep_begunNow : (startStep s).run.begunNow = true := rfl

@[simp] theorem startStep_durationTimer :
    (startStep s).run.durationTimer = some (s.after s.currentStep.maxDuration) := rfl

@[simp] theorem startStep_currentStep : (startStep s).currentStep = s.currentStep := rfl

@[simp] theorem startStep_allEmpty : (startStep s).allEmpty = s.allEmpty := rfl

/-! ### Holds -/

@[simp] theorem testReport_causes (c : CauseStates) : (testReport c s).causes = c := rfl

@[simp] theorem testReport_holds (c : CauseStates) :
    (testReport c s).holds = s.holds.map fun h => { h with present := presentFlag h.source c } := rfl

@[simp] theorem removeEntry_holds (src : HoldSource) :
    (removeEntry src s).holds = s.holds.filter fun h => h.source != src := rfl

@[simp] theorem putEntry_holds (e : HoldEntry) :
    (putEntry e s).holds = s.holds.map fun h => if h.source = e.source then e else h := rfl

@[simp] theorem barBoarding_cabins : (barBoarding s).cabins =
    s.cabins.map fun c => if c.state = .boarding then { c with entryBarred := true } else c := rfl

/-- The tests of the state after they have been reported are the tests before. -/
@[simp] theorem retest_tests : (retest s).tests = s.tests := rfl

@[simp] theorem retest_causes : (retest s).causes = s.tests := rfl

@[simp] theorem retest_holds : (retest s).holds =
    s.holds.map fun h => { h with present := presentFlag h.source s.tests } := rfl

/-! ### Cabins and stations -/

@[simp] theorem modifyCabin_cabins (k : Nat) (f : Cabin → Cabin) :
    (modifyCabin k f s).cabins = s.cabins.modify k f := rfl

@[simp] theorem writeStation_station (p q : Station) (r : StationRecord) :
    (writeStation p r s).station q = if q = p then r else s.station q := by
  cases p <;> cases q <;> rfl

/-! ### The receive buffers -/

@[simp] theorem setFieldBuffer_rx (b : ReceiveBuffer) :
    (setFieldBuffer b s).rx = { s.rx with field := b } := rfl

@[simp] theorem powerOn_rx : (powerOn s).rx = s.rx.cut := rfl

@[simp] theorem restart_rx : (restart s).rx = s.rx.cut := rfl

/-! ### The drive gate -/

@[simp] theorem driveOrder_out : (driveOrder s).out = s.orderRecord := rfl

@[simp] theorem driveOrder_driveQueue :
    (driveOrder s).driveQueue = s.driveQueue.withOrder s.orderFrame := rfl

@[simp] theorem driveOrder_timers :
    (driveOrder s).timers = { s.timers with drive := s.after s.ride.period } := rfl

@[simp] theorem withOrder_order (q : DriveQueue) (f : Frame) : (q.withOrder f).order = some f := by
  unfold DriveQueue.withOrder DriveQueue.started
  split <;> rfl

@[simp] theorem withOrder_aux (q : DriveQueue) (f : Frame) : (q.withOrder f).aux = q.aux := by
  unfold DriveQueue.withOrder DriveQueue.started
  split <;> rfl

@[simp] theorem withOrder_sending (q : DriveQueue) (f : Frame) :
    (q.withOrder f).sending = if q.sending = .free then .order else q.sending := by
  unfold DriveQueue.withOrder DriveQueue.started
  split <;> simp_all

/-! ### The clock and the resets -/

@[simp] theorem tick_ms : (tick s).ms = s.ms + 1 := rfl

@[simp] theorem tick_pending : (tick s).pending = s.pending := rfl

@[simp] theorem restart_ms : (restart s).ms = s.ms := rfl

@[simp] theorem restart_modeRec : (restart s).modeRec =
    { mode := s.modeRec.mode, checked := s.modeRec.checked, restartPending := false } := rfl

@[simp] theorem restart_cabins : (restart s).cabins = s.cabins.map Cabin.restarted := rfl

@[simp] theorem powerOn_pending : (powerOn s).pending = s.pending := rfl

@[simp] theorem powerOn_freeCount : (powerOn s).freeCount = s.freeCount := rfl

end Sys2Proof.Machine
end

