-- ==== Sys2Proof/Laws/Ops.lean ====
section
/-! SUPPORT. What each shared operation of the holds, runs and snapshots can do, said once: a proof about
a command cites these and does not unfold the operation. -/

namespace Sys2Proof.Machine

/-! ### The end of a run (R150, R153) -/

/-- The final reply puts the final parts behind the console queue and clears the marker. -/
theorem finalReply_eq (e : EndStatus) (s : State) :
    finalReply e s = { s with
      waitTag := none, consoleQueue := s.consoleQueue ++ s.finalParts (byte e.code) } := by
  unfold finalReply State.finalParts
  cases h : s.waitTag with
  | none => simp [← h]
  | some tag => cases e <;> rfl

/-- The end of a run, whole. -/
theorem endRun_eq (e : EndStatus) (s : State) :
    endRun e s = { s with
      run := { s.run with
        running := false, finalTime := (s.ms - s.run.stepStart).toNat, dwellTimer := none
        durationTimer := none, lastEnd := some e }
      req := { s.req with value := 0, armed := false, source := .console }
      waitTag := none
      consoleQueue := s.consoleQueue ++ s.finalParts (byte e.code) } := by
  rw [endRun, finalReply_eq]; rfl

/-- No step begun leaves a run that its profile does not have: `beginStep` starts the step, ends the run,
or goes on. -/
theorem beginStep_starts {fuel : Nat} {s : State}
    (h1 : s.cabinAtFails s.currentStep = false)
    (h2 : s.currentStep.kind ≠ .allEmpty ∨ s.allEmpty = false) :
    beginStep fuel s = startStep s := by
  cases fuel with
  | zero => rfl
  | succ n =>
    have h3 : (startStep s).cabinAtFails (startStep s).currentStep = false := h1
    have h4 : ((startStep s).currentStep.kind == .allEmpty && (startStep s).allEmpty) = false := by
      rw [startStep_currentStep, startStep_allEmpty]
      cases h2 with
      | inl h => simp [h]
      | inr h => simp [h]
    simp only [beginStep, h3, h4, Bool.false_eq_true, if_false]

/-- A step that begins with a failing cabin ends the run with FAULT (R152). -/
theorem beginStep_fails {fuel : Nat} {s : State} (h : s.cabinAtFails s.currentStep = true) :
    beginStep (fuel + 1) s = endRun .fault (startStep s) := by
  have h3 : (startStep s).cabinAtFails (startStep s).currentStep = true := h
  simp only [beginStep, h3, if_true]

/-- A change of a cabin's state is nothing to the profile unit while no run is RUNNING. -/
theorem cabinChanged_idle {s : State} (h : s.run.running = false) : cabinChanged s = s := by
  simp [cabinChanged, h]

/-- So is a cabin taken out of service. -/
theorem cabinTakenOut_idle {s : State} (k : Nat) (h : s.run.running = false) :
    cabinTakenOut k s = s := by
  simp [cabinTakenOut, cabinChanged, h]

/-! ### Snapshots (R132 to R134) -/

/-- The slot of an index after a write: the snapshot where the index names the same slot. -/
theorem SnapshotSlots.slot_write (k : SnapshotSlots) (i j : BitVec 2) (x : Snapshot) :
    (k.write i x).slot j = if i.getLsbD 0 = j.getLsbD 0 then some x else k.slot j := by
  unfold SnapshotSlots.slot SnapshotSlots.write
  cases hi : i.getLsbD 0 <;> cases hj : j.getLsbD 0 <;> simp

/-- The indexes do not change at a write. -/
@[simp] theorem SnapshotSlots.write_indexes (k : SnapshotSlots) (i : BitVec 2) (x : Snapshot) :
    (k.write i x).w = k.w ∧ (k.write i x).r = k.r := by
  unfold SnapshotSlots.write
  split <;> simp

/-- A capture with room: into the slot of the write index, which goes up (R133). -/
theorem capture_of_room {e : HoldEntry} {s : State} (h : s.snaps.unread < 2) :
    capture e s = { s with
      snaps := { s.snaps.write s.snaps.w (snapshotOf e false s) with w := s.snaps.w + 1 } } := by
  simp [capture, h]

/-- A capture without room: over the newer unread snapshot, with SNAPSHOT_SUPERSEDED (R134). -/
theorem capture_of_full {e : HoldEntry} {s : State} (h : 2 ≤ s.snaps.unread) :
    capture e s = latch .snapshotSuperseded
      { s with snaps := s.snaps.write (s.snaps.w - 1) (snapshotOf e true s) } := by
  simp [capture, Nat.not_lt.mpr h]

/-- After a capture the newest snapshot is the one captured, superseding or not. -/
theorem capture_newest (e : HoldEntry) (s : State) :
    (capture e s).snaps.slot ((capture e s).snaps.w - 1) =
      some (snapshotOf e (decide (2 ≤ s.snaps.unread)) s) := by
  by_cases h : s.snaps.unread < 2
  · rw [capture_of_room h]
    have h2 : decide (2 ≤ s.snaps.unread) = false := by simp [h]
    rw [h2]
    have := SnapshotSlots.slot_write s.snaps s.snaps.w (s.snaps.w + 1 - 1) (snapshotOf e false s)
    simp only [show s.snaps.w + 1 - 1 = s.snaps.w by simp, if_true] at this
    simpa [SnapshotSlots.slot] using this
  · have h' : 2 ≤ s.snaps.unread := Nat.le_of_not_lt h
    rw [capture_of_full h']
    simp only [latch, decide_eq_true h', (SnapshotSlots.write_indexes _ _ _).1]
    rw [SnapshotSlots.slot_write]
    simp

/-! ### Holds (R117 to R126) -/

/-- What a STOP leaves, whatever was running: no arming and no run (R126). -/
theorem stopEffects_stops (e : HoldEntry) (s : State) :
    (stopEffects e s).req.armed = false ∧ (stopEffects e s).run.running = false := by
  unfold stopEffects
  split
  · simp [endRun_eq]
  · next h => simp at h; simp [h]

/-- The snapshot that a STOP captures holds the source of the entry, the time, the last order setpoint
and the number of entries (R132). -/
theorem stopEffects_snapshot (e : HoldEntry) (s : State) :
    ∃ x, (stopEffects e s).snaps.slot ((stopEffects e s).snaps.w - 1) = some x ∧
      x.source = e.source ∧ x.cause = e.cause ∧ x.subject = e.subject ∧ x.cls = e.cls ∧
      x.time = s.ms ∧ x.setpoint = s.out.setpoint ∧ x.entries = s.holds.length := by
  unfold stopEffects
  refine ⟨_, capture_newest e _, ?_⟩
  split <;> simp [snapshotOf]

/-- A cause report of a source without an entry adds one (R117). -/
theorem causeReport_new {src : HoldSource} {cause : Nat} {cls : HoldClass} {subject : Option Nat}
    {s : State} (h : s.entry src = none) :
    causeReport src cause cls subject s =
      addEntry { source := src, cls := cls, cause := cause, subject := subject, time := s.ms,
                 latched := latchedForm src cause, present := presentFlag src s.causes } s := by
  simp only [causeReport, h]

/-- A cause report of a source with an entry writes it over in its place (R118 to R120). -/
theorem causeReport_old {src : HoldSource} {cause : Nat} {cls : HoldClass} {subject : Option Nat}
    {s : State} {old : HoldEntry} (h : s.entry src = some old) :
    causeReport src cause cls subject s =
      stopEffectsIf (old.cls != .stop && (reportedEntry old cause cls subject).cls == .stop)
        (reportedEntry old cause cls subject)
        (putEntry (reportedEntry old cause cls subject) s) := by
  simp only [causeReport, h]

/-- The effects of a STOP leave the hold list. -/
theorem stopEffectsIf_holds (c : Bool) (e : HoldEntry) (s : State) :
    (stopEffectsIf c e s).holds = s.holds := by
  simp

/-- An entry added stands at the end of the list. -/
theorem addEntry_holds (e : HoldEntry) (s : State) : (addEntry e s).holds = s.holds ++ [e] := by
  unfold addEntry
  rw [stopEffectsIf_holds]
  split <;> simp

/-- Every unlatched entry an absence report names is removed, and a latched one stays (R119). -/
theorem absenceReport_holds (src : HoldSource) (s : State) :
    (absenceReport src s).holds = s.holds ∨
      (absenceReport src s).holds = s.holds.filter fun h => h.source != src := by
  unfold absenceReport
  split
  · split
    · exact .inl rfl
    · exact .inr rfl
  · exact .inl rfl

/-- An entry of the list has its source. -/
theorem entry_source {s : State} {src : HoldSource} {e : HoldEntry} (h : s.entry src = some e) :
    e.source = src ∧ e ∈ s.holds := by
  unfold State.entry at h
  exact ⟨by simpa using List.find?_some h, List.mem_of_find?_eq_some h⟩

/-! ### Field-line frames (R83 to R85, R168) -/

/-- A frame discarded at its end leaves the field buffer empty, and latches FRAME_DISCARDED unless a
reset had cut it short. -/
theorem discardFieldFrame_eq (s : State) :
    discardFieldFrame s =
      { s with
        rx := { s.rx with field := .empty }
        latched := if s.rx.field = .lost then s.latched
                   else { s.latched with frameDiscarded := true } } := by
  unfold discardFieldFrame setFieldBuffer latch LatchedSet.with
  split <;> simp_all

/-- The end of a field-line frame judges the entry it settles, and otherwise discards the frame. -/
theorem fieldFrame_cases (raw : RawFrame) (s : State) :
    (∃ i, s.settledBy = some i ∧ fieldFrame raw s = settleFrame i raw (setFieldBuffer .empty s)) ∨
      (s.settledBy = none ∧ fieldFrame raw s = discardFieldFrame s) := by
  unfold fieldFrame
  cases h : s.settledBy with
  | none => exact .inr ⟨rfl, rfl⟩
  | some i => exact .inl ⟨i, rfl, rfl⟩

end Sys2Proof.Machine
end

