-- ==== Sys2Proof/Laws/Requests.lean ====
section
/-! SUPPORT. Requests served: when the responder takes a request as it arrives, how its reply is placed,
and which block serves each code.  A proof about a request cites these and never unfolds the request
buffer. -/

namespace Sys2Proof.Machine

/-! ### Replies (R173, R181) -/

/-- A reply of at most 55 bytes of data is one part. -/
theorem replyParts_one_part {code tag : Byte} {st : Status} {data : List Byte}
    (h : data.length ≤ 55) :
    replyParts code tag st data = [onePart code tag (byte st.code) data] := by
  simp only [replyParts, replyPartsFrom, if_pos h]
  rfl

/-- A reply of at most 55 bytes of data puts one frame behind the console queue. -/
theorem reply_one_part {code tag : Byte} {st : Status} {data : List Byte} {s : State}
    (h : data.length ≤ 55) :
    reply code tag st data s = s.queued [onePart code tag (byte st.code) data] := by
  rw [reply, replyParts_one_part h]; rfl

/-- A reply has one, two or three parts. -/
theorem replyParts_length_le (code tag : Byte) (st : Status) (data : List Byte) :
    1 ≤ (replyParts code tag st data).length ∧ (replyParts code tag st data).length ≤ 3 := by
  simp only [replyParts, replyPartsFrom]
  split
  · simp
  · split <;> simp

/-! ### Taking a request (R172) -/

/-- A request that arrives at a ready responder is taken in the event of its arrival. -/
theorem receiveRequest_of_ready {s : State} (h : s.ready) (r : Request) :
    receiveRequest r s = takeRequest r s := by
  obtain ⟨h1, h2, h3⟩ := h
  have hs : { s with requests := [] } = s := by rw [← h1]
  have hm : ∀ q, State.mayTake { s with requests := q } = true := by
    intro q
    have : State.freePlaces { s with requests := q } = s.freePlaces := rfl
    simp [State.mayTake, h2, this, h3]
  simp only [receiveRequest, h1, List.length_nil, Nat.zero_lt_two, if_true, List.nil_append,
    takeWaiting, List.length_cons, takeRequests, hm, hs, Nat.zero_add]

/-- A request row is the arrival of the REQUEST frame of its code. -/
theorem arrive_of_ready {s : State} (h : s.ready) (k : RequestKind) (tag : Byte)
    (args : List Byte) :
    arrive k tag args s = .next (placeReply k.code tag (serveKind k tag args s)) := by
  have hk : requestKindOf k.code = some k := by cases k <;> decide
  simp only [arrive, receiveRequest_of_ready h, takeRequest, serveRequest, hk]

/-- The reply of a request served with at most 55 bytes of data. -/
theorem placeReply_one_part {code tag : Byte} {st : Status} {data : List Byte} {t : State}
    (h : data.length ≤ 55) :
    placeReply code tag (some (st, data), t) =
      t.queued [onePart code tag (byte st.code) data] := by
  simp only [placeReply, reply_one_part h]

/-- The reply of a refused request carries its status and no data. -/
theorem placeReply_refused (code tag : Byte) (st : Status) (s : State) :
    placeReply code tag (refusedWith st s) = s.queued [onePart code tag (byte st.code) []] :=
  placeReply_one_part (by simp)

/-- The reply of a request served with OK and at most 55 bytes of data. -/
theorem placeReply_served {code tag : Byte} {data : List Byte} {t : State}
    (h : data.length ≤ 55) :
    placeReply code tag (served data t) = t.queued [onePart code tag 0 data] :=
  placeReply_one_part h

end Sys2Proof.Machine
end

