-- ==== Sys2Proof/Tests/Slice0.lean ====
section
/-! SUPPORT. Tests of the model: well-formedness, the figures that the spec works out, one event of each
command, and for each statement with hypotheses a state and operands that meet them.  Every expected
value is the spec's own or worked out by hand from its rule. -/

namespace Sys2Proof.Tests

set_option Elab.async false

open Sys2Proof Sys2Proof.Machine

/-! ### Small states -/

/-- The state a command leads to. -/
def after (c : Instr) (s : State) : State :=
  match exec c s with
  | .next t => t
  | _ => s

/-- The tables of the worked commit of chapter 8: N 32, speed 400, margin 600. -/
def rideTable : RideTable := { RideTable.default with n := 32, maxSpeed := 400, lockMargin := 600 }

def zoneTable : ZoneTable := ⟨21000, 22500, 24000, 30000, 38000, 40, 2⟩

def pollList : List PollEntry :=
  [⟨1, .mast, false⟩, ⟨2, .mast, false⟩, ⟨10, .alight, false⟩, ⟨11, .board, false⟩,
    ⟨20, .tagReader, true⟩] ++ List.replicate 11 PollEntry.unsetEntry

def mastAt (a : Nat) : Mast := { Mast.initial with address := a }

/-- An EMPTY cabin of capacity 8 whose tag starts with its number and 1. -/
def cabinOn (k : Nat) : Cabin :=
  { Cabin.notLoaded with
    tag := byte (k + 1) :: List.replicate 7 0, capacity := 8, inService := true, state := .empty }

/-- SETUP at standstill with the tables loaded. -/
def loaded : State :=
  { State.reset with
    ride := rideTable
    zone := zoneTable
    pollEntries := pollList
    masts := [mastAt 1, mastAt 2, Mast.initial, Mast.initial]
    cabins := (List.range 32).map cabinOn ++ List.replicate 32 Cabin.notLoaded
    still := ⟨some 0, true⟩ }

/-- SERVICE at 100 mm/s: armed, tracker LOCKED, the hold list empty, both stations FRESH. -/
def riding : State :=
  { loaded with
    ms := 10000
    modeRec := ⟨.service, true, false⟩
    req := ⟨100, true, 10000, false, .console⟩
    expiries := ⟨true, true⟩
    out := ⟨100000, 100, .release, 400, 50, 7⟩
    fb := ⟨.present, some 100, .released, 0, 10000, some 10100⟩
    still := ⟨none, false⟩
    tracker := ⟨.locked, true, 5000000, some 7, 0, some 5000000, .forward, none, 0, none, true⟩
    alightStation := ⟨none, false, .fresh⟩
    boardStation := ⟨none, false, .fresh⟩
    results := List.replicate 16 ⟨.answered, .fresh, 0, 0⟩
    holds := []
    timers := ⟨10020, 10250, 10250⟩ }

/-- Riding with cabin `k` in this record. -/
def withCabin (k : Nat) (c : Cabin) : State := { riding with cabins := riding.cabins.set k c }

/-- A cabin in ALIGHTING and one in BOARDING, the latter LOCKED with 3 riders shown. -/
def alighting : Cabin := { cabinOn 6 with state := .alighting, door := .notReported }

def boarding : Cabin :=
  { cabinOn 6 with state := .boarding, door := .locked, hasValid := true, zoneCount := 3 }

/-- Riding with the entry in flight at walked-list entry `i`, in this phase, a settling frame being
received. -/
def polling (phase : PollPhase) (i : Nat) : State :=
  { riding with
    poller := { Poller.initial with phase := phase, inFlight := some i, timer := some 10010 }
    rx := ⟨.empty, .empty, if phase = .settling then .receiving else .empty⟩ }

/-- Profile 0 of two DWELL steps and profile 1 of one CABIN_AT step for cabin 40, beyond N. -/
def dwellStep (last : Bool) : Step := ⟨50, 20, .dwell, 1000, 5000, last⟩

def profileTables : List (List Step) :=
  [[dwellStep false, dwellStep true] ++ List.replicate 14 Step.clearStep,
    ⟨50, 20, .cabinAt, 322, 5000, true⟩ :: List.replicate 15 Step.clearStep] ++
  List.replicate 6 (List.replicate 16 Step.clearStep)

/-- Riding with profiles stored, no run. -/
def profiled : State := { riding with profiles := profileTables }

/-- A run of profile 0 at step `k` with repeats left, waiting for its final reply with tag 9. -/
def running (k repeats : Nat) : State :=
  { profiled with
    run := { RunRecord.initial with
      running := true, profile := some 0, step := k, repeats := repeats, stepStart := 9000
      dwellTimer := some 10000, durationTimer := some 14000 }
    req := { riding.req with source := .profile }
    waitTag := some 9 }

/-- A frame as it comes off a line. -/
def received (f : Frame) : RawFrame := ⟨f.chars, true⟩

def feedbackAt (speed : Word16) (rim : Word32) : FeedbackFields :=
  { speed := speed, rim := rim, marker := false, latch := 0, released := true, status := 0 }

/-! ### Well-formed commands: one ill-formed term for each check -/

theorem test_wf_request_too_long :
    (Instr.request 1 0 (List.replicate 59 0)).wf = false := by decide

theorem test_wf_aux_on_field_line : (Instr.auxFrame .field 0x60 []).wf = false := by decide

theorem test_wf_aux_kind : (Instr.auxFrame .console 0x70 []).wf = false := by decide

theorem test_wf_aux_too_long :
    (Instr.auxFrame .drive 0x60 (List.replicate 61 0)).wf = false := by decide

theorem test_wf_discarded_frame_is_empty :
    (Instr.discardedFrame .console ⟨[], true⟩).wf = false := by decide

theorem test_wf_discarded_frame_passes :
    (Instr.discardedFrame .console (received ⟨0x10, 0, [0, 100]⟩)).wf = false := by
  decide +kernel

theorem test_wf_discarded_answer_passes :
    (Instr.discardedFrame .field (received ⟨0x51, 1, [0, 0, 0, 0, 0]⟩)).wf = false := by
  decide +kernel

theorem test_wf_empty_answers :
    (Instr.answer ⟨[], true⟩).wf = false ∧ (Instr.lateAnswer ⟨[], true⟩).wf = false ∧
    (Instr.unsolicitedFrame ⟨[], true⟩).wf = false := by decide

theorem test_wf_table_write_too_long :
    (Instr.tableWrite 0 1 0 (List.replicate 57 0)).wf = false := by decide

theorem test_wf_unknown_request_is_known : (Instr.unknownRequest 0x31 0 []).wf = false := by decide

theorem test_wf_good_commands :
    (Instr.auxFrame .drive 0x6F []).wf = true ∧ (Instr.unknownRequest 0x32 0 []).wf = true ∧
    (Instr.discardedFrame .drive ⟨[0], true⟩).wf = true := by decide +kernel

/-! ### The decoder: no row of the table gives bits -/

theorem test_no_word_spells_a_command : decodeTableWord 16 0x1234 = none := by decide

theorem test_withFetchWord_unchanged : State.reset.withFetchWord 16 0x1234 = State.reset := rfl

/-! ### Figures that the spec works out -/

/-- R169: the nine bytes 0x31 to 0x39. -/
theorem test_check_vector : check [0x31, 0x32, 0x33, 0x34, 0x35, 0x36, 0x37, 0x38, 0x39] = 0x29B1 := by
  decide +kernel

/-- R26, worked figures: 237 mm and 550 mm. -/
theorem test_stopping_distance :
    RideTable.default.stoppingDistance = 237 ∧ rideTable.stoppingDistance = 550 := by decide

/-- 1.4, start from rest: V waits for the brake, and then 400, 800, 1,200 give setpoints 0, 1, 1. -/
theorem test_ramp_start :
    moveV .applied 0 260000 400 = 0 ∧ moveV .released 0 260000 400 = 400 ∧
    [400, 800, 1200].map roundSetpoint = [0, 1, 1] := by decide

/-- R11: halves away from zero. -/
theorem test_round_halves :
    [499, 500, 1500, -499, -500, -1500].map roundSetpoint = [0, 1, 2, 0, -1, -2] := by decide

/-- 1.4, a reversal: Vt is 0 while V is of the other sign, and −30,000 from 0. -/
theorem test_reversal_through_zero :
    targetV 20000 (-30) = 0 ∧ moveV .released 200 0 600 = 0 ∧ targetV 0 (-30) = -30000 ∧
    moveV .released 0 (-30000) 400 = -400 := by decide

/-- 2.4, classification and misses: the tracker at I 7 and M 5,000,000 after each of the four frames. -/
theorem test_tracker_worked_sequence :
    let r := rideTable
    let t0 : Tracker :=
      ⟨.locked, true, 5000000, some 7, 0, some 5009000, .forward, none, 0, none, true⟩
    let f (rim : Word32) (latch : Option Word32) : FeedbackFields :=
      { feedbackAt 100 rim with marker := latch.isSome, latch := latch.getD 0 }
    let t1 := (t0.afterFrame r false (f 5010050 (some 5010040))).1
    let x2 := t1.afterFrame r false (f 5020150 none)
    let x3 := x2.1.afterFrame r false (f 5025010 (some 5025000))
    let t4 := (x3.1.afterFrame r false (f 5030030 (some 5030010))).1
    (t1.index, t1.m, t1.missStreak, t1.state) = (some 8, 5010040, 0, .locked) ∧
    (x2.1.index, x2.1.m, x2.1.missStreak, x2.1.state) = (some 9, 5020040, 1, .coasting) ∧
    x2.2 = (false, true) ∧ x3.2 = (true, false) ∧
    (x3.1.index, x3.1.m, x3.1.missStreak) = (some 9, 5020040, 1) ∧
    (t4.index, t4.m, t4.missStreak, t4.state) = (some 10, 5030010, 0, .locked) := by decide +kernel

/-- R35 to R37: the miss above the limit makes its synthetic crossing, and M moves with it, before LOST. -/
theorem test_last_miss_moves_m :
    let t : Tracker :=
      ⟨.coasting, true, 5000000, some 7, 2, some 5009000, .forward, none, 0, none, true⟩
    let u := (t.afterFrame rideTable false (feedbackAt 100 5010150)).1
    (u.state, u.m, u.index, u.missStreak) = (.lost, 5010000, none, 0) := by decide +kernel

/-- 2.4: the rim count wraps without effect. -/
theorem test_rim_count_wraps : rimDiff 4704 4294962000 = 10000 := by decide

/-- 2.4, a reversal at the sensor: I 4 and M 990,000, and a repeat had the frame come forward. -/
theorem test_reverse_crossing :
    let t : Tracker := ⟨.locked, true, 1000000, some 5, 0, some 1000010, .still, none, 0, none, true⟩
    let g : FeedbackFields := { feedbackAt 0 999950 with marker := true, latch := 1000020 }
    let u := (t.afterFrame rideTable false g).1
    (u.index, u.m, u.travel rideTable 4) = (some 4, 990000, some 9950) ∧
    ((t.afterFrame rideTable false { g with rim := 1000030 }).1.index) = some 5 := by decide +kernel

/-- 2.5, assignment: reads of cabin 30 at x 1,800 and 1,865 assign index 0. -/
theorem test_index_assignment :
    windowShift 1800 10000 zoneTable = some 2 ∧ windowShift 1865 10000 zoneTable = some 2 ∧
    roundRim (30 + 2) 32 = 0 ∧ windowShift 3000 10000 zoneTable = none := by decide

/-- 2.6: two mismatches of shift 1 send the tracker SEARCHING with the phase kept. -/
theorem test_same_shift_mismatch :
    let t := riding.tracker.lockedOutcome (.mismatch 1)
    (t.mismatch, t.state) = (some 1, .locked) ∧
    (t.lockedOutcome (.mismatch 1)).state = .searching ∧
    (t.lockedOutcome (.mismatch 1)).phaseKnown = true := by decide +kernel

/-- 3.3, two windows: 13 once and 14 twice is MISMATCH with shift 1, 13 twice is MATCH. -/
theorem test_two_windows :
    let w := [14, 13, 14].foldl (fun w j => w.count 13 j) { IdWindow.closed with isOpen := true }
    (w.matching, w.other, w.otherReads) = (1, some 14, 2) ∧
    judgeWindow 32 2 13 w = .mismatch 1 ∧ judgeWindow 32 2 13 (w.count 13 13) = .matched := by decide

/-- 5.1, one mast: the corrections 176 and 700, one step of the mean, and the mean leaning high. -/
theorem test_mast_figures :
    ({ mastAt 1 with factor := 300 }).corrected 150 = 176 ∧ (mastAt 1).corrected 700 = 700 ∧
    ({ mastAt 1 with halves := true }).normalised 150 = 750 ∧
    ({ mastAt 1 with seeded := true, acc := 1600 }).accAfter 4 160 = 1660 ∧
    ({ mastAt 1 with seeded := true, acc := 1660 }).mean = 104 ∧
    ({ mastAt 1 with seeded := true, acc := 1592 }).accAfter 4 99 = 1592 := by decide

/-- 5.1, a gust window of 3. -/
theorem test_gust_window :
    [120, 180, 130, 125, 118].foldl (fun w x => windowAfter 3 x w) [] = [118, 125, 130] := by decide

/-- 5.3, a rise and a fall: the record after each of the seven cycles. -/
theorem test_level_sequence :
    let step (w : WindRecord) (g : Nat × Nat) :=
      WindRecord.stepLevel { w with govMean := g.1, govGust := g.2 } WindTable.default
    let show' (w : WindRecord) := (w.up, w.runMin, w.down, w.level)
    ([[(120, 255)], [(120, 255), (125, 210)],
      [(120, 255), (125, 210), (130, 260), (130, 190)],
      [(120, 255), (125, 210), (130, 260), (130, 190), (125, 180)],
      [(120, 255), (125, 210), (130, 260), (130, 190), (125, 180), (128, 186)]].map
        fun gs => show' (gs.foldl step WindRecord.initial)) =
      [(1, some .hold, 0, .calm), (0, none, 0, .restrict), (0, none, 0, .restrict),
        (0, none, 1, .restrict), (0, none, 0, .restrict)] := by decide

/-- 5.4, appending: the entries after the ten cycles. -/
def workedTrace : WindTrace :=
  let t6 := ([150, 153, 151, 151, 160].foldl (fun t v => t.cycleEnd v .calm .calm)
    WindTrace.initial).cycleEnd 162 .calm .restrict
  ((t6.cycleEnd 158 .restrict .restrict).gapEnd.gapEnd).cycleEnd 155 .restrict .restrict

theorem test_trace_appending : workedTrace.entries =
    [.full 150, .delta [3, -2, 0], .full 160, .delta [2], .level .restrict, .delta [-4], .gap,
      .full 155] := by decide +kernel

/-- 5.4, taking: three entries and then one. -/
theorem test_trace_taking :
    (workedTrace.dropMany 3).repaired.entries =
      [.full 162, .level .restrict, .delta [-4], .gap, .full 155] ∧
    (((workedTrace.dropMany 3).repaired.dropMany 1).repaired.entries) =
      [.level .restrict, .full 158, .gap, .full 155] := by decide +kernel

/-- 5.4, trimming: FULL 150 removed and DELTA (+3, −2, 0) become FULL 151, on a shorter trace. -/
theorem test_trace_trimming :
    ({ WindTrace.initial with entries := [.full 150, .delta [3, -2, 0]], last := some 151 }
      : WindTrace).dropOldest.repaired.entries = [.full 151] := by decide

/-- 6.6, a burst of stops: w, r and the unread count after the captures A to C. -/
theorem test_burst_of_stops :
    let e : HoldEntry := ⟨.platform, .stop, 1, some 10, 0, true, true⟩
    let s := capture e (capture e (capture e State.reset))
    (s.snaps.w, s.snaps.r, s.snaps.unread) = (2, 0, 2) ∧
    (s.snaps.slot1.map fun x => x.superseded) = some true ∧
    s.latched.snapshotSuperseded = true := by decide +kernel

/-- 8.3, two refused commits: check 4 fails with margin 500 and with speed 600. -/
theorem test_commit_checks :
    loaded.commitFailure = none ∧
    { loaded with ride := { rideTable with lockMargin := 500 } }.commitFailure = some 4 ∧
    { loaded with ride := { rideTable with maxSpeed := 600 } }.commitFailure = some 4 ∧
    { loaded with still := ⟨none, false⟩ }.commitFailure = some 11 := by decide +kernel

/-- 9.6, a crowded console queue: 13 frames and the marker leave 2 places, so the request waits. -/
theorem test_crowded_queue :
    let s := { running 0 0 with consoleQueue := List.replicate 13 ⟨0x20, 0, []⟩ }
    s.freePlaces = 2 ∧ s.hasRoom = true ∧
    (after (.holdList 40) s).requests = [⟨0x1A, 40, []⟩] ∧
    (after .consoleFrameSent (after (.holdList 40) s)).requests = [] := by decide +kernel

/-! ### One event of each command -/

/-- R165: the state of a ride is gone, and the drive order timer starts with 20 ms. -/
theorem test_resetn :
    (after .resetn riding).holds = resetHolds 0 ∧ (after .resetn riding).timers = ⟨20, 250, 250⟩ := by
  decide +kernel

/-- R2: 600 is cut to 400, and a zero arms. -/
theorem test_setpoint :
    (after (.setpoint 600) riding).req.value = 400 ∧
    (after (.setpoint 600) riding).latched.setpointClamped = true ∧
    (after (.setpoint 0) { riding with req := { riding.req with armed := false } }).req.armed =
      true := by decide +kernel

/-- R2: no arming while a STOP entry stands. -/
theorem test_setpoint_under_stop :
    let s := after (.holdPlace 1 4) riding
    s.req.armed = false ∧ (after (.setpoint 0) s).req.armed = false := by decide +kernel

/-- R60: cabin 5, at 20,000 + 4,000, crosses a_start when the count goes up by 10. -/
theorem test_feedback_crosses_a_start :
    let s := { riding with tracker := { riding.tracker with lastRim := some 5003995 } }
    ((after (.feedback (feedbackAt 100 5004005)) s).cabin 5).state = .alighting := by decide +kernel

/-- R17, R117: FAULT 17 adds a DRIVE entry at STOP with its cause present. -/
theorem test_feedback_fault :
    (after (.feedback { feedbackAt 0 5000000 with status := 17 }) riding).holds =
      [⟨.drive, .stop, 2, some 17, 10000, true, true⟩] := by decide +kernel

theorem test_request_is_the_row :
    after (.request 0x18 5 [2]) riding = after (.holdPlace 5 2) riding := by decide +kernel

/-- R177: passed to the drive line, and not passed without an element. -/
theorem test_auxFrame :
    let s := { riding with passList := ⟨0x61, 3, false, true⟩ :: List.replicate 7 PassElement.unsetElement }
    (after (.auxFrame .console 0x61 [1]) s).driveQueue = ⟨none, [⟨0x61, 0, [1]⟩], .aux⟩ ∧
    (after (.auxFrame .drive 0x62 [1]) s).latched.frameDiscarded = true := by decide +kernel

theorem test_discardedFrame :
    (after (.discardedFrame .drive ⟨[0x31, 0, 0, 1, 2], true⟩) riding).latched.frameDiscarded =
      true := by decide +kernel

/-- R94: mast 1 answers 150 at 270 degrees while FRESH. -/
theorem test_answer :
    let s := { polling .settling 0 with
      masts := [{ mastAt 1 with freshness := .fresh }, mastAt 2, Mast.initial, Mast.initial] }
    let t := after (.answer (received ⟨0x51, 1, [0, 150, 1, 14, 0]⟩)) s
    (t.masts.map fun m => (m.lastRaw, m.lastDirection, m.mean)).head? =
      some (some 150, some 270, 150) ∧ t.poller.inFlight = some 1 := by decide +kernel

/-- R84: a frame of the wrong address settles the entry BAD. -/
theorem test_answer_bad :
    let t := after (.answer (received ⟨0x51, 3, [0, 150, 1, 14, 0]⟩)) (polling .settling 0)
    (t.result 0).last = .bad ∧ t.latched.frameDiscarded = true := by decide +kernel

theorem test_lateAnswer :
    (after (.lateAnswer ⟨[1], true⟩) (polling .lateWindow 0)).latched.frameDiscarded = true := by
  decide +kernel

theorem test_unsolicitedFrame :
    (after (.unsolicitedFrame ⟨[1], true⟩) riding).latched.frameDiscarded = true := by decide +kernel

theorem test_replyWaitExpiry :
    let t := after .replyWaitExpiry (polling .replyWait 0)
    (t.result 0).last = .noAnswer ∧ t.poller.timer = some 10020 := by decide +kernel

theorem test_lateWindowEnd :
    (after .lateWindowEnd (polling .lateWindow 0)).poller.inFlight = some 1 ∧
    (after .lateWindowEnd (polling .lateWindow 4)).poller.phase = .idle := by decide +kernel

theorem test_settlingFrameOverrun :
    ((after .settlingFrameOverrun (polling .settling 1)).result 1).last = .bad := by decide +kernel

/-- R67, R68: the board station is shown cabin 6 with its door released at 100 mm/s. -/
theorem test_poll :
    let s := { withCabin 6 boarding with poller := (polling .toPoll 3).poller }
    (after .poll s).poller.lastPoll = some ⟨0x50, 11, [6, 1, 0]⟩ ∧
    (after .poll s).boardStation.shown = some 6 := by decide +kernel

theorem test_pollTimerExpiry :
    (after .pollTimerExpiry riding).poller.inFlight = some 0 ∧
    (after .pollTimerExpiry (polling .replyWait 1)).latched.pollOverrun = true := by decide +kernel

/-- R9, R10: at 100 mm/s asked for 100, V stays, and the order carries sequence count 7. -/
theorem test_drivePeriodExpiry :
    (after .drivePeriodExpiry riding).driveQueue.order = some ⟨0x30, 0, [0, 100, 1, 0, 7]⟩ ∧
    (after .drivePeriodExpiry riding).timers.drive = 10020 := by decide +kernel

/-- 1.4, a STOP at speed: V falls by 150 × 20. -/
theorem test_drivePeriodExpiry_stop :
    (after .drivePeriodExpiry (after (.holdPlace 1 4) riding)).out.v = 97000 := by decide +kernel

theorem test_staleExpiry : (after .staleExpiry riding).req.stale = true := by decide +kernel

theorem test_lossExpiry :
    (after .lossExpiry riding).holds = [⟨.command, .stop, 1, none, 10000, false, true⟩] := by
  decide +kernel

theorem test_feedbackTimeout :
    (after .feedbackTimeout riding).holds = [⟨.drive, .stop, 1, none, 10000, true, true⟩] := by
  decide +kernel

theorem test_statusPeriodExpiry :
    ((after .statusPeriodExpiry riding).consoleQueue.map fun f => (f.kind, f.payload.length)) =
      [(0x20, 33)] := by decide +kernel

/-- R148: the next step, and after the last COMPLETE. -/
theorem test_dwellTimerExpiry :
    (after .dwellTimerExpiry (running 0 0)).run.step = 1 ∧
    (after .dwellTimerExpiry (running 1 0)).run.lastEnd = some .complete := by decide +kernel

/-- R149, R153: TIMEOUT, and the final reply of profile 0 at step 1 with 2 repeats left. -/
theorem test_durationTimerExpiry :
    (after .durationTimerExpiry (running 1 2)).consoleQueue =
      [⟨0x21, 0, [0x20, 9, 0, 1, 19, 0, 1, 2]⟩] := by decide +kernel

/-- R167: the tables stay and the entries take the ms counter. -/
theorem test_restartTakesEffect :
    let t := after .restartTakesEffect
      { loaded with modeRec := ⟨.setup, true, true⟩, ms := 777 }
    t.ride = rideTable ∧ t.holds = resetHolds 777 ∧ t.modeRec = ⟨.setup, true, false⟩ := by
  decide +kernel

theorem test_consoleFrameSent :
    (after .consoleFrameSent { riding with consoleQueue := [⟨0x20, 0, []⟩, ⟨0x21, 0, []⟩] }).consoleQueue
      = [⟨0x21, 0, []⟩] := by decide +kernel

/-- R176: an order goes before the AUX frame that waits. -/
theorem test_driveFrameSent :
    (after .driveFrameSent { riding with driveQueue :=
      ⟨some ⟨0x30, 0, []⟩, [⟨0x60, 0, []⟩, ⟨0x61, 0, []⟩], .aux⟩ }).driveQueue =
      ⟨some ⟨0x30, 0, []⟩, [⟨0x61, 0, []⟩], .order⟩ := by decide +kernel

/-- 10.3, reading and clearing. -/
theorem test_statusRead :
    let s := latch .frameDiscarded (latch .sampleSaturated riding)
    s.latched.bits = 260 ∧ (after (.statusRead 3) s).latched = LatchedSet.clear := by decide +kernel

theorem test_modeSetService :
    (after (.modeSetService 3) loaded).modeRec = ⟨.service, true, false⟩ ∧
    (after (.modeSetService 3) loaded).consoleQueue = [⟨0x21, 0, [2, 3, 0, 1, 0]⟩] := by
  decide +kernel

theorem test_modeSetService_invalid :
    (after (.modeSetService 3) State.reset).consoleQueue = [⟨0x21, 0, [2, 3, 0, 1, 9, 1]⟩] := by
  decide +kernel

theorem test_modeSetSetup :
    (after (.modeSetSetup 3) riding).consoleQueue = [⟨0x21, 0, [2, 3, 0, 1, 4]⟩] ∧
    (after (.modeSetSetup 3) { riding with out := OutputRecord.initial, still := ⟨some 0, true⟩
      }).modeRec.mode = .setup := by decide +kernel

/-- R166: pending in SETUP, MODE in SERVICE; the restart takes effect as its reply is sent. -/
theorem test_restart :
    (after (.restart 3) riding).consoleQueue = [⟨0x21, 0, [3, 3, 0, 1, 3]⟩] ∧
    (after .consoleFrameSent (after (.restart 3) loaded)).modeRec.restartPending = false ∧
    (after .consoleFrameSent (after (.restart 3) loaded)).still = ⟨none, false⟩ := by decide +kernel

/-- R157: the ZONE table is written in SETUP and refused in SERVICE. -/
theorem test_tableWrite :
    (after (.tableWrite 3 2 0 (zoneBytes zoneTable)) State.reset).zone = zoneTable ∧
    (after (.tableWrite 3 2 0 (zoneBytes zoneTable)) State.reset).modeRec.checked = false ∧
    (after (.tableWrite 3 2 0 []) riding).consoleQueue = [⟨0x21, 0, [8, 3, 0, 1, 3]⟩] := by
  decide +kernel

/-- R49, R90: cabins 62 and 63 are loaded, and the 17 POLL elements fit one write of 53 bytes. -/
theorem test_tableWrite_elements :
    let cabin : List Byte := [1, 2, 3, 4, 5, 6, 7, 8, 20, 1]
    ((after (.tableWrite 3 3 62 (cabin ++ cabin)) State.reset).cabins.map fun c => c.capacity).drop 61 =
      [0, 20, 20] ∧
    (after (.tableWrite 3 6 0 (pollParamsBytes PollParams.default ++
      pollList.flatMap pollEntryBytes)) State.reset).pollEntries = pollList := by decide +kernel

/-- R159: element 4 of the POLL table with the mark. -/
theorem test_tableRead :
    (after (.tableRead 3 6 4 1) riding).consoleQueue =
      [⟨0x21, 0, [9, 3, 0, 1, 0, 6, 4, 1, 1, 11, 3, 0]⟩] := by decide +kernel

/-- R187, R173: eight cabins are 118 bytes in three parts. -/
theorem test_cabinRead :
    ((after (.cabinRead 3 56 8) riding).consoleQueue.map fun f => f.payload.length) = [60, 60, 13] ∧
    (after (.cabinRead 3 57 8) riding).consoleQueue = [⟨0x21, 0, [16, 3, 0, 1, 5]⟩] := by
  decide +kernel

/-- R75, R48: 12 riders are cut to the capacity of 8. -/
theorem test_cabinSetVerify :
    let t := after (.cabinSetVerify 3 6 12) (withCabin 6 { cabinOn 6 with state := .unverified })
    ((t.cabin 6).state, (t.cabin 6).count, t.latched.countSaturated) = (.loaded, 8, true) := by
  decide +kernel

theorem test_cabinSetCorrect :
    let t := after (.cabinSetCorrect 3 6 0) (withCabin 6 { cabinOn 6 with state := .loaded, count := 4 })
    ((t.cabin 6).state, (t.cabin 6).count) = (.empty, 0) := by decide +kernel

theorem test_cabinSetTakeOut :
    ((after (.cabinSetTakeOut 3 6 0) riding).cabin 6).state = .outOfService ∧
    (after (.cabinSetTakeOut 3 32 0) riding).consoleQueue = [⟨0x21, 0, [17, 3, 0, 1, 5]⟩] := by
  decide +kernel

theorem test_cabinSetReturn :
    ((after (.cabinSetReturn 3 6 0) (after (.cabinSetTakeOut 3 6 0) riding)).cabin 6).state = .empty := by
  decide +kernel

/-- R128: raised, and left when the class named is lower. -/
theorem test_holdPlace :
    (after (.holdPlace 4 1) (after (.holdPlace 3 2) riding)).holds =
      [⟨.console, .slow, 1, none, 10000, true, false⟩] ∧
    (after (.holdPlace 4 5) riding).consoleQueue = [⟨0x21, 0, [24, 4, 0, 1, 5]⟩] := by decide +kernel

/-- 6.5: ACTIVE while SILENT, OK once FEEDBACK has resumed. -/
theorem test_holdRelease :
    let s := after .feedbackTimeout riding
    (after (.holdRelease 3 7) s).consoleQueue = [⟨0x21, 0, [25, 3, 0, 1, 8]⟩] ∧
    (after (.holdRelease 3 7) (after (.feedback (feedbackAt 0 5000000)) s)).holds = [] := by
  decide +kernel

theorem test_holdList :
    (after (.holdList 3) State.reset).consoleQueue = [⟨0x21, 0, [0x1A, 3, 0, 1, 0, 2, 0, 0, 0,
      3, 3, 1, 255, 0, 0, 0, 0, 0, 1, 2, 3, 0, 255, 0, 0, 0, 0, 0, 1]⟩] := by decide +kernel

theorem test_snapshotTake :
    let s := after (.holdPlace 1 4) riding
    (after (.snapshotTake 3) s).snaps.unread = 0 ∧
    (after (.snapshotTake 3) riding).consoleQueue = [⟨0x21, 0, [0x1B, 3, 0, 1, 1]⟩] := by
  decide +kernel

/-- R141, R152: accepted with its number, and FAULT at once for a cabin beyond N. -/
theorem test_profileRun :
    (after (.profileRun 3 0 1 0) profiled).consoleQueue = [⟨0x21, 0, [0x20, 3, 0, 1, 0, 0]⟩] ∧
    (after (.profileRun 3 1 1 1) profiled).consoleQueue =
      [⟨0x21, 0, [0x20, 3, 0, 1, 20, 1, 0, 1]⟩] := by decide +kernel

/-- R151: the final reply stands before PROFILE STOP's own. -/
theorem test_profileStop :
    (after (.profileStop 3) (running 1 2)).consoleQueue =
      [⟨0x21, 0, [0x20, 9, 0, 1, 17, 0, 1, 2]⟩, ⟨0x21, 0, [0x21, 3, 0, 1, 0]⟩] := by decide +kernel

theorem test_profileStatus :
    (after (.profileStatus 3) (running 1 2)).consoleQueue =
      [⟨0x21, 0, [0x22, 3, 0, 1, 0, 1, 0, 1, 2, 0, 0, 3, 232, 1, 1]⟩] := by decide +kernel

theorem test_windRead :
    ((after (.windRead 3) riding).consoleQueue.map fun f => f.payload.length) = [60, 12] := by
  decide +kernel

/-- 5.4: TRACE TAKE(3) leaves five entries. -/
theorem test_traceTake :
    (after (.traceTake 3 3) { riding with trace := workedTrace }).consoleQueue =
      [⟨0x21, 0, [0x29, 3, 0, 1, 0, 0, 5, 3, 1, 0, 150, 0, 6, 3, 254, 0, 1, 0, 160, 0]⟩] := by
  decide +kernel

theorem test_pollNow :
    (after (.pollNow 3) riding).poller.inFlight = some 0 ∧
    (after (.pollNow 3) (polling .replyWait 1)).poller.pendingMark = true := by decide +kernel

theorem test_pollResults :
    ((after (.pollResults 3) (polling .replyWait 1)).consoleQueue.map fun f => f.payload.take 13) =
      [[0x31, 3, 0, 1, 0, 1, 1, 0, 5, 1, 1, 1, 1]] := by decide +kernel

theorem test_unknownRequest :
    (after (.unknownRequest 0x55 3 []) riding).consoleQueue = [⟨0x21, 0, [0x55, 3, 0, 1, 7]⟩] := by
  decide +kernel

theorem test_entrySettled :
    (after .entrySettled (polling .replyWait 1)).poller.phase = .settling ∧
    (after .entrySettled (polling .replyWait 1)).poller.timer = some 10020 := by decide +kernel

/-- R83: an unsolicited frame holds the POLL back until its end, and the POLL is then sent. -/
theorem test_entrySettled_unsolicited :
    let t := after .entrySettled (polling .toPoll 1)
    (after .poll t).poller.phase = .toPoll ∧
    (after .poll (after (.unsolicitedFrame ⟨[1], true⟩) t)).poller.phase = .replyWait := by
  decide +kernel

/-- R168: a reset loses the frame half received; its end latches nothing and empties the buffer, and a
frame that begins afterwards is received and discarded as unsolicited. -/
theorem test_reset_loses_half_frame :
    let t := after .resetn (after .entrySettled (polling .replyWait 1))
    let u := after (.unsolicitedFrame ⟨[1], true⟩) t
    (t.rx.field, u.rx.field, u.latched.frameDiscarded) = (.lost, .empty, false) ∧
    (after (.unsolicitedFrame ⟨[1], true⟩) u).latched.frameDiscarded = true := by decide +kernel

/-! ### The step -/

/-- On an empty queue the ms counter goes up, and at 20 ms the drive order timer expires. -/
theorem test_idle_step :
    nextDue State.reset = none ∧
    (nextDue { State.reset with ms := 20 }).map (fun x => x.1) = some .drivePeriodExpiry := by
  decide +kernel

end Sys2Proof.Tests
end

