-- ==== Sys2Proof/Tests/Witnesses.lean ====
section
/-! SUPPORT. For each statement with hypotheses, states and operands that meet them, one for each clause
and at the ends of its ranges, so that no statement is about nothing. -/

namespace Sys2Proof.Tests

set_option Elab.async false

open Sys2Proof Sys2Proof.Machine

/-! ### States at the ends of ranges -/

/-- Whether a command leads to a next state. -/
def goesOn (c : Instr) (s : State) : Bool :=
  match exec c s with
  | .next _ => true
  | _ => false

/-- A state that a queue of this length leaves. -/
def queueOf (n : Nat) (s : State) : State :=
  { s with consoleQueue := List.replicate n ⟨0x20, 0, []⟩ }

/-- The hold list with a CONSOLE entry of this class. -/
def consoleHeld (c : HoldClass) : State :=
  { riding with holds := [⟨.console, c, 1, none, 9000, true, false⟩] }

/-- LOST, with its POSITION entry at STOP. -/
def lost : State :=
  { riding with
    tracker := { riding.tracker.becomeLost with lastRim := some 5000000 }
    req := { riding.req with armed := false }
    holds := [⟨.position, .stop, 3, none, 9000, true, true⟩] }

/-- Feedback SILENT with its DRIVE entry, and the same once FEEDBACK has resumed. -/
def silent : State := after .feedbackTimeout riding

def resumed : State := after (.feedback (feedbackAt 0 5000000)) silent

/-- Two unread snapshots. -/
def snapped : State := after (.holdPlace 1 4) silent

/-- A state that is SETUP with a restart pending. -/
def restarting : State := { loaded with modeRec := ⟨.setup, false, true⟩ }

/-- The tracker of `riding` at the marker, with this state and streak. -/
def trackerAt (st : TrackerState) (streak : Nat) (rim : Word32) : Tracker :=
  { riding.tracker with state := st, missStreak := streak, lastRim := some rim }

def latchAt (rim latch : Word32) : FeedbackFields :=
  { feedbackAt 100 rim with marker := true, latch := latch }

/-! ### The machine as a whole -/

theorem witness_IdleStepIsTheClock :
    State.reset.pending = [] ∧ State.reset.dueExpiries = [] ∧
    { State.reset with ms := 20 }.dueExpiries = [.drivePeriodExpiry] ∧
    { State.reset with ms := 250 }.dueExpiries =
      [.drivePeriodExpiry, .pollTimerExpiry, .statusPeriodExpiry] := by decide +kernel

theorem witness_Inv : Inv riding ∧ Inv loaded ∧ Inv lost ∧ Inv snapped := by
  refine ⟨?_, ?_, ?_, ?_⟩ <;> constructor <;> decide +kernel

theorem witness_Inv_of_a_run : Inv (running 1 2) := by constructor <;> decide +kernel

theorem witness_Inv_of_a_pass : Inv (withCabin 6 boarding) ∧
    Inv { withCabin 6 alighting with causes := ⟨true, false, false⟩ } ∧
    Inv (polling .settling 1) := by
  refine ⟨?_, ?_, ?_⟩ <;> constructor <;> decide +kernel

/-- The hypotheses of EveryStepKeepsInvariant and of each law kept by every step. -/
theorem witness_EveryStepKeepsInvariant :
    Inv riding ∧ (∃ t, step riding = .next t) ∧
    ∃ t, step { riding with pending := [.holdPlace 1 4] } = .next t :=
  ⟨witness_Inv.1, ⟨_, rfl⟩, ⟨_, rfl⟩⟩

/-- The hypotheses of QueueBoundsKept, ProfileSourceLawKept, HoldListLawKept, CabinLawKept and
TraceReplaysAlways, in the state whose steps the theorem before shows. -/
theorem witness_laws_kept :
    QueueInv riding ∧ RunInv riding ∧ HoldInv riding ∧ CabinInv riding ∧ TableInv riding ∧
    WindInv riding ∧ TraceInv { riding with trace := workedTrace } := by decide +kernel

theorem witness_TablesFixedInService :
    TableInv riding ∧ QueueInv riding ∧
    ∃ t, step { riding with pending := [.drivePeriodExpiry] } = .next t ∧
      t.modeRec.mode = .service := ⟨by decide +kernel, by decide +kernel, _, rfl, rfl⟩

theorem witness_ArmedOnlyByZeroSetpoint :
    let s := { riding with req := { riding.req with armed := false } }
    (Instr.setpoint 0).wf = true ∧ s.req.armed = false ∧
    ∃ t, exec (.setpoint 0) s = .next t ∧ t.req.armed = true :=
  ⟨rfl, rfl, _, rfl, by decide +kernel⟩

theorem witness_OutputChangesAtExpiryOnly :
    riding.modeRec.restartPending = false ∧ ∃ t, exec (.setpoint 7) riding = .next t :=
  ⟨rfl, _, rfl⟩

theorem witness_LatchedEventsStand :
    let s := latch .strayMarker riding
    s.requests = [] ∧ s.modeRec.restartPending = false ∧ Instr.poll.wf = true ∧
    s.latched.has .strayMarker = true ∧ ∃ t, exec .poll s = .next t :=
  ⟨rfl, rfl, rfl, by decide +kernel, _, rfl⟩

/-! ### The drive gate -/

theorem witness_SetpointTaken : HoldInv riding ∧ HoldInv lost := by decide +kernel

/-- The hypotheses of SetupOrderFixed and ServiceOrderComputed. -/
theorem witness_orders : State.reset.modeRec.mode = .setup ∧ riding.modeRec.mode = .service := by
  decide +kernel

theorem witness_NoSpeedingUpWhileStopped :
    SpeedInv (consoleHeld .stop) ∧ (∃ e ∈ (consoleHeld .stop).holds, e.cls = .stop) ∧
    SpeedInv riding ∧ lost.req.armed = false ∧ lost.req.source = .console := by decide +kernel

theorem witness_SuccessiveOrdersBounded :
    SpeedInv riding ∧ riding.ride.accel ≤ riding.ride.holdDecel ∧
    riding.ride.decel ≤ riding.ride.holdDecel := by decide +kernel

/-- The standstill band is met at 5 mm/s and passed at 6, forward and reverse; a FAULT status with no
DRIVE entry and with one, and an OK status with one. -/
theorem witness_FeedbackTaken :
    (5 : Word16).toInt.natAbs ≤ riding.ride.stillBand ∧
    riding.ride.stillBand < (6 : Word16).toInt.natAbs ∧
    riding.ride.stillBand < (-6 : Word16).toInt.natAbs ∧
    riding.still.runStart = none ∧ loaded.still.runStart = some 0 ∧
    riding.entry .drive = none ∧ resumed.entry .drive ≠ none ∧ (255 : Byte) ≠ 0 ∧
    (after (.feedback { feedbackAt 0 5000000 with status := 255 }) riding).entry .drive =
      some ⟨.drive, .stop, 2, some 255, 10000, true, true⟩ := by decide +kernel

/-- The tracker of `riding` in SEARCHING with the phase known and this candidate. -/
def searchingAt (candidate : Option Nat) : Tracker :=
  { riding.tracker with
    state := .searching, index := none, candidate := candidate, candidateReads := 1 }

/-- Riding with the rim count at `rim` when the last frame came. -/
def movedFrom (rim : Word32) : State :=
  { riding with tracker := { riding.tracker with lastRim := some rim } }

/-- The turns after the drive gate.  With figures: from 3,990 mm past the marker to 8,010 cabin 4, ahead,
crosses its lock point and b_end before cabin 5 crosses a_start; no movement, one of 9,999 and one of a
pitch.  Without: SEARCHING at a reset. -/
theorem witness_FeedbackTaken_turns :
    HoldInv riding ∧ 0 < riding.ride.n ∧ 0 < riding.ride.pitch ∧
    riding.tracker.travelHanded = true ∧ HoldInv loaded ∧ loaded.tracker.travelHanded = false ∧
    (let turn (x y : Word32) : State := { riding with tracker :=
        ((movedFrom x).tracker.afterFrame rideTable false (feedbackAt 100 y)).1 }
    (turn 5003990 5008010).frameCrossings (movedFrom 5003990).tracker =
      [(4, .lock), (4, .bEnd), (5, .aStart)] ∧
    (turn 5000000 5000000).frameMovement riding.tracker = some 0 ∧
    (turn 5000000 5009999).frameMovement riding.tracker = some 9999 ∧
    (turn 5000000 5010000).frameMovement riding.tracker = some 10000) ∧
    ((after (.feedback (feedbackAt 100 5010000)) (withCabin 6 boarding)).cabin 6).state =
      .unverified := by decide +kernel

/-- Each change of the tracker's state: COASTING at a missed marker, LOST at the third, SEARCHING at a
resumption, and LOCKED at a marker; and a crossing of id_end whose second MISMATCH drops the index, so
that the a_start of the same frame is abandoned. -/
theorem witness_FeedbackTaken_changes :
    let coasting : State := { riding with
      tracker := trackerAt .coasting 2 5009000
      holds := [⟨.position, .creep, 2, none, 9000, false, true⟩] }
    let mismatched : State := { movedFrom 5002400 with
      tracker := { (movedFrom 5002400).tracker with mismatch := some 1 }
      cabins := riding.cabins.set 5 { cabinOn 5 with window := ⟨true, 0, some 6, 2⟩ } }
    let t := after (.feedback (feedbackAt 100 5004010)) mismatched
    (after (.feedback (feedbackAt 100 5010101)) riding).tracker.state = .coasting ∧
    HoldInv coasting ∧
    (after (.feedback (feedbackAt 100 5010101)) coasting).tracker.state = .lost ∧
    (after (.feedback (latchAt 5010110 5010000)) coasting).tracker.state = .locked ∧
    HoldInv silent ∧ silent.fb.state = .silent ∧
    (after (.feedback (feedbackAt 100 5000101)) silent).tracker.state = .searching ∧
    HoldInv mismatched ∧ t.tracker.state = .searching ∧ (t.cabin 5).state = .empty ∧
    (t.cabin 5).outcome = .mismatch 1 := by decide +kernel

theorem witness_FeedbackForwarded :
    let f := feedbackAt 100 5000000
    (∃ t, exec (.feedback f) (queueOf 15 riding) = .next t ∧
      t.waitTag = (queueOf 15 riding).waitTag) ∧
    (∃ t, exec (.feedback f) (queueOf 16 riding) = .next t ∧
      t.waitTag = (queueOf 16 riding).waitTag) ∧
    (∃ t, exec (.feedback f) (queueOf 14 (running 0 0)) = .next t ∧
      t.waitTag = (queueOf 14 (running 0 0)).waitTag) ∧
    ∃ t, exec (.feedback f) (queueOf 15 (running 0 0)) = .next t ∧
      t.waitTag = (queueOf 15 (running 0 0)).waitTag :=
  ⟨⟨_, rfl, by decide +kernel⟩, ⟨_, rfl, by decide +kernel⟩, ⟨_, rfl, by decide +kernel⟩,
    ⟨_, rfl, by decide +kernel⟩⟩

theorem witness_FeedbackTimeoutSilences :
    State.reset.fb.state ≠ .present ∧ HoldInv riding ∧ riding.fb.state = .present ∧
    riding.entry .drive = none ∧ HoldInv resumed ∧ resumed.fb.state = .present ∧
    (resumed.entry .drive).isSome = true := by decide +kernel

theorem witness_StalenessExpiries :
    State.reset.modeRec.mode = .setup ∧ HoldInv riding ∧ riding.modeRec.mode = .service ∧
    riding.expiries.staleArmed = true ∧ riding.expiries.lossArmed = true ∧
    riding.entry .command = none ∧
    HoldInv { after .lossExpiry riding with expiries := ⟨true, true⟩ } ∧
    ({ after .lossExpiry riding with expiries := ⟨true, true⟩ } : State).entry .command ≠ none := by
  decide +kernel

/-! ### The rim tracker -/

/-- The ends of the tolerance W = 100: a forward crossing at e 10,100, a reverse one at e −100, a repeat
at e 100 and a stray at e 101. -/
theorem witness_MarkerLatchClassified :
    let t := trackerAt .locked 0 5000050
    let c := trackerAt .coasting 1 5000050
    t.state = .locked ∧ c.state = .coasting ∧ t.phaseKnown = true ∧ t.index = some 7 ∧
    7 < rideTable.n ∧
    ((5010100 - t.m).toInt - rideTable.pitch).natAbs ≤ rideTable.w ∧
    ((4999900 - t.m).toInt).natAbs ≤ rideTable.w ∧
    ((5000100 - t.m).toInt).natAbs ≤ rideTable.w ∧
    rideTable.w < ((5000101 - t.m).toInt).natAbs ∧
    rideTable.w < ((5000101 - t.m).toInt - rideTable.pitch).natAbs ∧
    ((5010110 : Word32) - 5010100).toInt ≤ rideTable.pitch + rideTable.w ∧
    -(rideTable.w : Int) ≤ ((4999890 : Word32) - (t.m - BitVec.ofNat 32 rideTable.pitch)).toInt ∧
    ((4999890 : Word32) - (t.m - BitVec.ofNat 32 rideTable.pitch)).toInt ≤
      rideTable.pitch + rideTable.w := by decide +kernel

/-- SEARCHING with the phase unknown and known, with a candidate and without, and LOST; and the other end
of a forward crossing, e 9,900. -/
theorem witness_MarkerLatchClassified_searching :
    let after' (t : Tracker) (rim latch : Word32) := t.afterFrame rideTable false (latchAt rim latch)
    Tracker.initial.state = .searching ∧ Tracker.initial.index = none ∧
    Tracker.initial.phaseKnown = false ∧
    (searchingAt none).state = .searching ∧ (searchingAt none).index = none ∧
    (searchingAt none).phaseKnown = true ∧
    (after' Tracker.initial 5000010 5000000).1.phaseKnown = true ∧
    (after' (searchingAt (some 31)) 5009910 5009900).1.candidate = some 0 ∧
    (after' (searchingAt (some 0)) 4999980 5000000).1.candidate = some 31 ∧
    (after' (searchingAt none) 5005010 5005000).2.1 = true ∧
    riding.tracker.becomeLost.state = .lost ∧ riding.tracker.becomeLost.phaseKnown = false := by
  decide +kernel

/-- The ends of a single miss: 10,101 and 20,100 forward, −101 and −10,100 reverse. -/
theorem witness_MissedMarkerCoastsOrLoses :
    let t := trackerAt .locked 0 5000050
    let d (rim : Word32) := (rim - t.m).toInt
    t.missStreak + 1 ≤ rideTable.missLimit ∧
    rideTable.missLimit < (trackerAt .coasting 2 5000050).missStreak + 1 ∧
    (rideTable.pitch : Int) + rideTable.w < d 5010101 ∧
    d 5020100 ≤ 2 * rideTable.pitch + rideTable.w ∧
    d 4999899 < -(rideTable.w : Int) ∧ -(rideTable.w : Int) - rideTable.pitch ≤ d 4989900 ∧
    rideTable.pitch ≤ 20000 := by decide +kernel

/-- The ends of two misses: 20,101 and 30,100 forward, −10,101 and −20,100 reverse, COASTING from no
streak and LOST from one of 1; the drift bounds of SEARCHING, 10,100 and −100; and a resumption that has
moved by 100 and by 101. -/
theorem witness_MissedMarkerCoastsOrLoses_several :
    let t := trackerAt .locked 0 5000050
    let d (rim : Word32) := (rim - t.m).toInt
    t.missStreak + 2 ≤ rideTable.missLimit ∧
    rideTable.missLimit < (trackerAt .coasting 1 5000050).missStreak + 2 ∧
    (2 : Int) * rideTable.pitch + rideTable.w < d 5020101 ∧
    d 5030100 ≤ (2 + 1) * rideTable.pitch + rideTable.w ∧
    d 4989899 < -(rideTable.w : Int) - (2 - 1) * rideTable.pitch ∧
    -(rideTable.w : Int) - 2 * rideTable.pitch ≤ d 4979900 ∧
    (searchingAt (some 7)).phaseKnown = true ∧
    d 5010100 ≤ rideTable.pitch + rideTable.w ∧ -(rideTable.w : Int) ≤ d 4999900 ∧
    (rideTable.pitch : Int) + rideTable.w < d 5010101 ∧ d 4999899 < -(rideTable.w : Int) ∧
    (trackerAt .locked 0 5000000).lastRim = some 5000000 ∧ Tracker.initial.lastRim = none ∧
    ((5000100 : Word32) - 5000000).toInt.natAbs ≤ rideTable.w ∧
    rideTable.w < ((5000101 : Word32) - 5000000).toInt.natAbs := by decide +kernel

theorem witness_IndexAssigned :
    0 < 10000 ∧ zoneTable.idEnd - zoneTable.idStart ≤ 10000 ∧
    windowShift 1000 10000 zoneTable = some 2 ∧ windowShift 2499 10000 zoneTable = some 2 ∧
    windowShift 2500 10000 zoneTable = none ∧
    Tracker.initial.state = .searching ∧ Tracker.initial.candidate = none ∧ 1 ≤ 2 := by
  decide +kernel

/-! ### Cabins -/

theorem witness_PlatformZonesEntered :
    riding.cabins[5]? = some (cabinOn 5) ∧
    (withCabin 6 alighting).cabins[6]? = some alighting ∧ alighting.hasValid = false ∧
    (withCabin 6 { alighting with hasValid := true }).cabins[6]? =
      some { alighting with hasValid := true } := by decide +kernel

theorem witness_PassEndsAtBoardEnd :
    let open' : Cabin := { boarding with door := .open }
    (withCabin 6 boarding).cabins[6]? = some boarding ∧
    (withCabin 6 open').cabins[6]? = some open' ∧
    (∀ j < 64, ((withCabin 6 boarding).cabins[j]?.any fun d => d.state == .boarding) = true → j = 6) ∧
    riding.cabins[6]? = some (cabinOn 6) ∧ (cabinOn 6).state ≠ .boarding := by decide +kernel

theorem witness_LateLockStops :
    let late : Cabin := { boarding with door := .closed }
    (withCabin 6 late).cabins[6]? = some late ∧ late.state = .boarding ∧ late.door ≠ .locked ∧
    (withCabin 6 late).entry .door = none ∧ boarding.door = .locked := by decide +kernel

/-- The three outcomes of cabin 7 with 2 required reads, and the ends of the required reads: 1 and 4. -/
theorem witness_WindowReadsCounted :
    let outcome (required : Nat) (reads : List Nat) :=
      judgeWindow 32 required 7 (reads.foldl (fun w j => w.count 7 j) ⟨true, 0, none, 0⟩)
    outcome 2 [6, 6] = .mismatch 31 ∧ outcome 2 [6, 5] = .none ∧ outcome 2 [6, 7, 6, 7] = .matched ∧
    outcome 1 [6] = .mismatch 31 ∧ outcome 4 [7, 6, 7, 7, 7] = .matched ∧ outcome 4 [] = .none := by
  decide

/-- Cabin 5 with its window in this condition, the tracker in this state with this mismatch memory. -/
def atWindow (w : IdWindow) (st : TrackerState) (memory : Option Nat) : State :=
  { withCabin 6 boarding with
    cabins := (withCabin 6 boarding).cabins.set 5 { cabinOn 5 with window := w }
    tracker := { riding.tracker with state := st, mismatch := memory } }

/-- Crossing id_end with the window CLOSED and OPEN: in LOCKED with no mismatch memory, another shift and
the same one with no POSITION entry, in COASTING with each outcome, and in SEARCHING; and crossing
id_start with offsets that open a window and with those of a reset, which open none. -/
theorem witness_WindowReadsCounted_crossings :
    let one : IdWindow := ⟨true, 0, some 6, 2⟩
    let zero : IdWindow := ⟨true, 0, some 37, 2⟩
    let shut (w : IdWindow) st memory := takeCrossing 5 .idEnd (atWindow w st memory)
    (atWindow one .locked none).cabins[5]? = some { cabinOn 5 with window := one } ∧
    judgeWindow 32 2 5 one = .mismatch 1 ∧ judgeWindow 32 2 5 zero = .mismatch 0 ∧
    judgeWindow 32 2 5 ⟨true, 2, some 6, 2⟩ = .matched ∧ judgeWindow 32 2 5 ⟨true, 1, some 6, 1⟩ = .none ∧
    (cabinOn 5).window.isOpen = false ∧ (atWindow one .locked (some 1)).entry .position = none ∧
    (shut one .locked none).tracker.mismatch = some 1 ∧
    (shut one .locked (some 2)).tracker.mismatch = some 1 ∧
    (shut one .locked (some 1)).tracker.state = .searching ∧
    ((shut one .locked (some 1)).cabin 6).state = .unverified ∧
    (shut one .coasting none).tracker.index = some 8 ∧
    ((shut one .coasting none).cabin 6).state = .unverified ∧
    ((shut zero .coasting none).cabin 6).state = .boarding ∧
    (shut one .searching none).latched.identityFault = true ∧
    ((takeCrossing 5 .idStart riding).cabin 5).window.isOpen = true ∧
    (zoneTable.idStart < zoneTable.idEnd ∧ zoneTable.idEnd ≤ rideTable.n * rideTable.pitch ∧
      zoneTable.idEnd ≤ zoneTable.idStart + rideTable.pitch) ∧
    State.reset.zone.idEnd ≤ State.reset.zone.idStart := by decide +kernel

/-! ### Field polling -/

theorem witness_PollTimerStartsCycle :
    (polling .toPoll 0).poller.phase ≠ .idle ∧ State.reset.poller.phase = .idle ∧
    State.reset.walked = [] ∧ riding.poller.phase = .idle ∧ 0 < riding.walked.length ∧
    (riding.pollEntry 0).kind ≠ .unset := by decide +kernel

theorem witness_PollNowAsksForCycle :
    riding.ready ∧ (polling .lateWindow 4).ready ∧ State.reset.ready ∧
    (queueOf 13 riding).ready := by decide +kernel

theorem witness_PollCarriesArguments :
    let s := { withCabin 6 boarding with poller := (polling .toPoll 3).poller }
    s.poller.phase = .toPoll ∧ s.poller.inFlight = some 3 ∧ s.rx.field = .empty ∧
    (s.pollEntry 3).kind = .board ∧ s.stationEntry .board = some 3 ∧
    (s.pollEntry 2).kind = .alight ∧ s.stationEntry .alight = some 2 ∧
    (s.pollEntry 0).kind = .mast := by decide +kernel

/-- Idle, before a POLL, in the late window, with an overrun frame still being received, and with one
that a reset has cut short. -/
theorem witness_StrayFieldFramesDiscarded :
    riding.poller.phase = .idle ∧ riding.poller.inFlight = none ∧
    (polling .toPoll 3).poller.phase = .toPoll ∧ (polling .lateWindow 3).poller.phase = .lateWindow ∧
    (after .settlingFrameOverrun (polling .settling 3)).rx.field = .receiving ∧
    (after .resetn (polling .settling 3)).rx.field = .lost ∧
    (polling .settling 3).rx.field ≠ .lost := by decide +kernel

/-- The last entry of the walk is 4, so 3 has the next set entry 4 and 4 has none. -/
theorem witness_walk :
    riding.walked.length = 5 ∧ (riding.pollEntry 4).kind ≠ .unset ∧
    (polling .replyWait 0).poller.phase = .replyWait ∧
    (polling .lateWindow 4).poller.phase = .lateWindow ∧
    (polling .settling 3).poller.phase = .settling ∧
    (polling .settling 3).poller.inFlight = some 3 ∧
    riding.results[3]? = some ⟨.answered, .fresh, 0, 0⟩ := by decide +kernel

theorem witness_SettlingFrameTimed :
    let s := polling .settling 3
    s.poller.phase = .settling ∧ s.poller.inFlight = some 3 ∧
    s.results[3]? = some ⟨.answered, .fresh, 0, 0⟩ ∧ 4 < s.walked.length ∧
    (s.pollEntry 4).kind ≠ .unset ∧ (polling .replyWait 3).poller.phase = .replyWait ∧
    (polling .lateWindow 3).poller.phase = .lateWindow ∧
    (polling .toPoll 3).poller.phase = .toPoll ∧ riding.poller.phase = .idle ∧
    (after .entrySettled (polling .toPoll 3)).rx.field = .receiving ∧
    (after .resetn (polling .settling 3)).rx.field = .lost := by decide +kernel

theorem witness_SilenceIsNoAnswer :
    (polling .replyWait 0).poller.inFlight = some 0 ∧
    (polling .replyWait 0).results[0]? = some ⟨.answered, .fresh, 0, 0⟩ ∧
    ((⟨.answered, .fresh, 0, 0⟩ : ResultRecord).stepped PollParams.default .noAnswer).freshness =
      .fresh := by decide +kernel

/-- Riding with cabin 6 in this record and entry `i` in its reply wait after 3 failures, with these
holds. -/
def failing (c : Cabin) (i : Nat) (holds : List HoldEntry) : State :=
  { withCabin 6 c with
    poller := (polling .replyWait i).poller
    results := List.replicate 16 ⟨.noAnswer, .fresh, 0, 3⟩
    masts := [{ mastAt 1 with freshness := .fresh, seeded := true, acc := 1600, window := [100] },
      mastAt 2, Mast.initial, Mast.initial]
    holds := holds }

/-- A NO_ANSWER that makes the entry STALE: of a mast, of the tag reader, and of each platform station,
with a cabin in its zone and none, the hold list empty and not, the entries of DOOR and PLATFORM there and
not. -/
theorem witness_SilenceIsNoAnswer_stale :
    let r : ResultRecord := ⟨.noAnswer, .fresh, 0, 3⟩
    let held : List HoldEntry := [⟨.platform, .stop, 1, some 10, 9000, true, false⟩,
      ⟨.door, .stop, 2, some 5, 9000, true, false⟩]
    (r.stepped PollParams.default .noAnswer).freshness = .stale ∧
    ((failing boarding 0 []).pollEntry 0).kind = .mast ∧
    ((after .replyWaitExpiry (failing boarding 0 [])).masts.map fun m => (m.freshness, m.window)) =
      [(.stale, []), (.unknown, []), (.unknown, []), (.unknown, [])] ∧
    ((failing boarding 4 []).pollEntry 4).kind = .tagReader ∧
    (∀ i < 16, (failing boarding i []).results[i]? = some r) ∧
    HoldInv (failing boarding 3 []) ∧ HoldInv { failing alighting 2 [] with causes := ⟨true, false, false⟩ } ∧
    HoldInv (failing boarding 3 held) ∧
    (failing boarding 3 []).boardStation.freshness = r.freshness ∧
    (failing boarding 3 []).zoneCabin .board = some 6 ∧
    (failing boarding 2 []).zoneCabin .alight = none ∧
    (failing alighting 2 []).zoneCabin .alight = some 6 ∧
    ((failing boarding 3 []).stationEntry .board, (failing boarding 3 []).stationEntry .alight) =
      (some 3, some 2) ∧
    ((after .replyWaitExpiry (failing boarding 3 [])).holds.map fun h => (h.source, h.cause)) =
      [(.platform, 2), (.door, 4)] ∧
    ((after .replyWaitExpiry (failing boarding 2 [])).holds.map fun h => h.source) = [.platform] ∧
    ((after .replyWaitExpiry (failing boarding 3 [])).cabin 6).entryBarred = true ∧
    ((after .replyWaitExpiry (failing boarding 3 held)).holds.map fun h => (h.cause, h.subject, h.time)) =
      [(2, some 11, 9000), (4, some 6, 9000)] ∧
    (after .replyWaitExpiry (failing boarding 3 held)).req.armed = true := by decide +kernel

/-- The last walked entry in its late window. -/
def cycleEnding : State := polling .lateWindow 4

/-- The same with one mast counting, its mean and gust these, and the trace these entries. -/
def counted (mean gust : Nat) (entries : List TraceEntry) (last : Option Nat) : State :=
  { cycleEnding with
    masts := [{ mastAt 1 with freshness := .fresh, seeded := true, acc := 16 * mean, window := [gust] },
      mastAt 2, Mast.initial, Mast.initial]
    trace := { cycleEnding.trace with entries := entries, last := last } }

/-- A run of this step and one DWELL step after it, the last walked entry in its late window. -/
def awaitingWind (level : Nat) (only : Bool) (repeats : Nat) : State :=
  { counted 0 0 [] none with
    profiles := ([⟨50, 20, .windBelow, level, 5000, only⟩, dwellStep true] ++
      List.replicate 14 Step.clearStep) :: profileTables.drop 1
    run := { RunRecord.initial with
      running := true, profile := some 0, repeats := repeats, durationTimer := some 14000 }
    req := { riding.req with source := .profile } }

/-- The walk: entry 3 has the next set entry 4, and 4 has none; the pending mark CLEAR and SET. -/
theorem witness_LateWindowEndMovesOn :
    (polling .lateWindow 3).poller.inFlight = some 3 ∧
    cycleEnding.poller.inFlight = some 4 ∧ cycleEnding.walked.length = 5 ∧
    cycleEnding.poller.pendingMark = false ∧ HoldInv cycleEnding ∧ RunInv cycleEnding ∧
    (cycleEnding.pollEntry 0).kind ≠ .unset := by decide +kernel

/-- The end-of-cycle event: no mast counting, with the gap mark CLEAR and SET and the trace full; one
counting with no last value, a difference of 7 joining an open entry, opening one after a full one, and
one of 8; a run held by HOLD, one not yet met, and one met at its last step, with a repeat and at a step
before the last. -/
theorem witness_LateWindowEndMovesOn_cycle :
    let none' (s : State) := (s.masts.filter fun m => m.freshness == .fresh && m.seeded) = []
    none' cycleEnding ∧ cycleEnding.trace.gapMark = false ∧
    none' { cycleEnding with trace := ⟨[.gap], none, none, true⟩ } ∧
    (after .lateWindowEnd { cycleEnding with
      trace := ⟨.full 90 :: List.replicate 1023 .gap, none, none, false⟩ }).latched.traceWrapped = true ∧
    ¬none' (counted 60 100 [] none) ∧ HoldInv (counted 60 100 [] none) ∧
    (after .lateWindowEnd (counted 60 100 [] none)).trace.entries = [.full 100] ∧
    (after .lateWindowEnd (counted 60 100 [.full 92, .delta [1]] (some 93))).trace.entries =
      [.full 92, .delta [1, 7]] ∧
    (after .lateWindowEnd (counted 60 100 [.full 104, .delta [1, 1, 1]] (some 107))).trace.entries =
      [.full 104, .delta [1, 1, 1], .delta [-7]] ∧
    (after .lateWindowEnd (counted 60 100 [.full 92] (some 92))).trace.entries = [.full 92, .full 100] ∧
    RunInv (awaitingWind 1 true 0) ∧ HoldInv (awaitingWind 1 true 0) ∧
    (awaitingWind 1 true 0).currentStep.kind = .windBelow ∧
    (after .lateWindowEnd (awaitingWind 1 true 0)).run.lastEnd = some .complete ∧
    (awaitingWind 1 true 2).runSteps[0]? = some ⟨50, 20, .windBelow, 1, 5000, true⟩ ∧
    (awaitingWind 1 false 0).runSteps[1]? = some (dwellStep true) ∧
    (after .lateWindowEnd { awaitingWind 0 true 0 with
      wind := { WindRecord.initial with level := .watch } }).run.running = true ∧
    (after .lateWindowEnd { awaitingWind 3 true 0 with
      wind := { WindRecord.initial with level := .restrict, up := 1, runMin := some .hold }
      holds := [⟨.wind, .slow, 2, none, 9000, false, true⟩]
      masts := (counted 300 300 [] none).masts }).run.lastEnd = some .held := by decide +kernel

/-- Frames of entry 0, a mast: one that is no frame, one each of a wrong kind, address and length, one
with the mast's fault, and one that is answered. -/
theorem witness_AnswerJudged_mast :
    let s := polling .settling 0
    s.poller.phase = .settling ∧ (polling .replyWait 0).poller.phase = .replyWait ∧
    s.poller.inFlight = some 0 ∧ s.rx.field ≠ .lost ∧ (polling .replyWait 0).rx.field = .empty ∧
    (s.pollEntry 0).kind = .mast ∧ (s.pollEntry 0).address = 1 ∧
    s.results[0]? = some ⟨.answered, .fresh, 0, 0⟩ ∧
    ((⟨.answered, .fresh, 0, 0⟩ : ResultRecord).stepped s.pollParams .bad).freshness = .fresh ∧
    frameOf ⟨[1, 2, 3], true⟩ = none ∧
    frameOf (received ⟨0x50, 1, [0, 150, 1, 14, 0]⟩) = some ⟨0x50, 1, [0, 150, 1, 14, 0]⟩ ∧
    frameOf (received ⟨0x51, 2, [0, 150, 1, 14, 0]⟩) = some ⟨0x51, 2, [0, 150, 1, 14, 0]⟩ ∧
    frameOf (received ⟨0x51, 1, [0, 150, 1, 14]⟩) = some ⟨0x51, 1, [0, 150, 1, 14]⟩ ∧
    frameOf (received ⟨0x51, 1, [0, 150, 1, 14, 1]⟩) = some ⟨0x51, 1, [0, 150, 1, 14, 1]⟩ ∧
    frameOf (received ⟨0x51, 1, [0, 150, 1, 14, 0]⟩) = some ⟨0x51, 1, [0, 150, 1, 14, 0]⟩ ∧
    ((after (.answer (received ⟨0x51, 1, [0, 150, 1, 14, 1]⟩)) s).masts[0]?).map (·.lastRaw) =
      some none ∧
    ((after (.answer (received ⟨0x51, 1, [0, 150, 1, 14, 0]⟩)) s).masts[0]?).map (·.lastRaw) =
      some (some 150) := by decide +kernel

/-- The frames of entry 3, the boarding station, with cabin 6 shown and BOARDING: quiet, with the door at
FAULT, with the button pressed, with both, and one with an undefined door code. -/
def stationAnswer (door pressed : Byte) : Frame := ⟨0x51, 11, [6, 1, door, 4, pressed]⟩

def atBoard : State :=
  { withCabin 6 boarding with
    poller := (polling .settling 3).poller, rx := (polling .settling 3).rx, boardStation := ⟨some 6, false, .fresh⟩ }

/-- The station's own entry, a second entry of its kind that is not the source, and a failure that makes
the station STALE. -/
theorem witness_AnswerJudged_station :
    atBoard.stationEntry .board = some 3 ∧ (atBoard.pollEntry 3).kind = Station.board.kind ∧
    atBoard.boardStation.shown = some 6 ∧ (atBoard.cabin 6).state = Station.board.zone ∧
    (∀ f ∈ [stationAnswer 3 0, stationAnswer 4 0, stationAnswer 3 1, stationAnswer 4 1,
      stationAnswer 5 0], frameOf (received f) = some f) ∧
    (after (.answer (received (stationAnswer 3 0))) atBoard).holds = [] ∧
    ((after (.answer (received (stationAnswer 4 1))) atBoard).holds.map fun h => h.source) =
      [.door, .platform] ∧
    ({ riding with pollEntries := ⟨10, .board, false⟩ :: pollList.drop 1 } : State).stationEntry .board ≠
      some 3 ∧
    ((⟨.bad, .fresh, 0, 3⟩ : ResultRecord).stepped PollParams.default .bad).freshness = .stale ∧
    (after (.answer ⟨[1], true⟩) { atBoard with
      results := List.replicate 16 ⟨.bad, .fresh, 0, 3⟩ }).boardStation.freshness = .stale := by
  decide +kernel

/-- The tag reader, entry 4, on the tag of cabin `j` at this strength. -/
def tagRead (j : Nat) (strength : Byte) : RawFrame :=
  received ⟨0x51, 20, [1] ++ (cabinOn j).tag ++ [strength]⟩

/-- Riding with the tag reader's frame being received and this tracker, 1,500 mm past the marker, where
cabin 5 stands in the ID window. -/
def atReader (st : TrackerState) (candidate : Option Nat) : State :=
  { riding with
    poller := (polling .settling 4).poller
    rx := (polling .settling 4).rx
    tracker := { trackerAt st 0 5001500 with candidate := candidate, candidateReads := 1 }
    cabins := riding.cabins.set 5 { cabinOn 5 with window := ⟨true, 255, some 6, 1⟩ } }

/-- A read too weak, a tag of no cabin, and a read of cabin 5 in each state of the tracker: LOST,
SEARCHING with no proposal, with a first and a last one, and LOCKED with no window and one open. -/
theorem witness_AnswerJudged_tag :
    (riding.pollEntry 4).kind = .tagReader ∧ (39 : Byte).toNat < riding.zone.tagFloor ∧
    (40 : Byte).toNat = riding.zone.tagFloor ∧
    (frameOf (tagRead 5 40)).map (fun f => f.payload.length) = some 10 ∧
    (after (.answer (tagRead 40 40)) (atReader .locked none)).latched.unknownTag = true ∧
    (atReader .lost none).tracker.state = .lost ∧
    ({ atReader .searching none with fb := silent.fb } : State).proposal 5 = none ∧
    (atReader .searching none).proposal 5 = some 7 ∧
    ((atReader .searching none).tracker.propose 2 7).state = .searching ∧
    ((atReader .searching (some 7)).tracker.propose 2 7).state = .locked ∧
    (atReader .searching (some 7)).entry .position = none ∧
    windowsOpen zoneTable rideTable = true ∧ (atReader .locked none).tracker.travel rideTable 5 = some 21500 ∧
    ((atReader .locked none).cabin 5).window.isOpen = true ∧
    (∀ l < 32, ((atReader .locked none).cabin l).window.isOpen = true → l = 5) ∧
    ((after (.answer (tagRead 6 40)) (atReader .locked none)).cabin 5).window = ⟨true, 255, some 6, 2⟩ := by
  decide +kernel

theorem witness_FreshnessNeedsRuns :
    let p := PollParams.default
    1 ≤ p.staleAfter ∧ 1 ≤ p.freshAfter ∧ PollResult.noAnswer ≠ .answered ∧
    PollResult.bad ≠ .answered ∧
    (⟨.answered, .fresh, 0, 0⟩ : ResultRecord).freshness = .fresh ∧
    (⟨.bad, .stale, 0, 0⟩ : ResultRecord).freshness = .stale := by decide

/-! ### Wind watch -/

theorem witness_MastSampleTaken :
    ({ mastAt 1 with freshness := .fresh }).freshness = .fresh ∧ 1 ≤ WindTable.default.meanShift ∧
    ({ mastAt 1 with freshness := .fresh, seeded := true, acc := 1600 }).seeded = true ∧
    1 ≤ WindTable.default.gustLength := by decide

/-- At the thresholds themselves: gusts 250 and 200 call for HOLD and RESTRICT, and the persistence of 2
is met by two cycles and not by one. -/
theorem witness_LevelRisesToLeastTarget :
    let w := WindRecord.initial
    w.up = 0 ∧ (∀ g ∈ [(0, 250), (0, 200)],
      w.level.code < (windTarget WindTable.default g.1 g.2).code) ∧
    ([(0, 250), (0, 200)] : List (Nat × Nat)).length = WindTable.default.entryPersistence ∧
    ([(0, 250)] : List (Nat × Nat)).length < WindTable.default.entryPersistence := by decide

/-- Two cycles clear of RESTRICT, each with its own values and one at the edge, and one that is not
clear; and a table whose exit persistence they meet. -/
theorem witness_LevelDropsOneStep :
    let w := { WindRecord.initial with level := .restrict }
    let t := { WindTable.default with exitPersistence := 2 }
    w.down = 0 ∧ w.level ≠ .calm ∧
    (∀ g ∈ [(129, 184), (0, 0)], (windTarget t g.1 g.2).code ≤ w.level.code ∧
      clearOf t g.1 g.2 w.level = true) ∧
    ([(129, 184), (0, 0)] : List (Nat × Nat)).length = t.exitPersistence ∧
    ([(129, 184), (0, 0)] : List (Nat × Nat)).length < WindTable.default.exitPersistence ∧
    clearOf t 130 184 w.level = false := by decide

theorem witness_TraceTakeShortens :
    let s := { riding with trace := workedTrace }
    s.ready ∧ TraceInv s ∧ s.trace.entries ≠ [] ∧ TraceInv riding ∧ riding.trace.entries = [] ∧
    (s.trace.entries.drop 1).any TraceEntry.bearsValue = true ∧
    (s.trace.entries.drop 8).any TraceEntry.bearsValue = false ∧
    (1 : Byte).toNat = 1 ∧ (16 : Byte).toNat = 16 ∧ 16 < (17 : Byte).toNat := by decide +kernel

/-! ### Holds and snapshots -/

theorem witness_HoldPlaceAnswered :
    riding.ready ∧ HoldInv riding ∧ riding.entry .console = none ∧
    HoldInv (consoleHeld .slow) ∧ (consoleHeld .slow).ready ∧
    ((consoleHeld .slow).entry .console).map (fun e => e.cls.code) = some 2 ∧
    HoldClass.noBoard.code = (1 : Byte).toNat ∧ HoldClass.stop.code = (4 : Byte).toNat ∧
    4 < (5 : Byte).toNat := by decide +kernel

theorem witness_HoldReleaseAnswered :
    (lost.ready ∧ HoldInv lost ∧ RunInv lost ∧
      (lost.entry .position).map (fun e => e.latched) = some true) ∧
    (State.reset.ready ∧ HoldInv State.reset ∧ RunInv State.reset ∧
      (State.reset.entry .position).map (fun e => e.latched) = some false ∧
      (State.reset.entry .masts).isSome = true ∧ State.reset.entry .wind = none) ∧
    (silent.ready ∧ HoldInv silent ∧ RunInv silent ∧
      (silent.entry .drive).map (fun e => e.present) = some true) ∧
    (resumed.ready ∧ HoldInv resumed ∧ RunInv resumed ∧
      (resumed.entry .drive).map (fun e => e.present) = some false) ∧
    HoldSource.wind.code = (1 : Byte).toNat ∧ HoldSource.console.code = (8 : Byte).toNat := by
  refine ⟨?_, ?_, ?_, ?_, ?_, ?_⟩ <;> decide +kernel

theorem witness_SnapshotsKeepFirstAndLast :
    riding.ready ∧ SnapInv riding ∧ riding.snaps.unread = 0 ∧
    snapped.ready ∧ SnapInv snapped ∧ snapped.snaps.unread = 2 := by decide +kernel

/-! ### Motion profiles -/

theorem witness_ProfileRunStarted :
    (profiled.ready ∧ RunInv profiled ∧ profiled.modeRec.mode = .service ∧
      profiled.run.running = false) ∧
    (profileTables.getD 0 []).head? = some (dwellStep false) ∧
    (profileTables.getD 1 []).head?.map (fun x => x.param / 8) = some 40 ∧
    profiled.ride.n ≤ 40 ∧
    (profileTables.getD 7 []).head? = some ⟨0, 0, .clear, 0, 0, false⟩ ∧
    (State.reset.ready ∧ RunInv State.reset ∧ State.reset.modeRec.mode = .setup) ∧
    ((running 0 0).ready ∧ RunInv (running 0 0) ∧ (running 0 0).run.running = true) ∧
    (consoleHeld .stop).ready ∧ RunInv (consoleHeld .stop) ∧
    7 < (8 : Byte).toNat ∧ 1 < (2 : Byte).toNat := by
  refine ⟨?_, ?_, ?_, ?_, ?_, ?_, ?_, ?_⟩ <;> decide +kernel

/-- An ALL_EMPTY step 0 on an empty rim, which leads on at once, and with a cabin LOADED. -/
theorem witness_ProfileRunStarted_all_empty :
    let s : State := { riding with
      profiles := (⟨50, 20, .allEmpty, 0, 5000, false⟩ :: dwellStep true ::
        List.replicate 14 Step.clearStep) :: profileTables.drop 1 }
    let t : State := { s with
      cabins := riding.cabins.set 6 { cabinOn 6 with state := .loaded, count := 2 } }
    s.ready ∧ RunInv s ∧ s.allEmpty = true ∧ (s.profiles.getD 0 []).length = 16 ∧ t.allEmpty = false ∧
    (after (.profileRun 3 0 0 0) s).run.step = 1 ∧ (after (.profileRun 3 0 0 0) t).run.step = 0 := by
  decide +kernel

theorem witness_DwellMetAdvances :
    (running 0 0).run.running = true ∧ (running 0 0).run.dwellTimer ≠ none ∧
    (running 0 0).runSteps[1]? = some (dwellStep true) ∧
    (running 0 0).run.step + 1 < profileLength (running 0 0).runSteps ∧
    profileLength (running 1 2).runSteps ≤ (running 1 2).run.step + 1 ∧
    (running 1 2).run.repeats = 1 + 1 ∧ riding.run.running = false ∧
    (dwellStep true).kind ≠ .allEmpty ∧ (dwellStep true).kind ≠ .cabinAt := by decide +kernel

/-- A run of profile 0 at step 0, its steps `x` and then `y`, the last, with one repeat left. -/
def runOf (x y : Step) : State :=
  { running 0 1 with
    profiles := ([x, { y with last := true }] ++ List.replicate 14 Step.clearStep) :: profileTables.drop 1 }

/-- A step of this kind and parameter. -/
def stepOn (kind : StepKind) (param : Nat) : Step := ⟨50, 20, kind, param, 5000, false⟩

/-- What a step met leads to: an ALL_EMPTY step next, met at once on an empty rim and waited for with a
cabin LOADED; a CABIN_AT step next, of cabin 6, of one beyond N and of one out of service. -/
theorem witness_DwellMetAdvances_next :
    let next (y : Step) (s : State) : RunRecord × List Frame :=
      let t := after .dwellTimerExpiry { s with profiles := (runOf (dwellStep false) y).profiles }
      (t.run, t.consoleQueue)
    let loadedRim : State := { running 0 1 with
      cabins := riding.cabins.set 6 { cabinOn 6 with state := .loaded, count := 2 } }
    let outRim : State := { running 0 1 with
      cabins := riding.cabins.set 6 { cabinOn 6 with state := .outOfService, inService := false } }
    (runOf (dwellStep false) (stepOn .allEmpty 0)).allEmpty = true ∧ loadedRim.allEmpty = false ∧
    (runOf (dwellStep false) (stepOn .allEmpty 0)).runSteps.length = 16 ∧
    ((next (stepOn .allEmpty 0) (running 0 1)).1.step,
      (next (stepOn .allEmpty 0) (running 0 1)).1.repeats) = (0, 0) ∧
    ((next (stepOn .allEmpty 0) loadedRim).1.step,
      (next (stepOn .allEmpty 0) loadedRim).1.repeats) = (1, 1) ∧
    (next (stepOn .cabinAt 49) (running 0 1)).1.running = true ∧
    (next (stepOn .cabinAt 257) (running 0 1)).1.lastEnd = some .fault ∧
    (next (stepOn .cabinAt 49) outRim) =
      ({ (running 0 1).run with
          step := 1, stepStart := 10000, begunNow := true, running := false, finalTime := 0
          dwellTimer := none, durationTimer := none, lastEnd := some .fault },
        [⟨0x21, 0, [0x20, 9, 0, 1, 20, 0, 1, 1]⟩]) := by decide +kernel

/-- The conditions at a FEEDBACK, each at the end of its range and just past it: SPEED at 5 and 6 mm/s
from the order, with the order gone out and not; CABIN_AT of cabin 6 at a_start with that crossing and with
another; REVOLUTION at a step travel of 320,000 and of one less; a step begun in the frame; and a change
of a cabin's state in an ALL_EMPTY step. -/
theorem witness_DwellMetAdvances_conditions :
    let goes (x : Step) (diff speed : Int) (crossed : List (Nat × Point)) (r : RunRecord → RunRecord) :=
      let s := runOf x (dwellStep true)
      (profileFeedback diff speed crossed
        { s with run := r s.run, out := { s.out with v := 50000, setpoint := 50 } }).run.step
    let plain (r : RunRecord) : RunRecord := r
    let ordered (r : RunRecord) : RunRecord := { r with ordersInStep := true }
    (goes (stepOn .speed 0) 0 55 [] ordered, goes (stepOn .speed 0) 0 56 [] ordered,
      goes (stepOn .speed 0) 0 50 [] plain) = (1, 0, 0) ∧
    (goes (stepOn .cabinAt 50) 0 0 [(6, .aStart)] plain, goes (stepOn .cabinAt 50) 0 0
      [(6, .bStart), (5, .aStart), (6, .idEnd)] plain) = (1, 0) ∧
    (goes (stepOn .revolution 0) 320000 0 [] plain, goes (stepOn .revolution 0) 319999 0 [] plain,
      goes (stepOn .revolution 0) 320000 0 [] fun r => { r with begunNow := true }) = (1, 0, 0) ∧
    (runOf (stepOn .speed 0) (dwellStep true)).runSteps[0]? = some (stepOn .speed 0) ∧
    (cabinChanged (runOf (stepOn .allEmpty 0) (dwellStep true))).run.step = 1 ∧
    (cabinChanged { runOf (stepOn .allEmpty 0) (dwellStep true) with
      cabins := (withCabin 6 { cabinOn 6 with state := .unverified }).cabins }).run.step = 0 := by
  decide +kernel

/-- A CABIN_AT run whose cabin, 6, EMPTY, is taken out. -/
theorem witness_RunEndsWhole_taken_out :
    let s := runOf (stepOn .cabinAt 49) (dwellStep true)
    s.ready ∧ s.run.running = true ∧ s.runSteps[s.run.step]? = some (stepOn .cabinAt 49) ∧
    (stepOn .cabinAt 49).param / 8 = (6 : Byte).toNat ∧ s.cabins[6]? = some (cabinOn 6) ∧
    (after (.cabinSetTakeOut 3 6 0) s).consoleQueue =
      [⟨0x21, 0, [0x20, 9, 0, 1, 20, 0, 0, 1]⟩, ⟨0x21, 0, [0x11, 3, 0, 1, 0, 0, 0, 0]⟩] := by
  decide +kernel

theorem witness_RunEndsWhole :
    (running 1 0).run.running = true ∧ (running 1 0).run.dwellTimer ≠ none ∧
    profileLength (running 1 0).runSteps ≤ (running 1 0).run.step + 1 ∧
    (running 1 0).run.durationTimer ≠ none ∧ (running 1 0).ready ∧ riding.ready ∧
    riding.run.running = false := by decide +kernel

/-! ### Tables, modes and cabin sets -/

theorem witness_ModeSetJudged :
    riding.ready ∧ riding.modeRec.mode = .service ∧ loaded.ready ∧ loaded.modeRec.mode = .setup ∧
    loaded.modeRec.checked = false ∧ loaded.commitFailure = none ∧
    State.reset.commitFailure = some 1 ∧
    { loaded with modeRec := ⟨.setup, true, false⟩, still := ⟨none, false⟩ }.commitFailure =
      some 11 ∧
    ({ riding with out := OutputRecord.initial, still := ⟨some 0, true⟩ } : State).mayReturnToSetup =
      true ∧ riding.mayReturnToSetup = false := by decide +kernel

theorem witness_RestartTakesEffect :
    riding.ready ∧ loaded.ready ∧ loaded.modeRec.mode = .setup ∧
    loaded.modeRec.restartPending = false ∧ restarting.modeRec.restartPending = true ∧
    restarting.occupied = false ∧ restarting.rx.field = .empty ∧
    (after .restartTakesEffect
      { restarting with rx := ⟨.empty, .empty, .receiving⟩ }).rx.field = .lost := by decide +kernel

/-- The first and last table identities and elements, a wrong length, one element too many, and a field
out of range in the second element of two. -/
theorem witness_TableWriteTested :
    loaded.ready ∧ loaded.modeRec.mode = .setup ∧ riding.modeRec.mode = .service ∧
    tableOf 0 = none ∧ tableOf 8 = none ∧ tableOf 15 = none ∧ tableOf 24 = none ∧
    (zoneBytes zoneTable).length = 22 ∧ zoneOf (zoneBytes zoneTable) = some zoneTable ∧
    passOf [0x61, 3, 0, 1] = some ⟨0x61, 3, false, true⟩ ∧ passOf [0x61, 0, 0, 1] = none ∧
    loaded.passList.length = 8 ∧
    stepOf (stepBytes (dwellStep true)) = some (dwellStep true) ∧
    (loaded.profiles[7]?).map (fun p => p.length) = some 16 ∧
    (pollEntryOf [10, 2, 0]).isSome = true ∧ pollEntryOf [10, 9, 0] = none := by decide +kernel

/-- SETUP with the tracker LOCKED and nobody at the platform. -/
def lockedInSetup : State :=
  { riding with modeRec := ⟨.setup, true, false⟩, expiries := ⟨false, false⟩ }

/-- A RIDE table with the stored N and pitch and with another N; two CABIN elements to the last; a WIND
table; two MAST elements to the last; and the POLL element 0, a first entry in IDLE and in a cycle with
the pending mark CLEAR and SET, and a station's entry. -/
theorem witness_TableWriteTested_stores :
    let other := { rideTable with n := 31 }
    rideOf (rideBytes other) = some other ∧ (rideBytes other).length = 35 ∧ HoldInv loaded ∧
    loaded.tracker.state = .searching ∧ lockedInSetup.ready ∧ HoldInv lockedInSetup ∧
    (∀ c ∈ lockedInSetup.cabins, c.state ≠ .alighting ∧ c.state ≠ .boarding) ∧
    ((after (.tableWrite 0 1 0 (rideBytes other)) lockedInSetup).tracker.state,
      (after (.tableWrite 0 1 0 (rideBytes rideTable)) lockedInSetup).tracker.state) =
      (.searching, .locked) ∧
    ((after (.tableWrite 0 3 62 (cabinBytes (cabinOn 1) ++ cabinBytes (cabinOn 2))) loaded).cabins.map
      fun c => c.state).drop 62 = [.unverified, .unverified] ∧
    loaded.cabins.length = 64 ∧ loaded.run.running = false ∧
    windOf (windBytes WindTable.default) = some WindTable.default ∧
    ((after (.tableWrite 0 5 2 [29, 2, 0, 1, 30, 2, 0, 0]) loaded).masts.map fun m => m.address) =
      [1, 2, 29, 30] ∧ loaded.masts.length = 4 ∧
    loaded.pollEntries.length = 16 ∧ loaded.results.length = 16 ∧ loaded.poller.phase = .idle ∧
    ((after (.tableWrite 0 6 1 [3, 1, 0]) { loaded with
      poller := { (polling .settling 2).poller with pendingMark := true } }).poller.inFlight,
     (after (.tableWrite 0 6 1 [3, 1, 0]) { loaded with
      poller := (polling .settling 2).poller }).poller.inFlight) = (some 0, none) ∧
    ((after (.tableWrite 0 6 3 [12, 2, 0]) { loaded with
      alightStation := ⟨none, true, .stale⟩ }).alightStation) = ⟨none, false, .unknown⟩ := by
  decide +kernel

theorem witness_ElementsRoundTrip :
    rideTable.inRange = true ∧ zoneTable.inRange = true ∧ WindTable.default.inRange = true ∧
    pollParamsOf (pollParamsBytes PollParams.default) = some PollParams.default ∧
    pollEntryOf [30, 4, 1] = some ⟨30, .tagReader, true⟩ ∧ mastOf [30, 2, 0, 1] = some ⟨30, 512, true⟩ ∧
    cabinOf [1, 2, 3, 4, 5, 6, 7, 8, 40, 1] = some ⟨[1, 2, 3, 4, 5, 6, 7, 8], 40, true⟩ ∧
    stepOf (stepBytes ⟨-600, 500, .speed, 0, 100, false⟩) = some ⟨-600, 500, .speed, 0, 100, false⟩ := by
  decide +kernel

theorem witness_CabinSetServed :
    let unverified := { cabinOn 6 with state := .unverified }
    riding.ready ∧ riding.cabins[31]? = some (cabinOn 31) ∧ riding.cabins[32]? = some Cabin.notLoaded ∧
    riding.ride.n ≤ (32 : Byte).toNat ∧ (31 : Byte).toNat < riding.ride.n ∧
    (withCabin 6 unverified).ready ∧ (withCabin 6 unverified).cabins[6]? = some unverified ∧
    ((after (.cabinSetTakeOut 3 6 0) riding).cabins[6]?).map (fun c => (c.state, c.capacity)) =
      some (.outOfService, 8) ∧
    (let s := { runOf (stepOn .allEmpty 0) (dwellStep true) with
      cabins := (withCabin 6 unverified).cabins }
    s.ready ∧ (after (.cabinSetVerify 3 6 0) s).run.step = 1 ∧
      (after (.cabinSetVerify 3 6 1) s).run.step = 0) := by decide +kernel

/-! ### Frames and requests -/

theorem witness_FramesRoundTrip :
    let f : Frame := ⟨0x10, 0, [0, 255]⟩
    let g : Frame := ⟨0xff, 0xff, []⟩
    (List.replicate 60 (7 : Byte)).length ≤ 60 ∧ f.payload.length ≤ 60 ∧ frameOf (received f) = some f ∧
      frameOf (received g) = some g := by decide +kernel

/-- Frames of 4 and of 66 characters, and one failing by each of the other tests. -/
theorem witness_FailingFramesDiscarded :
    let set := (⟨0x10, 0, [0, 100]⟩ : Frame).chars
    receptionOf .console ⟨List.replicate 4 0, true⟩ = none ∧
    receptionOf .console ⟨List.replicate 66 0, true⟩ = none ∧
    receptionOf .console ⟨set, true⟩ = some (.setpoint 100) ∧
    receptionOf .console ⟨set, false⟩ = none ∧ receptionOf .drive ⟨set, true⟩ = none ∧
    receptionOf .console (received ⟨0x10, 1, [0, 100]⟩) = none ∧
    receptionOf .console (received ⟨0x10, 0, [100]⟩) = none ∧
    receptionOf .console (received ⟨0x11, 0, [1]⟩) = none ∧
    receptionOf .drive (received ⟨0x31, 0, List.replicate 12 0⟩) = none ∧
    receptionOf .drive (received ⟨0x31, 0, List.replicate 6 0 ++ [2] ++ List.replicate 6 0⟩) = none := by
  decide +kernel

/-- 13 frames leave 3 places and 14 leave 2; with the marker set, 12 and 13. -/
theorem witness_RequestsBufferedAndTested :
    (queueOf 13 riding).freePlaces = 3 ∧ (queueOf 14 riding).freePlaces = 2 ∧
    (queueOf 12 (running 0 0)).freePlaces = 3 ∧ (queueOf 13 (running 0 0)).freePlaces = 2 ∧
    riding.requests = [] ∧ riding.consoleQueue = [] ∧
    ({ queueOf 14 riding with requests := [⟨1, 0, []⟩] } : State).requests = [⟨1, 0, []⟩] ∧
    (after .consoleFrameSent { queueOf 14 riding with
      requests := [⟨0x18, 0, [9]⟩, ⟨0x18, 1, [9]⟩] }).requests = [⟨0x18, 1, [9]⟩] ∧
    (after .consoleFrameSent { queueOf 13 riding with
      requests := [⟨0x18, 0, [9]⟩, ⟨0x18, 1, [9]⟩] }).requests = [] ∧
    ((after (.restart 3) loaded).consoleQueue, (after (.restart 3) loaded).modeRec.restartPending) =
      ([onePart 0x03 3 0 []], true) := by decide +kernel

theorem witness_AuxFramesPassed :
    let s := { riding with passList :=
      ⟨0x61, 2, true, true⟩ :: ⟨0x60, 3, false, true⟩ :: List.replicate 6 PassElement.unsetElement }
    s.passes .drive 0x61 = true ∧ s.passes .console 0x61 = false ∧ s.passes .console 0x60 = true ∧
    s.passes .drive 0x62 = false ∧ s.driveQueue.aux.length < 3 ∧ (queueOf 16 s).hasRoom = false := by
  decide +kernel

theorem witness_StatusRecordSent :
    riding.ready ∧ (queueOf 15 riding).hasRoom = true ∧ (queueOf 16 riding).hasRoom = false := by
  decide +kernel

theorem witness_ReadRequestsAnswered :
    riding.ready ∧ Inv riding ∧ tableOf 16 = some (.profile 0) ∧ tableOf 9 = none ∧
    (TableId.profile 0).elements = 16 ∧ (8 : Byte).toNat + (8 : Byte).toNat = 16 :=
  ⟨by decide +kernel, witness_Inv.1, by decide, by decide, rfl, rfl⟩

end Sys2Proof.Tests
end

/-! ## What the blocks leave to the drive gate (R2, R5)

The output record and the armed flag belong to the drive gate.  Each operation `f` of the other blocks has
a lemma `after_f`: what was left alone up to `t` is left alone up to `f t`, so that the lemmas of an event's
operations chain in the order of its work.  Declarations are elaborated one at a time, as in the tests: the
threads of a long text do not fit the check's memory otherwise. -/

namespace Sys2Proof.Machine

set_option Elab.async false

variable {s t : State}

/-- From `s` to `t` the output record is left alone and nothing arms. -/
structure Inert (s t : State) : Prop where
  out : t.out = s.out
  disarmed : s.req.armed = false → t.req.armed = false

/-- The work of a block inside an event: it is inert, starts no run and reports no full queue. -/
structure Quiet (s t : State) : Prop extends Inert s t where
  idle : s.run.running = false → t.run.running = false
  queueFull : t.latched.queueFull = s.latched.queueFull

namespace Inert

theorem refl (s : State) : Inert s s := ⟨rfl, id⟩

theorem trans {u : State} (h : Inert s t) (k : Inert t u) : Inert s u :=
  ⟨k.out.trans h.out, fun hs => k.disarmed (h.disarmed hs)⟩

/-- A change that leaves the output record and the requested-speed record. -/
theorem keep {t' : State} (h : Inert s t) (ho : t'.out = t.out := by simp)
    (hr : t'.req = t.req := by simp) : Inert s t' :=
  ⟨ho.trans h.out, fun hs => by rw [hr]; exact h.disarmed hs⟩

end Inert

namespace Quiet

theorem refl (s : State) : Quiet s s := ⟨.refl s, id, rfl⟩

theorem trans {u : State} (h : Quiet s t) (k : Quiet t u) : Quiet s u :=
  ⟨h.toInert.trans k.toInert, fun hs => k.idle (h.idle hs), k.queueFull.trans h.queueFull⟩

/-- A change that leaves the output record, the requested-speed record, the run record and the latched
event set. -/
theorem keep {t' : State} (h : Quiet s t) (ho : t'.out = t.out := by simp)
    (hr : t'.req = t.req := by simp) (hu : t'.run = t.run := by simp)
    (hl : t'.latched = t.latched := by simp) : Quiet s t' :=
  ⟨h.toInert.keep ho hr, fun hs => by rw [hu]; exact h.idle hs, by rw [hl]; exact h.queueFull⟩

theorem ite {c : Prop} [Decidable c] {t' : State} (h : Quiet s t) (h' : Quiet s t') :
    Quiet s (if c then t else t') := by
  split
  · exact h
  · exact h'

/-! ### Flags and runs -/

theorem after_latch (h : Quiet s t) {e : Event} (he : e ≠ .queueFull) : Quiet s (latch e t) where
  toInert := h.toInert.keep
  idle hs := by simpa using h.idle hs
  queueFull := by
    rw [← h.queueFull]
    cases e with
    | queueFull => exact absurd rfl he
    | _ => rfl

theorem after_latchIf (h : Quiet s t) (c : Bool) {e : Event} (he : e ≠ .queueFull) :
    Quiet s (latchIf c e t) := by
  cases c
  · exact h
  · exact h.after_latch he

theorem after_endRun (h : Quiet s t) (e : EndStatus) : Quiet s (endRun e t) := by
  rw [endRun_eq]
  exact ⟨⟨h.out, fun _ => rfl⟩, fun _ => rfl, h.queueFull⟩

theorem after_startStep (h : Quiet s t) : Quiet s (startStep t) :=
  ⟨⟨h.out, h.disarmed⟩, h.idle, h.queueFull⟩

/-- The step after a met one differs in the run's step and repeats alone. -/
theorem of_nextStep (h : Quiet s t) {u : State} (hn : nextStep t = some u) : Quiet s u := by
  unfold nextStep at hn
  split at hn
  · cases hn; exact ⟨⟨h.out, h.disarmed⟩, h.idle, h.queueFull⟩
  · split at hn
    · cases hn; exact ⟨⟨h.out, h.disarmed⟩, h.idle, h.queueFull⟩
    · cases hn

theorem after_beginStep (h : Quiet s t) (n : Nat) : Quiet s (beginStep n t) := by
  induction n generalizing t with
  | zero => exact h.after_startStep
  | succ n ih =>
    unfold beginStep
    split
    · exact h.after_startStep.after_endRun .fault
    · split
      · split
        · exact h.after_startStep.after_endRun .complete
        · next hn => exact ih (h.after_startStep.of_nextStep hn)
      · exact h.after_startStep

theorem after_stepMet (h : Quiet s t) : Quiet s (stepMet t) := by
  unfold stepMet
  split
  · exact h.after_endRun .complete
  · next hn => exact (h.of_nextStep hn).after_beginStep _

theorem after_cabinChanged (h : Quiet s t) : Quiet s (cabinChanged t) :=
  .ite h.after_stepMet h

theorem after_cabinTakenOut (h : Quiet s t) (k : Nat) : Quiet s (cabinTakenOut k t) :=
  .ite (h.after_endRun .fault) h.after_cabinChanged

theorem after_profileFeedback (h : Quiet s t) (d v : Int) (xs : List (Nat × Point)) :
    Quiet s (profileFeedback d v xs t) :=
  have h' : Quiet s { t with run := { t.run with travel := t.run.travel + BitVec.ofInt 32 d } } :=
    ⟨⟨h.out, h.disarmed⟩, h.idle, h.queueFull⟩
  .ite h'.after_stepMet h'

theorem after_profileCycleEnd (h : Quiet s t) : Quiet s (profileCycleEnd t) :=
  .ite h.after_stepMet h

/-! ### Holds -/

theorem after_capture (h : Quiet s t) (e : HoldEntry) : Quiet s (capture e t) := by
  unfold capture
  split
  · exact h.keep
  · exact (h.keep : Quiet s { t with snaps := _ }).after_latch (by decide)

theorem after_stopEffects (h : Quiet s t) (e : HoldEntry) : Quiet s (stopEffects e t) := by
  have h' : Quiet s { t with req := { t.req with armed := false } } :=
    ⟨⟨h.out, fun _ => rfl⟩, h.idle, h.queueFull⟩
  exact (ite (h'.after_endRun .held) h').after_capture e

theorem after_stopEffectsIf (h : Quiet s t) (c : Bool) (e : HoldEntry) :
    Quiet s (stopEffectsIf c e t) :=
  .ite (h.after_stopEffects e) h

theorem after_addEntry (h : Quiet s t) (e : HoldEntry) : Quiet s (addEntry e t) := by
  have h' : Quiet s { t with holds := t.holds ++ [e] } := h.keep
  exact (ite h'.keep h').after_stopEffectsIf _ e

theorem after_causeReport (h : Quiet s t) (src : HoldSource) (k : Nat) (c : HoldClass)
    (sub : Option Nat) : Quiet s (causeReport src k c sub t) := by
  unfold causeReport
  split
  · exact h.after_addEntry _
  · exact (h.keep : Quiet s (putEntry _ t)).after_stopEffectsIf _ _

theorem after_retest (h : Quiet s t) : Quiet s (retest t) := h.keep

theorem after_barBoarding (h : Quiet s t) : Quiet s (barBoarding t) := h.keep

/-! ### Cabins and platform stations -/

theorem after_convert (h : Quiet s t) : Quiet s (convert t) := by
  have h' : Quiet s { t with cabins := t.cabins.map (Cabin.converted t.ms) } := h.keep
  exact ite h'.after_cabinChanged h'

theorem after_stationStale (h : Quiet s t) (p : Station) : Quiet s (stationStale p t) := by
  unfold stationStale
  split
  · exact h.after_causeReport ..
  · exact (h.after_causeReport ..).after_causeReport ..

theorem after_stationFreshness (h : Quiet s t) (p : Station) (f : Freshness) :
    Quiet s (stationFreshness p f t) := by
  have h1 : Quiet s (writeStation p { t.station p with freshness := f } t) := h.keep
  have h2 := ite (c := p = .board ∧ ((t.station p).freshness = .fresh ∨ f = .stale))
    h1.after_barBoarding h1
  exact ite h (ite (h2.after_stationStale p) h2).after_retest

theorem after_takeStationAnswer (h : Quiet s t) (p : Station) (a : StationAnswer) :
    Quiet s (takeStationAnswer p a t) := by
  have answer {u : State} (hu : Quiet s u) (c : Nat) : Quiet s (applyAnswer a c u) := by
    have h' : Quiet s (modifyCabin c
      (fun x => { x with door := a.door, zoneCount := a.count, hasValid := true }) u) := hu.keep
    exact ite (h'.after_causeReport ..) h'
  have button {u : State} (hu : Quiet s u) : Quiet s (takeButton p a.pressed u) := by
    have h' : Quiet s (writeStation p { u.station p with pressed := a.pressed } u) := hu.keep
    exact ite (h'.after_causeReport ..) h'
  exact (button (ite (answer h _) h)).after_retest

/-! ### The rim tracker and the crossings -/

theorem after_reportTracker (h : Quiet s t) : Quiet s (reportTracker t) := by
  unfold reportTracker
  split
  · exact (h.after_causeReport ..).after_convert
  · exact h.after_causeReport ..
  · exact h.keep
  · exact (h.after_causeReport ..).after_convert

theorem after_setTracker (h : Quiet s t) (r : Tracker) : Quiet s (setTracker r t) := by
  have h' : Quiet s { t with tracker := r } := h.keep
  exact ite h' h'.after_reportTracker

theorem after_trackFeedback (h : Quiet s t) (b : Bool) (f : FeedbackFields) :
    Quiet s (trackFeedback b f t) :=
  ((h.after_latchIf _ (by decide)).after_latchIf _ (by decide)).after_setTracker _

theorem after_searchRead (h : Quiet s t) (j : Nat) : Quiet s (searchRead j t) := by
  unfold searchRead
  split
  · exact h
  · exact h.after_setTracker _

theorem after_takeOutcome (h : Quiet s t) (o : IdOutcome) : Quiet s (takeOutcome o t) := by
  have h' (r : Tracker) : Quiet s { t with tracker := r } := h.keep
  unfold takeOutcome
  split
  · exact h.after_setTracker _
  · split
    · exact h
    · exact h' _
    · exact ite (h' _) (h' _).after_convert
  · exact h

theorem after_openWindow (h : Quiet s t) (k : Nat) : Quiet s (openWindow k t) := ite h.keep h

theorem after_closeWindow (h : Quiet s t) (k : Nat) : Quiet s (closeWindow k t) :=
  ite (((h.keep : Quiet s (modifyCabin k _ t)).after_latchIf _ (by decide)).after_takeOutcome _) h

theorem after_crossAStart (h : Quiet s t) (k : Nat) : Quiet s (crossAStart k t) :=
  ite (h.keep : Quiet s (modifyCabin k _ t)).after_cabinChanged h

theorem after_crossBStart (h : Quiet s t) (k : Nat) : Quiet s (crossBStart k t) :=
  ite ((h.keep : Quiet s (modifyCabin k _ t)).after_latchIf _ (by decide)).after_cabinChanged h

theorem after_crossLock (h : Quiet s t) (k : Nat) : Quiet s (crossLock k t) :=
  ite (h.after_causeReport ..) h

theorem after_passEnd (h : Quiet s t) (k : Nat) : Quiet s (passEnd k t) := by
  have h' := ((h.keep : Quiet s (modifyCabin k (fun x => x.leaveBoardZone t.ms) t)).after_latchIf
    ((t.cabin k).confirmed && decide ((t.cabin k).capacity < (t.cabin k).zoneCount))
    (e := .countSaturated) (by decide)).after_cabinChanged
  exact ite h' (h'.after_causeReport ..)

theorem after_crossBEnd (h : Quiet s t) (k : Nat) : Quiet s (crossBEnd k t) := by
  have h' : Quiet s (modifyCabin k (fun c => { c with withheld := none }) t) := h.keep
  exact ite (h'.after_passEnd k) h'

theorem after_takeCrossing (h : Quiet s t) (k : Nat) (p : Point) :
    Quiet s (takeCrossing k p t) :=
  match p with
  | .idStart => h.after_openWindow k
  | .idEnd => h.after_closeWindow k
  | .aStart => h.after_crossAStart k
  | .bStart => h.after_crossBStart k
  | .lock => h.after_crossLock k
  | .bEnd => h.after_crossBEnd k

theorem after_takeCrossings (h : Quiet s t) (xs : List (Nat × Point)) :
    Quiet s (takeCrossings xs t) := by
  induction xs generalizing t with
  | nil => exact h
  | cons x xs ih => exact ite (ih (h.after_takeCrossing ..)) (h.after_takeCrossing ..)

theorem after_boardFeedback (h : Quiet s t) (b : Tracker) : Quiet s (boardFeedback b t) := by
  unfold boardFeedback
  split
  · exact h
  · exact ite h.after_convert (h.after_takeCrossings _)

theorem after_takeTagAnswer (h : Quiet s t) (a : TagAnswer) : Quiet s (takeTagAnswer a t) := by
  unfold takeTagAnswer
  split
  · split
    · exact h.after_latch (by decide)
    · split
      · exact h.after_searchRead _
      · exact h.keep
      · exact h.keep
      · exact h
  · exact h

/-! ### The drive gate's own part of a FEEDBACK -/

theorem after_gateFeedback (h : Quiet s t) (f : FeedbackFields) : Quiet s (gateFeedback f t) := by
  have taken (r : FeedbackRecord) (x : Standstill) : Quiet s
      { t with fb := r, still := x, run := { t.run with begunNow := false } } :=
    ⟨⟨h.out, h.disarmed⟩, h.idle, h.queueFull⟩
  exact ite (taken _ _).after_retest ((taken _ _).after_retest.after_causeReport ..)

theorem after_feedbackTurns (h : Quiet s t) (f : FeedbackFields) :
    Quiet s (feedbackTurns f t) :=
  ((((h.after_gateFeedback f).after_trackFeedback _ f).after_boardFeedback
    t.tracker).after_profileFeedback ..).after_retest

theorem after_feedbackSilent (h : Quiet s t) : Quiet s (feedbackSilent t) :=
  (h.keep : Quiet s { t with fb := _, still := _ }).after_retest.after_causeReport ..

/-! ### The wind monitor and the field poller -/

theorem after_windCycleEnd (h : Quiet s t) : Quiet s (windCycleEnd t) := by
  have wind {u : State} (hu : Quiet s u) : Quiet s (reportWind u) := by
    unfold reportWind
    split
    · exact hu.keep
    · exact hu.keep
    · exact hu.after_causeReport ..
    · exact hu.after_causeReport ..
  have masts {u : State} (hu : Quiet s u) : Quiet s (reportMasts u) :=
    ite (hu.after_causeReport ..) (ite (hu.after_causeReport ..) hu.keep)
  have trace {u : State} (hu : Quiet s u) (l : WindLevel) : Quiet s (appendTrace l u) :=
    ite ((hu.keep : Quiet s { u with trace := _ }).after_latchIf _ (by decide))
      ((hu.keep : Quiet s { u with trace := _ }).after_latchIf _ (by decide))
  exact trace (masts (wind h.keep)) _

theorem after_finishCycle (h : Quiet s t) : Quiet s (finishCycle t) :=
  (h.keep : Quiet s { t with poller := _ }).after_windCycleEnd.after_profileCycleEnd

theorem after_startCycle (h : Quiet s t) : Quiet s (startCycle t) := by
  refine ite h ?_
  split
  · exact h.keep
  · exact h.after_finishCycle

theorem after_endCycle (h : Quiet s t) : Quiet s (endCycle t) :=
  ite (h.after_finishCycle.keep : Quiet s { finishCycle t with poller := _ }).after_startCycle
    h.after_finishCycle

theorem after_moveOn (h : Quiet s t) (i : Nat) : Quiet s (moveOn i t) := by
  unfold moveOn
  split
  · exact h.keep
  · exact h.after_endCycle

theorem after_requestCycle (h : Quiet s t) : Quiet s (requestCycle t) :=
  ite h.keep h.after_startCycle

theorem after_recordResult (h : Quiet s t) (i : Nat) (r : PollResult) :
    Quiet s (recordResult i r t) := by
  have fresh {u : State} (hu : Quiet s u) (f : Freshness) : Quiet s (reportFreshness i f u) := by
    unfold reportFreshness
    split
    · exact hu.keep
    · exact ite (hu.after_stationFreshness ..) hu
    · exact ite (hu.after_stationFreshness ..) hu
    · exact hu
    · exact hu
  have h' (rs : List ResultRecord) : Quiet s { t with results := rs } := h.keep
  exact ite (h' _) (fresh (h' _) _)

theorem after_handContent (h : Quiet s t) (i : Nat) (c : AnswerContent) :
    Quiet s (handContent i c t) := by
  cases c with
  | mast a => exact (h.keep : Quiet s { t with masts := _ }).after_latchIf _ (by decide)
  | station p a => exact ite (h.after_takeStationAnswer p a) h
  | tag a => exact h.after_takeTagAnswer a

theorem after_settleFrame (h : Quiet s t) (i : Nat) (raw : RawFrame) :
    Quiet s (settleFrame i raw t) := by
  unfold settleFrame
  split
  · exact ((h.after_latch (by decide)).after_recordResult ..).after_moveOn i
  · split
    · exact (h.after_recordResult ..).after_moveOn i
    · exact ((h.after_recordResult ..).after_handContent ..).after_moveOn i

theorem after_discardFieldFrame (h : Quiet s t) : Quiet s (discardFieldFrame t) :=
  ite h.keep ((h.keep : Quiet s (setFieldBuffer .empty t)).after_latch (by decide))

theorem after_fieldFrame (h : Quiet s t) (raw : RawFrame) : Quiet s (fieldFrame raw t) := by
  obtain ⟨i, -, hi⟩ | ⟨-, hi⟩ := fieldFrame_cases raw t <;> rw [hi]
  · exact (h.keep : Quiet s (setFieldBuffer .empty t)).after_settleFrame i raw
  · exact h.after_discardFieldFrame

theorem after_overrun (h : Quiet s t) (i : Nat) : Quiet s (overrun i t) :=
  ((h.keep : Quiet s (setFieldBuffer .receiving t)).after_recordResult ..).after_moveOn i

end Quiet

end Sys2Proof.Machine


/-! ## The requests and the commands, one by one -/

namespace Sys2Proof.Machine

set_option Elab.async false

variable {s t : State}

namespace Inert

theorem ite {c : Prop} [Decidable c] {t' : State} (h : Inert s t) (h' : Inert s t') :
    Inert s (if c then t else t') := by
  split
  · exact h
  · exact h'

theorem ite_served {c : Prop} [Decidable c] {x y : Served} (h : Inert s x.2) (h' : Inert s y.2) :
    Inert s (if c then x else y).2 := by
  split
  · exact h
  · exact h'

/-- Whatever a quiet operation leads to is inert too. -/
theorem and_quiet {u : State} (h : Inert s t) (k : Quiet t u) : Inert s u := h.trans k.toInert

theorem after_queueOrFull (h : Inert s t) (f : Frame) : Inert s (queueOrFull f t) := h.keep

/-! ### Tables (R157, R158) -/

theorem after_storeRide (h : Inert s t) (r : RideTable) : Inert s (storeRide r t) :=
  have h' : Inert s { t with ride := r } := h.keep
  ite (h'.and_quiet ((Quiet.refl _).after_setTracker _).after_retest) h'

theorem after_storeCabins (h : Inert s t) (first : Nat) (xs : List CabinConfig) :
    Inert s (storeCabins first xs t) :=
  have h' (cs : List Cabin) : Inert s { t with cabins := cs } := h.keep
  (h' _).and_quiet (Quiet.refl _).after_cabinChanged.after_retest

theorem after_storePoll (h : Inert s t) (first : Nat) (p : Option PollParams)
    (xs : List PollEntry) : Inert s (storePoll first p xs t) := by
  have source {u : State} (hu : Quiet t u) (q : Station) (before : Option Nat × Option Nat) :
      Quiet t (resource q before u) := by
    have h' : Quiet t (writeStation q { u.station q with pressed := false } u) := hu.keep
    exact (Quiet.ite hu h').after_stationFreshness ..
  have entries {u : State} (hu : Quiet t u) (es : List PollEntry) :
      Quiet t (storeEntries es u) := by
    have h1 (rs : List ResultRecord) : Quiet t { u with pollEntries := es, results := rs } := hu.keep
    have h2 (rs : List ResultRecord) (b c : Option Nat × Option Nat) (ms : List Mast) :
        Quiet t { resource .board c (resource .alight b
          { u with pollEntries := es, results := rs }) with masts := ms } :=
      (source (source (h1 rs) .alight b) .board c).keep
    exact (h2 _ _ _ _).after_retest
  have cut {u : State} (hu : Quiet t u) : Quiet t (cutCycle u) := by
    have h' (q : Poller) : Quiet t { u with poller := q } := hu.keep
    exact .ite (.ite (h' _).after_startCycle (h' _)) hu
  exact h.and_quiet (cut (entries (Quiet.refl t).keep _))

theorem of_storeElements (h : Inert s t) {id : TableId} {first : Nat} {es : List (List Byte)}
    {u : State} (hu : storeElements id first es t = some u) : Inert s u := by
  cases id <;> simp only [storeElements, Option.map_eq_some_iff] at hu
  case ride => split at hu <;> cases hu; exact h.after_storeRide _
  case zone => split at hu <;> cases hu; exact ⟨h.out, h.disarmed⟩
  case wind => split at hu <;> cases hu; exact ⟨h.out, h.disarmed⟩
  all_goals obtain ⟨x, -, rfl⟩ := hu
  case cabin => exact h.after_storeCabins ..
  case poll => exact h.after_storePoll ..
  all_goals exact ⟨h.out, h.disarmed⟩

theorem after_serveTableWrite (h : Inert s t) (id first : Byte) (data : List Byte) :
    Inert s (serveTableWrite id first data t).2 := by
  simp only [serveTableWrite, writeTable]
  have h' : Inert s (markUnchecked t) := ⟨h.out, h.disarmed⟩
  repeat' split
  case h_2 hu => exact h'.of_storeElements hu
  all_goals exact h

/-! ### The other requests -/

theorem after_serveModeSet (h : Inert s t) (code : Byte) : Inert s (serveModeSet code t).2 := by
  have service : Inert s (serveModeService t).2 := by
    refine ite_served h ?_
    split
    · exact h
    · exact ⟨h.out, fun _ => rfl⟩
  have setup : Inert s (serveModeSetup t).2 :=
    ite_served h (ite_served ⟨h.out, h.disarmed⟩ h)
  exact ite_served service (ite_served setup h)

theorem after_serveRestart (h : Inert s t) : Inert s (serveRestart t).2 :=
  ite_served h ⟨h.out, h.disarmed⟩

/-- A cabin action, if the cabin's state allows it, is a quiet change. -/
theorem after_cabinSetReply (h : Inert s t) (k : Nat) {o : Option State}
    (ho : ∀ u, o = some u → Quiet t u) : Inert s (cabinSetReply k t o).2 := by
  cases o with
  | none => exact h
  | some u => exact h.and_quiet (ho u rfl)

theorem after_serveCabinSet (h : Inert s t) (cabin action count : Byte) :
    Inert s (serveCabinSet cabin action count t).2 := by
  have edit (k : Nat) (f : Cabin → Cabin) : Quiet t (modifyCabin k f t) := (Quiet.refl t).keep
  have confirm (k n : Nat) (f : Cabin → Cabin) : Quiet t (confirmCount k n f t) :=
    ((edit _ _).after_latchIf _ (by decide)).after_cabinChanged.after_retest
  refine ite_served h (ite_served ?_ (ite_served ?_ (ite_served ?_ (ite_served ?_ h)))) <;>
    refine h.after_cabinSetReply _ fun u hu => ?_
  · simp only [cabinVerify] at hu
    split at hu <;> cases hu
    exact confirm ..
  · simp only [cabinCorrect] at hu
    split at hu <;> cases hu
    exact confirm ..
  · simp only [cabinTakeOut] at hu
    split at hu <;> cases hu
    exact ((edit _ _).after_cabinTakenOut _).after_retest
  · simp only [cabinReturn] at hu
    split at hu <;> cases hu
    exact (edit _ _).after_cabinChanged.after_retest

theorem after_serveHoldPlace (h : Inert s t) (code : Byte) :
    Inert s (serveHoldPlace code t).2 := by
  unfold serveHoldPlace
  split
  · exact h
  · exact h.and_quiet ((Quiet.refl t).after_causeReport ..)

theorem after_serveHoldRelease (h : Inert s t) (code : Byte) :
    Inert s (serveHoldRelease code t).2 := by
  have release (e : HoldEntry) : Quiet t (releasePosition e t) :=
    (((Quiet.refl t).keep : Quiet t { putEntry (creepForm e) t with
      tracker := t.tracker.searchAnew }).after_convert).after_retest
  have remove (src : HoldSource) : Inert s (removeEntry src t) := h.keep
  unfold serveHoldRelease
  split
  · exact h
  · split
    · exact h
    · split
      · exact h
      · exact h
      · exact h
      · exact ite_served (h.and_quiet (release _)) h
      · exact remove _
      · exact ite_served h (remove _)

theorem after_serveSnapshotTake (h : Inert s t) : Inert s (serveSnapshotTake t).2 := by
  unfold serveSnapshotTake
  refine ite_served h ?_
  split
  · exact h
  · exact ⟨h.out, h.disarmed⟩

theorem after_serveProfileRun (h : Inert s t) (tag n r w : Byte) :
    Inert s (serveProfileRun tag n r w t).2 := by
  unfold serveProfileRun
  split
  · exact h
  · have h' : Inert s (acceptRun tag n.toNat r.toNat w.toNat t) := ⟨h.out, h.disarmed⟩
    exact h'.and_quiet ((Quiet.refl _).after_beginStep _)

theorem after_serveProfileStop (h : Inert s t) : Inert s (serveProfileStop t).2 :=
  ite_served (h.and_quiet ((Quiet.refl t).after_endRun .aborted)) h

theorem after_serveTraceTake (h : Inert s t) (n : Byte) : Inert s (serveTraceTake n t).2 :=
  ite_served h (ite_served h ⟨h.out, h.disarmed⟩)

/-! ### Serving and taking requests (R172, R180) -/

/-- A request of any kind, with any arguments, leaves the output record and arms nothing. -/
theorem after_serveKind (h : Inert s t) (k : RequestKind) (tag : Byte) (args : List Byte) :
    Inert s (serveKind k tag args t).2 := by
  have none0 {f : State → Served} (hf : Inert s (f t).2) : Inert s (serve0 f args t).2 := by
    unfold serve0; split
    · exact hf
    · exact h
  have one {f : Byte → State → Served} (hf : ∀ a, Inert s (f a t).2) :
      Inert s (serve1 f args t).2 := by
    unfold serve1; split
    · exact hf _
    · exact h
  have two {f : Byte → Byte → State → Served} (hf : ∀ a b, Inert s (f a b t).2) :
      Inert s (serve2 f args t).2 := by
    unfold serve2; split
    · exact hf ..
    · exact h
  have three {f : Byte → Byte → Byte → State → Served} (hf : ∀ a b c, Inert s (f a b c t).2) :
      Inert s (serve3 f args t).2 := by
    unfold serve3; split
    · exact hf ..
    · exact h
  have rest {f : Byte → Byte → List Byte → State → Served}
      (hf : ∀ a b d, Inert s (f a b d t).2) : Inert s (serveRest f args t).2 := by
    unfold serveRest; split
    · exact hf ..
    · exact h
  cases k with
  | statusRead => exact none0 ⟨h.out, h.disarmed⟩
  | modeSet => exact one h.after_serveModeSet
  | restart => exact none0 h.after_serveRestart
  | tableWrite => exact rest h.after_serveTableWrite
  | tableRead => exact three fun _ _ _ => h
  | cabinRead => exact two fun _ _ => ite_served h h
  | cabinSet => exact three h.after_serveCabinSet
  | holdPlace => exact one h.after_serveHoldPlace
  | holdRelease => exact one h.after_serveHoldRelease
  | holdList => exact none0 h
  | snapshotTake => exact none0 h.after_serveSnapshotTake
  | profileRun => exact three (h.after_serveProfileRun tag)
  | profileStop => exact none0 h.after_serveProfileStop
  | profileStatus => exact none0 h
  | windRead => exact none0 h
  | traceTake => exact one h.after_serveTraceTake
  | pollNow => exact none0 (h.and_quiet (Quiet.refl t).after_requestCycle)
  | pollResults => exact none0 h

theorem after_takeRequest (h : Inert s t) (r : Request) : Inert s (takeRequest r t) := by
  have served : Inert s (serveRequest r t).2 := by
    unfold serveRequest
    split
    · exact h
    · exact h.after_serveKind ..
  unfold takeRequest placeReply
  split
  · exact served.keep
  · exact served

theorem after_takeWaiting (h : Inert s t) : Inert s (takeWaiting t) := by
  have take (n : Nat) {u : State} (hu : Inert s u) : Inert s (takeRequests n u) := by
    induction n generalizing u with
    | zero => exact hu
    | succ n ih =>
      unfold takeRequests
      split
      · exact hu
      · exact ite (ih ((hu.keep : Inert s { u with requests := _ }).after_takeRequest _)) hu
  exact take _ h

theorem after_receiveRequest (h : Inert s t) (r : Request) : Inert s (receiveRequest r t) :=
  ite (h.keep : Inert s { t with requests := t.requests ++ [r] }).after_takeWaiting h.keep

/-! ### Frames of the lines -/

theorem after_takeFeedback (h : Inert s t) (f : FeedbackFields) : Inert s (takeFeedback f t) := by
  have h' := h.and_quiet ((Quiet.refl t).after_feedbackTurns f)
  unfold takeFeedback
  exact h'.keep

theorem after_takeAux (h : Inert s t) (line : Line) (f : Frame) : Inert s (takeAux line f t) := by
  have aux : Inert s (queueAux f t) := ite h.keep h.keep
  refine ite ?_ h.keep
  split
  · exact aux
  · exact h.after_queueOrFull f

end Inert

/-! ### What a command can do to the output record and the armed flag -/

/-- A SETPOINT frame that a command brings in: its own, or one that an ill-formed DISCARDED_FRAME row
delivers. -/
def BringsSetpoint (c : Instr) (v : Word16) : Prop :=
  c = .setpoint v ∨
    ∃ line raw, c = .discardedFrame line raw ∧ line ≠ .field ∧ receptionOf line raw = some (.setpoint v)

/-- A received frame is inert or delivers a SETPOINT. -/
theorem receiveFrame_cases (line : Line) (raw : RawFrame) (s : State) :
    Inert s (receiveFrame line raw s) ∨
      ∃ v, BringsSetpoint (.discardedFrame line raw) v ∧
        receiveFrame line raw s = takeSetpoint v s := by
  have other (hl : line ≠ .field)
      (heq : receiveFrame line raw s = match receptionOf line raw with
        | none => latch .frameDiscarded s
        | some d => deliver line d s) :
      Inert s (receiveFrame line raw s) ∨
        ∃ v, BringsSetpoint (.discardedFrame line raw) v ∧
          receiveFrame line raw s = takeSetpoint v s := by
    rw [heq]
    split
    · exact .inl (Inert.refl s).keep
    · next d hd =>
      cases d with
      | setpoint v => exact .inr ⟨v, .inr ⟨line, raw, rfl, hl, hd⟩, rfl⟩
      | feedback f => exact .inl ((Inert.refl s).after_takeFeedback f)
      | request r => exact .inl ((Inert.refl s).after_receiveRequest r)
      | aux f => exact .inl ((Inert.refl s).after_takeAux line f)
  cases line with
  | console => exact other (by decide) rfl
  | drive => exact other (by decide) rfl
  | field => exact .inl ((Quiet.refl s).after_fieldFrame raw).toInert

/-- A command is inert, or it is one of the four that are the drive gate's or a reset's: a SETPOINT
taken, a DRIVE ORDER computed, RESETN, or a pending restart taking effect. -/
theorem exec_cases {c : Instr} {s t : State} (h : exec c s = .next t) :
    Inert s t ∨ (∃ v, BringsSetpoint c v ∧ t = takeSetpoint v s) ∨
      (c = .drivePeriodExpiry ∧ t = driveOrder s) ∨ (c = .resetn ∧ t = powerOn s) ∨
      (s.modeRec.restartPending = true ∧ t = restart s) := by
  have q := Quiet.refl s
  have i := Inert.refl s
  cases c with
  | resetn => cases h; exact .inr (.inr (.inr (.inl ⟨rfl, rfl⟩)))
  | setpoint v => cases h; exact .inr (.inl ⟨v, .inl rfl, rfl⟩)
  | feedback f => cases h; exact .inl (i.after_takeFeedback f)
  | auxFrame line kind payload => cases h; exact .inl (i.after_takeAux ..)
  | discardedFrame line raw =>
    cases h
    obtain hi | hv := receiveFrame_cases line raw s
    · exact .inl hi
    · exact .inr (.inl hv)
  | answer raw => cases h; exact .inl (q.after_fieldFrame raw).toInert
  | lateAnswer raw => cases h; exact .inl q.after_discardFieldFrame.toInert
  | unsolicitedFrame raw => cases h; exact .inl q.after_discardFieldFrame.toInert
  | replyWaitExpiry =>
    refine .inl ?_
    simp only [exec, execReplyWaitExpiry] at h
    split at h <;> cases h
    · exact ((q.keep : Quiet s { s with poller := _ }).after_recordResult ..).toInert
    · exact i
  | lateWindowEnd =>
    refine .inl ?_
    simp only [exec, execLateWindowEnd] at h
    split at h <;> cases h
    · exact (q.after_moveOn _).toInert
    · exact i
  | settlingFrameOverrun =>
    refine .inl ?_
    simp only [exec, execSettlingFrameOverrun] at h
    split at h <;> cases h
    · exact (q.after_overrun _).toInert
    · exact (q.after_overrun _).toInert
    · exact i
  | poll =>
    refine .inl ?_
    simp only [exec, execPoll] at h
    split at h <;> cases h
    · exact .ite i.keep i
    · exact i
  | pollTimerExpiry =>
    refine .inl ?_
    have h' : Quiet s { s with timers := { s.timers with poll := s.after s.pollParams.period } } :=
      q.keep
    simp only [exec, execPollTimerExpiry] at h
    split at h <;> cases h
    · exact (h'.after_latch (by decide)).toInert
    · exact h'.after_startCycle.toInert
  | drivePeriodExpiry => cases h; exact .inr (.inr (.inl ⟨rfl, rfl⟩))
  | staleExpiry => cases h; exact .inl (.ite ⟨rfl, id⟩ i)
  | lossExpiry =>
    cases h
    have h' (x : AgeExpiries) : Quiet s { s with expiries := x } := q.keep
    exact .inl (.ite ((h' _).after_causeReport ..).toInert i)
  | feedbackTimeout => cases h; exact .inl (.ite q.after_feedbackSilent.toInert i)
  | statusPeriodExpiry =>
    cases h
    have h' : Inert s { s with timers := { s.timers with status := s.after s.ride.statusPeriod } } :=
      i.keep
    exact .inl (.ite h'.keep h')
  | dwellTimerExpiry => cases h; exact .inl (.ite q.after_stepMet.toInert i)
  | durationTimerExpiry => cases h; exact .inl (.ite (q.after_endRun .timeout).toInert i)
  | restartTakesEffect =>
    cases h
    by_cases hp : s.modeRec.restartPending = true
    · exact .inr (.inr (.inr (.inr ⟨hp, if_pos hp⟩)))
    · rw [if_neg hp]; exact .inl i
  | consoleFrameSent =>
    cases h
    unfold consoleFrameSent
    split
    · exact .inl i
    · split
      · next hp =>
        exact .inr (.inr (.inr (.inr ⟨(Bool.and_eq_true_iff.mp hp).1, rfl⟩)))
      · exact .inl (i.keep : Inert s { s with consoleQueue := _ }).after_takeWaiting
  | driveFrameSent => cases h; exact .inl i.keep
  | entrySettled =>
    refine .inl ?_
    simp only [exec, execEntrySettled] at h
    split at h <;> cases h
    · exact i.keep
    · exact i
    · exact i.keep
  | _ => cases h; exact .inl (i.after_receiveRequest _)

/-! ### The armed flag and the output record over a command -/

/-- Steps 1 and 2 of R2 on the requested-speed record. -/
@[simp] theorem storeSetpoint_req (v : Word16) (s : State) : (storeSetpoint v s).req =
    { s.req with value := s.clampedSetpoint v, ageBase := s.ms, stale := false } := by
  simp [storeSetpoint]

/-- Step 4 of R2 on the requested-speed record: the armed flag alone can change, and goes SET. -/
theorem armIfZero_req (s : State) : (armIfZero s).req =
    { s.req with armed := s.req.armed || decide (s.req.value = 0 ∧ s.hasStop = false) } := by
  unfold armIfZero
  split
  · next h => simp [h]
  · next h => simp only [decide_eq_false h, Bool.or_false]

/-- A SETPOINT that arms a disarmed gate is one that clamps to 0, and leaves no STOP entry. -/
theorem takeSetpoint_arms {v : Word16} {s : State} (h : s.req.armed = false)
    (ha : (takeSetpoint v s).req.armed = true) :
    (takeSetpoint v s).hasStop = false ∧ (takeSetpoint v s).req.value = 0 ∧
      s.clampedSetpoint v = 0 := by
  unfold takeSetpoint at ha ⊢
  simp only [armIfZero_req, absenceReport_frame, storeSetpoint_req, h, Bool.false_or,
    decide_eq_true_eq] at ha ⊢
  exact ⟨by simpa [State.hasStop] using ha.2, ha.1, ha.1⟩

/-- A well-formed command that brings a SETPOINT in is a SETPOINT: a DISCARDED_FRAME is one that its
line's tests discard. -/
theorem BringsSetpoint.eq_setpoint {c : Instr} {v : Word16} (h : BringsSetpoint c v)
    (hw : c.wf = true) : c = .setpoint v := by
  obtain h | ⟨line, raw, rfl, hl, hd⟩ := h
  · exact h
  · cases line <;> simp_all [Instr.wf, discards]

/-- Settles O12: of the commands that are not inert, a DRIVE ORDER leaves the requested-speed record and
a reset disarms, so it is the SETPOINT that arms. -/
theorem armedOnlyByZeroSetpoint : Obligations.ArmedOnlyByZeroSetpoint := by
  intro c s t hw he hs ht
  obtain hi | ⟨v, hv, rfl⟩ | ⟨-, rfl⟩ | ⟨-, rfl⟩ | ⟨-, rfl⟩ := exec_cases he
  · exact absurd ht (by simp [hi.disarmed hs])
  · obtain ⟨hstop, hval, hclamp⟩ := takeSetpoint_arms hs ht
    exact ⟨hstop, hval, v, hv.eq_setpoint hw, hclamp⟩
  · simp [hs] at ht
  · cases ht
  · cases ht

/-- Settles O13: with no restart pending, a command other than the drive-period expiry and RESETN is inert
or takes a SETPOINT, and neither touches the output record. -/
theorem outputChangesAtExpiryOnly : Obligations.OutputChangesAtExpiryOnly := by
  intro c s t hp hd hr he
  obtain hi | ⟨v, -, rfl⟩ | ⟨hc, -⟩ | ⟨hc, -⟩ | ⟨hq, -⟩ := exec_cases he
  · exact hi.out
  · simp
  · exact absurd hc hd
  · exact absurd hc hr
  · simp [hp] at hq

end Sys2Proof.Machine


/-! ## The hold list: entries found, written, added and reported -/

namespace Sys2Proof.Machine

set_option Elab.async false

variable {s : State} {src : HoldSource}

/-! ### The entry of a source (R115) -/

theorem entry_congr {t : State} (h : t.holds = s.holds) : t.entry src = s.entry src := by
  simp only [State.entry, h]

theorem entry_eq_none_iff : s.entry src = none ↔ ∀ e ∈ s.holds, e.source ≠ src := by
  simp [State.entry]

/-- A change of the entries that keeps every source acts on the entry found. -/
theorem entry_of_holds_map {t : State} {f : HoldEntry → HoldEntry} (hf : ∀ e, (f e).source = e.source)
    (h : t.holds = s.holds.map f) : t.entry src = (s.entry src).map f := by
  simp only [State.entry, h, List.find?_map]
  congr 2
  funext e
  simp [hf]

/-- The entries after a test report carry the flags that go with it (R124). -/
theorem entry_retest : (retest s).entry src =
    (s.entry src).map fun e => { e with present := presentFlag src s.tests } := by
  rw [entry_of_holds_map (s := s)
    (f := fun e => { e with present := presentFlag e.source s.tests }) (fun _ => rfl) rfl]
  cases h : s.entry src with
  | none => rfl
  | some e => simp [(entry_source h).1]

/-- An entry written over another of its source keeps every source. -/
theorem putEntry_keeps_source (e x : HoldEntry) :
    (if x.source = e.source then e else x).source = x.source := by
  split
  · next h => exact h.symm
  · rfl

theorem entry_putEntry (e : HoldEntry) : (putEntry e s).entry src =
    (s.entry src).map fun x => if x.source = e.source then e else x :=
  entry_of_holds_map (putEntry_keeps_source e) (putEntry_holds s e)

theorem entry_putEntry_same {e : HoldEntry} {old : HoldEntry} (h : s.entry e.source = some old) :
    (putEntry e s).entry e.source = some e := by
  rw [entry_putEntry, h]
  simp [(entry_source h).1]

theorem entry_putEntry_other {e : HoldEntry} (h : e.source ≠ src) :
    (putEntry e s).entry src = s.entry src := by
  rw [entry_putEntry]
  cases hs : s.entry src with
  | none => rfl
  | some x =>
    have : x.source ≠ e.source := by rw [(entry_source hs).1]; exact h.symm
    simp [this]

/-- Writing an entry over itself changes nothing, where each source has one entry. -/
theorem putEntry_self {e : HoldEntry} (hn : (s.holds.map fun e => e.source).Nodup)
    (he : e ∈ s.holds) : putEntry e s = s := by
  have : (s.holds.map fun h => if h.source = e.source then e else h) = s.holds := by
    conv_rhs => rw [← List.map_id s.holds]
    refine List.map_congr_left fun x hx => ?_
    split
    · next hxe => exact (List.inj_on_of_nodup_map hn hx he hxe).symm
    · rfl
  simp only [putEntry, this]

theorem entry_addEntry (e : HoldEntry) :
    (addEntry e s).entry src = (s.entry src).or (if e.source = src then some e else none) := by
  simp only [State.entry, addEntry_holds, List.find?_append, List.find?_singleton, beq_iff_eq]

/-! ### A STOP (R126) and a cause report (R117 to R120) -/

/-- A capture writes the slots and, over an unread snapshot, latches SNAPSHOT_SUPERSEDED (R133, R134). -/
theorem capture_eq (e : HoldEntry) (s : State) : capture e s = { s with
    snaps := (s.stopped e).snaps, latched := (s.stopped e).latched } := by
  by_cases h : 2 ≤ s.snaps.unread
  · have hf : decide (2 ≤ (s.snaps.w - s.snaps.r).toNat) = true := decide_eq_true h
    rw [capture_of_full h]
    simp only [State.stopped, hf, SnapshotSlots.write, if_true]
    split <;> rfl
  · have hf : decide (2 ≤ (s.snaps.w - s.snaps.r).toNat) = false := decide_eq_false h
    rw [capture_of_room (Nat.lt_of_not_le h)]
    simp only [State.stopped, hf, SnapshotSlots.write, Bool.false_eq_true, if_false]
    split <;> rfl

/-- The three effects of a STOP, as the statements spell them (R126). -/
theorem stopEffects_eq (e : HoldEntry) (s : State) : stopEffects e s = s.stopped e := by
  rw [stopEffects, capture_eq]
  cases hr : s.run.running
  · simp only [State.stopped, hr, Bool.false_eq_true, if_false, List.append_nil]
  · simp only [State.stopped, hr, if_true, endRun_eq]
    rfl

/-- The state with an entry added at the end of the list, before the effects of a STOP (R117): an empty
list bars the cabins in BOARDING (R62). -/
def State.withEntry (s : State) (e : HoldEntry) : State :=
  { s with
    holds := s.holds ++ [e]
    cabins := s.cabins.map fun k =>
      if s.holds = [] ∧ k.state = .boarding then { k with entryBarred := true } else k }

theorem addEntry_eq (e : HoldEntry) (s : State) :
    addEntry e s = if e.cls = .stop then (s.withEntry e).stopped e else s.withEntry e := by
  have hbar : (if s.holds.isEmpty then barBoarding { s with holds := s.holds ++ [e] }
      else { s with holds := s.holds ++ [e] }) = s.withEntry e := by
    cases h : s.holds with
    | nil => simp [State.withEntry, barBoarding, h]
    | cons x xs => simp [State.withEntry, h]
  rw [addEntry, hbar, stopEffectsIf, stopEffects_eq]
  simp only [beq_iff_eq]

theorem higher_stop (c : HoldClass) : c.higher .stop = .stop := by cases c <;> rfl

@[simp] theorem reportedEntry_source (old : HoldEntry) (k : Nat) (c : HoldClass)
    (sub : Option Nat) : (reportedEntry old k c sub).source = old.source := by
  unfold reportedEntry; split <;> rfl

/-- The entry of the source reported, after the report. -/
theorem entry_causeReport_same (k : Nat) (c : HoldClass) (sub : Option Nat) :
    (causeReport src k c sub s).entry src = some (match s.entry src with
      | none => { source := src, cls := c, cause := k, subject := sub, time := s.ms,
                  latched := latchedForm src k, present := presentFlag src s.causes }
      | some old => reportedEntry old k c sub) := by
  cases h : s.entry src with
  | none => rw [causeReport_new h, entry_addEntry, h]; simp
  | some old =>
    have hs : (reportedEntry old k c sub).source = src := by simp [(entry_source h).1]
    rw [causeReport_old h, entry_congr (stopEffectsIf_holds ..)]
    simp only [← hs] at h ⊢
    exact entry_putEntry_same h

/-- A report of one source leaves the entries of the others. -/
theorem entry_causeReport_other {src' : HoldSource} (hne : src ≠ src') (k : Nat) (c : HoldClass)
    (sub : Option Nat) : (causeReport src k c sub s).entry src' = s.entry src' := by
  cases h : s.entry src with
  | none =>
    rw [causeReport_new h, entry_addEntry]
    simp [hne]
  | some old =>
    have hs : (reportedEntry old k c sub).source ≠ src' := by simp [(entry_source h).1, hne]
    rw [causeReport_old h, entry_congr (stopEffectsIf_holds ..), entry_putEntry_other hs]

/-- The sources of the list after a report: the one reported stands at the end if it was not there. -/
theorem sources_causeReport (k : Nat) (c : HoldClass) (sub : Option Nat) :
    (causeReport src k c sub s).holds.map (fun e => e.source) =
      s.holds.map (fun e => e.source) ++ (if (s.entry src).isSome then [] else [src]) := by
  cases h : s.entry src with
  | none => rw [causeReport_new h, addEntry_holds]; simp
  | some old =>
    rw [causeReport_old h, stopEffectsIf_holds, putEntry_holds, List.map_map]
    simp only [Option.isSome_some, if_true, List.append_nil]
    exact List.map_congr_left fun x _ => putEntry_keeps_source _ x

/-- A STOP reported of a source without an entry has the effects of R126. -/
theorem causeReport_new_stop (h : s.entry src = none) (k : Nat) (sub : Option Nat) :
    causeReport src k .stop sub s =
      (s.withEntry ⟨src, .stop, k, sub, s.ms, latchedForm src k, presentFlag src s.causes⟩).stopped
        ⟨src, .stop, k, sub, s.ms, latchedForm src k, presentFlag src s.causes⟩ := by
  rw [causeReport_new h, addEntry_eq, if_pos rfl]

theorem stopped_stops (e : HoldEntry) (s : State) :
    (s.stopped e).req.armed = false ∧ (s.stopped e).run.running = false := by
  rw [← stopEffects_eq]; exact stopEffects_stops e s

theorem causeReport_new_stop_stops (h : s.entry src = none) (k : Nat) (sub : Option Nat) :
    (causeReport src k .stop sub s).req.armed = false ∧
      (causeReport src k .stop sub s).run.running = false := by
  rw [causeReport_new_stop h]; exact stopped_stops _ _

/-- A STOP reported of a source whose entry is a STOP already only writes the entry. -/
theorem causeReport_old_stop {old : HoldEntry} (h : s.entry src = some old) (hc : old.cls = .stop)
    (k : Nat) (sub : Option Nat) :
    causeReport src k .stop sub s = putEntry (reportedEntry old k .stop sub) s := by
  rw [causeReport_old h, hc]; rfl

/-! ### The forms of R116 -/

theorem HoldInv.formed {e : HoldEntry} (hi : HoldInv s) (h : s.entry src = some e) :
    e.source = src ∧ e ∈ s.holds ∧ e.formed s.causes = true :=
  ⟨(entry_source h).1, (entry_source h).2, hi.2.1 e (entry_source h).2⟩

/-- A COMMAND entry has one form but for its time. -/
theorem HoldEntry.formed_command {c : CauseStates} {e : HoldEntry} (h : e.formed c = true)
    (hs : e.source = .command) : e = ⟨.command, .stop, 1, none, e.time, false, true⟩ := by
  cases e; subst hs
  simp_all [HoldEntry.formed, presentFlag]

/-- A DRIVE entry is a latched STOP that carries the DRIVE test. -/
theorem HoldEntry.formed_drive {c : CauseStates} {e : HoldEntry} (h : e.formed c = true)
    (hs : e.source = .drive) : e.cls = .stop ∧ e.latched = true ∧ e.present = c.drive := by
  cases e; subst hs
  simp_all [HoldEntry.formed, presentFlag]

/-- A POSITION entry has its cause present, and is a latched STOP at LOST and an automatic CREEP
otherwise. -/
theorem HoldEntry.formed_position {c : CauseStates} {e : HoldEntry} (h : e.formed c = true)
    (hs : e.source = .position) : e.present = true ∧ e.subject = none ∧
      (if e.cause = 3 then e.latched = true ∧ e.cls = .stop
       else e.latched = false ∧ e.cls = .creep) := by
  cases e; subst hs
  simp only [HoldEntry.formed, presentFlag, within] at h
  split <;> simp_all

end Sys2Proof.Machine


/-! ## SETPOINT, the feedback timeout and the staleness expiries -/

namespace Sys2Proof.Machine

set_option Elab.async false

variable {s : State}

/-! ### SETPOINT (R2) -/

/-- The latched event set after steps 1 and 2 of R2. -/
theorem storeSetpoint_eq (v : Word16) (s : State) : storeSetpoint v s = { s with
    req := { s.req with value := s.clampedSetpoint v, ageBase := s.ms, stale := false }
    expiries := if s.modeRec.mode = .service then ⟨true, true⟩ else s.expiries
    latched := if s.clampedSetpoint v = v.toInt then s.latched
      else { s.latched with setpointClamped := true } } := by
  unfold storeSetpoint latchIf latch
  by_cases h : s.clampedSetpoint v = v.toInt <;> simp [h, LatchedSet.with]

/-- Step 4 of R2. -/
theorem armIfZero_eq (s : State) : armIfZero s = { s with req := { s.req with
    armed := if s.req.value = 0 ∧ s.hasStop = false then true else s.req.armed } } := by
  unfold armIfZero
  split <;> rfl

/-- The COMMAND entry is automatic, so its absence always removes it (R119). -/
theorem absenceReport_command (hi : HoldInv s) :
    absenceReport .command s = { s with holds := s.holds.filter fun e => e.source != .command } := by
  unfold absenceReport
  cases h : s.entry .command with
  | none =>
    have : (s.holds.filter fun e => e.source != .command) = s.holds :=
      List.filter_eq_self.mpr fun e he => by simpa using entry_eq_none_iff.mp h e he
    simp only [this]
  | some e =>
    obtain ⟨hs, -, hf⟩ := hi.formed h
    rw [HoldEntry.formed_command hf hs]
    rfl

/-- No STOP stands without the COMMAND entry exactly where every STOP is the COMMAND entry. -/
theorem any_stop_filter_command (l : List HoldEntry) :
    ((l.filter fun e => e.source != .command).any fun e => e.cls == .stop) = false ↔
      (l.all fun e => e.cls != .stop || e.source == .command) = true := by
  simp only [List.any_eq_false, List.mem_filter, List.all_eq_true, bne_iff_ne, ne_eq, beq_iff_eq,
    Bool.or_eq_true]
  exact ⟨fun h e he => by by_cases hc : e.source = .command <;> simp_all,
    fun h e ⟨he, hc⟩ hs => (h e he).elim (· hs) hc⟩

/-- Settles O15: the three steps of R2 written out in turn. -/
theorem setpointTaken : Obligations.SetpointTaken := by
  intro s v hi
  have hi' : HoldInv (storeSetpoint v s) := by
    rw [storeSetpoint_eq]; exact hi
  rw [exec, execSetpoint, takeSetpoint, absenceReport_command hi', storeSetpoint_eq, armIfZero_eq]
  simp only [State.hasStop, any_stop_filter_command]
  rfl

/-! ### The feedback timeout (R18) -/

/-- The record as R18 writes it, before the report of the DRIVE cause. -/
def State.silenced (s : State) : State := { s with
  fb := { s.fb with state := .silent, speed := none, brake := .unknown, timer := none }
  still := Standstill.ended }

@[simp] theorem silenced_entry (src : HoldSource) : s.silenced.entry src = s.entry src := rfl

theorem feedbackSilent_eq (s : State) :
    feedbackSilent s = causeReport .drive 1 .stop none (retest s.silenced) := rfl

/-- Under the laws of the hold list the DRIVE entry is a latched STOP with cause SILENT. -/
theorem entry_feedbackSilent (hi : HoldInv s) : (feedbackSilent s).entry .drive =
    some ⟨.drive, .stop, 1, none, ((s.entry .drive).map fun e => e.time).getD s.ms, true, true⟩ := by
  have hd : s.silenced.tests.drive = true := rfl
  rw [feedbackSilent_eq, entry_causeReport_same, entry_retest, silenced_entry]
  cases h : s.entry .drive with
  | none =>
    have hms : s.silenced.ms = s.ms := rfl
    simp [hms, latchedForm, presentFlag, hd]
  | some e =>
    obtain ⟨hs, -, hf⟩ := hi.formed h
    obtain ⟨-, hl, -⟩ := HoldEntry.formed_drive hf hs
    simp [reportedEntry, hl, hs, higher_stop, presentFlag, hd]

/-- Settles O22: the record is silenced, and the DRIVE cause is then reported over whatever entry stands. -/
theorem feedbackTimeoutSilences : Obligations.FeedbackTimeoutSilences := by
  intro s
  refine ⟨fun h => by simp [exec, execFeedbackTimeout, h], fun hi hp => ?_⟩
  have he {x : HoldSource} : ((retest s.silenced).entry x).isSome = (s.entry x).isSome := by
    rw [entry_retest, silenced_entry, Option.isSome_map]
  refine ⟨feedbackSilent s, by simp [exec, execFeedbackTimeout, hp], ?_, ?_,
    entry_feedbackSilent hi, ?_, ?_, by simp, by simp, by simp, by simp⟩
  · simp [feedbackSilent_eq, State.silenced]
  · simp [feedbackSilent_eq, State.silenced, Standstill.ended]
  · rw [feedbackSilent_eq, sources_causeReport, he, retest_holds, List.map_map]
    rfl
  · intro hn
    rw [feedbackSilent_eq]
    exact causeReport_new_stop_stops (by rwa [← Option.not_isSome_iff_eq_none, he, Bool.not_eq_true]) ..

/-! ### The staleness expiries (R20 to R22) -/

/-- A command loss reported while the COMMAND entry stands changes nothing. -/
theorem causeReport_command_again (hi : HoldInv s) (h : s.entry .command ≠ none) :
    causeReport .command 1 .stop none s = s := by
  obtain ⟨e, he⟩ := Option.ne_none_iff_exists'.mp h
  obtain ⟨hs, hm, hf⟩ := hi.formed he
  have hform := HoldEntry.formed_command hf hs
  have hcls : e.cls = .stop := by rw [hform]
  have hsame : reportedEntry e 1 .stop none = e := by rw [hform]; rfl
  rw [causeReport_old_stop he hcls, hsame, putEntry_self hi.1 hm]

/-- A command loss reported without a COMMAND entry adds it as a STOP (R22, R126, R132). -/
theorem causeReport_command_new (h : s.entry .command = none) :
    let t := causeReport .command 1 .stop none s
    t.holds = s.holds ++ [⟨.command, .stop, 1, none, s.ms, false, true⟩] ∧
      t.req.armed = false ∧ t.run.running = false ∧ t.req.stale = s.req.stale ∧ t.out = s.out ∧
      ∃ x, t.snaps.slot (t.snaps.w - 1) = some x ∧ x.source = .command ∧ x.time = s.ms ∧
        x.setpoint = s.out.setpoint ∧ x.entries = s.holds.length + 1 := by
  let e : HoldEntry := ⟨.command, .stop, 1, none, s.ms, false, true⟩
  have heq : causeReport .command 1 .stop none s = (s.withEntry e).stopped e :=
    causeReport_new_stop h ..
  obtain ⟨harm, hrun⟩ := stopped_stops e (s.withEntry e)
  obtain ⟨x, hx, hsrc, -, -, -, htime, hset, hlen⟩ := stopEffects_snapshot e (s.withEntry e)
  rw [stopEffects_eq] at hx
  have hstale : ((s.withEntry e).stopped e).req.stale = s.req.stale := by
    simp only [State.stopped]; split <;> rfl
  rw [heq]
  exact ⟨rfl, harm, hrun, hstale, rfl, x, hx, hsrc, htime, hset, by simpa [State.withEntry] using hlen⟩

/-- Settles O23: an expiry that is not armed is no event, and the loss expiry reports the COMMAND cause, new
or again. -/
theorem stalenessExpiries : Obligations.StalenessExpiries := by
  intro s
  refine ⟨rfl, fun h => ?_, fun hi hm hl => ?_⟩
  · have : ¬(s.modeRec.mode = .service ∧ s.expiries.lossArmed = true) := by
      rintro ⟨hm, hl⟩
      simp [hm, hl] at h
    simp [exec, execLossExpiry, this]
  · let u : State := { s with expiries := { s.expiries with lossArmed := false } }
    have hexec : exec .lossExpiry s = .next (causeReport .command 1 .stop none u) := by
      simp [exec, execLossExpiry, hm, hl, u]
    refine ⟨_, hexec, by simp [u], fun h => causeReport_command_new (s := u) h, fun h => ?_⟩
    rw [causeReport_command_again (s := u) hi h]

end Sys2Proof.Machine


/-! ## The DRIVE ORDER (R5 to R13) -/

namespace Sys2Proof.Machine

set_option Elab.async false

variable {s : State}

/-! ### What an order writes -/

/-- A DRIVE ORDER in full: the record, the order place, orders in step, and the timer. -/
theorem driveOrder_eq (s : State) : driveOrder s = { s with
    out := s.orderRecord
    timers := { s.timers with drive := s.ms + BitVec.ofNat 32 s.ride.period }
    run := { s.run with ordersInStep := s.run.running || s.run.ordersInStep }
    driveQueue :=
      { order := some s.orderFrame
        aux := s.driveQueue.aux
        sending := if s.driveQueue.sending = .free then .order else s.driveQueue.sending } } := by
  have hq : s.driveQueue.withOrder s.orderFrame =
      ⟨some s.orderFrame, s.driveQueue.aux,
        if s.driveQueue.sending = .free then .order else s.driveQueue.sending⟩ := by
    rw [← withOrder_sending s.driveQueue s.orderFrame, ← withOrder_aux s.driveQueue s.orderFrame,
      ← withOrder_order s.driveQueue s.orderFrame]
  have hr : (if s.run.running then { s.run with ordersInStep := true } else s.run) =
      { s.run with ordersInStep := s.run.running || s.run.ordersInStep } := by
    split
    · next h => simp [h]
    · next h => simp only [Bool.eq_false_iff.mpr h, Bool.false_or]; rw [← Bool.eq_false_iff.mpr h]
  simp only [driveOrder, hq, hr]
  rfl

theorem exec_drivePeriodExpiry (s : State) : exec .drivePeriodExpiry s = .next (driveOrder s) := rfl

/-- Settles O16: in SETUP the record and the frame are constants but for the HOLD flag and the count. -/
theorem setupOrderFixed : Obligations.SetupOrderFixed := by
  intro s hm
  have hrec : s.orderRecord = ⟨0, 0, .apply, 0, 0, s.out.seq + 1⟩ := by
    simp only [State.orderRecord, hm]
  have hframe : s.orderFrame = ⟨0x30, 0, [0, 0, 0, if s.holds = [] then 0 else 2, s.out.seq]⟩ := by
    simp only [State.orderFrame, hrec, State.orderFlagsNow, hm]
    cases s.holds <;> rfl
  rw [exec_drivePeriodExpiry, driveOrder_eq, hrec, hframe]

/-! ### The ceilings (R7) -/

/-- The ceilings that the classes of the entries contribute. -/
def State.classCeilings (s : State) : List Nat :=
  s.holds.filterMap fun e => classCeiling s.ride e.cls

theorem leastCeiling_eq_foldl (r : RideTable) (limit : Nat) (holds : List HoldEntry) :
    leastCeiling r limit holds = (holds.filterMap fun e => classCeiling r e.cls).foldl min limit := by
  unfold leastCeiling
  induction holds generalizing limit with
  | nil => rfl
  | cons e es ih =>
    cases h : classCeiling r e.cls <;> simp [h, ih]

/-- The least of a nonempty list of limits is one of them and no more than any. -/
def IsLeastOf (c : Nat) (l : List Nat) : Prop := c ∈ l ∧ ∀ x ∈ l, c ≤ x

theorem isLeastOf_foldl_min (c : Nat) (l : List Nat) : IsLeastOf (l.foldl min c) (c :: l) := by
  induction l generalizing c with
  | nil => simp [IsLeastOf]
  | cons x xs ih =>
    obtain ⟨hm, hle⟩ := ih (min c x)
    have hmin := hle (min c x) (by simp)
    refine ⟨?_, ?_⟩
    · rcases List.mem_cons.mp hm with h | h
      · rw [List.foldl_cons, h]
        rcases min_choice c x with h' | h' <;> simp [h']
      · exact List.mem_cons_of_mem _ (List.mem_cons_of_mem _ h)
    · intro y hy
      simp only [List.mem_cons] at hy
      rw [List.foldl_cons]
      rcases hy with rfl | rfl | hy
      · omega
      · omega
      · exact hle y (List.mem_cons_of_mem _ hy)

theorem IsLeastOf.append_min {c : Nat} {l : List Nat} (h : IsLeastOf c l) (x : Nat) :
    IsLeastOf (min c x) (l ++ [x]) := by
  obtain ⟨hm, hle⟩ := h
  refine ⟨?_, fun y hy => ?_⟩
  · rcases min_choice c x with h' | h' <;> simp [h', hm]
  · rcases List.mem_append.mp hy with hy | hy
    · exact (min_le_left _ _).trans (hle y hy)
    · rw [List.mem_singleton.mp hy]; exact min_le_right _ _

theorem forwardCeiling_isLeast (s : State) : IsLeastOf s.forwardCeiling
    (s.ride.maxSpeed :: s.classCeilings ++ if s.occupied then [s.ride.platformSpeed] else []) := by
  have h := isLeastOf_foldl_min s.ride.maxSpeed s.classCeilings
  rw [State.classCeilings, ← leastCeiling_eq_foldl] at h
  unfold State.forwardCeiling
  split
  · exact h.append_min _
  · simpa [State.classCeilings] using h

theorem reverseCeiling_isLeast (s : State) : IsLeastOf s.reverseCeiling
    (if s.occupied then [0] else s.ride.reverseLimit :: s.classCeilings) := by
  have h := isLeastOf_foldl_min s.ride.reverseLimit s.classCeilings
  rw [State.classCeilings, ← leastCeiling_eq_foldl] at h
  unfold State.reverseCeiling
  split
  · simp [IsLeastOf]
  · exact h

/-- Under a STOP entry both ceilings are 0. -/
theorem ceilings_of_stop (h : s.hasStop = true) : s.forwardCeiling = 0 ∧ s.reverseCeiling = 0 := by
  have hmem : 0 ∈ s.classCeilings := by
    obtain ⟨e, he, hs⟩ := List.any_eq_true.mp h
    exact List.mem_filterMap.mpr ⟨e, he, by rw [beq_iff_eq.mp hs]; rfl⟩
  have hf := (forwardCeiling_isLeast s).2 0 (by simp [hmem])
  have hr := (reverseCeiling_isLeast s).2 0 (by split <;> simp [hmem])
  omega

/-! ### The move (R8 to R10) and the rounding (R11) -/

/-- V moves toward Vt by at most the step, and waits at 0 for the brake. -/
theorem moveV_spec (b : BrakeState) (v vt : Int) (step : Nat) :
    (v = 0 ∧ b ≠ .released → moveV b v vt step = 0) ∧
    (v ≠ 0 ∨ b = .released → ((vt - v).natAbs ≤ step → moveV b v vt step = vt) ∧
      (step < (vt - v).natAbs → moveV b v vt step = v + if v < vt then (step : Int) else -step)) := by
  unfold moveV
  refine ⟨fun h => if_pos h, fun h => ?_⟩
  rw [if_neg (by rintro ⟨h0, hb⟩; exact h.elim (· h0) hb)]
  refine ⟨fun hs => if_pos hs, fun hs => ?_⟩
  rw [if_neg (by omega)]
  split <;> omega

/-- V lands between where it was and Vt, at most a step away; where it waits it is 0. -/
theorem moveV_between (b : BrakeState) (v vt : Int) (step : Nat) :
    (moveV b v vt step - v).natAbs ≤ step ∧
      min v vt ≤ moveV b v vt step ∧ moveV b v vt step ≤ max v vt := by
  unfold moveV
  split
  · next h => obtain ⟨rfl, -⟩ := h; omega
  · split
    · omega
    · split <;> omega

/-- The target output speed has not the opposite sign of V. -/
theorem targetV_sign (v q : Int) : (0 < v → 0 ≤ targetV v q) ∧ (v < 0 → targetV v q ≤ 0) := by
  unfold targetV
  split <;> omega

theorem roundSetpoint_nearest (v : Int) : 2 * (1000 * roundSetpoint v - v).natAbs ≤ 1000 ∧
    (2 * (1000 * roundSetpoint v - v).natAbs = 1000 → v.natAbs < (1000 * roundSetpoint v).natAbs) := by
  unfold roundSetpoint
  split <;> omega

/-- An output speed nearer to 0 rounds to a setpoint no larger in magnitude. -/
theorem roundSetpoint_natAbs_le {v w : Int} (h : v.natAbs ≤ w.natAbs) :
    (roundSetpoint v).natAbs ≤ (roundSetpoint w).natAbs := by
  unfold roundSetpoint
  split <;> split <;> omega

theorem roundSetpoint_sign (v : Int) :
    (0 ≤ v → 0 ≤ roundSetpoint v) ∧ (v ≤ 0 → roundSetpoint v ≤ 0) := by
  unfold roundSetpoint
  split <;> omega

/-- Output speeds on one side of 0 that differ by at most `d` round to setpoints that differ by at most
ceil(d / 1000). -/
theorem roundSetpoint_diff {v w : Int} {d : Nat} (hs : (0 ≤ v ∧ 0 ≤ w) ∨ (v ≤ 0 ∧ w ≤ 0))
    (h : (v - w).natAbs ≤ d) :
    (roundSetpoint v - roundSetpoint w).natAbs ≤ (d + 999) / 1000 := by
  unfold roundSetpoint
  split <;> split <;> omega

/-! ### An order of SERVICE, whole -/

theorem orderRecord_service (hm : s.modeRec.mode = .service) : s.orderRecord =
    ⟨s.nextV, roundSetpoint s.nextV, s.nextBrake s.nextV, s.forwardCeiling, s.reverseCeiling,
      s.out.seq + 1⟩ := by
  simp only [State.orderRecord, hm]

theorem orderRecord_setup (hm : s.modeRec.mode = .setup) : s.orderRecord =
    ⟨0, 0, .apply, 0, 0, s.out.seq + 1⟩ := by
  simp only [State.orderRecord, hm]

/-- The flags byte as a sum of its bits (9.5). -/
theorem orderFlags_eq_sum (a b c : Bool) : orderFlags a b c =
    (if a then 1 else 0) + (if b then 2 else 0) + if c then 4 else 0 := by
  cases a <;> cases b <;> cases c <;> rfl

theorem byte_brakeCode (b : BrakeRequest) : byte b.code = if b = .release then 1 else 0 := by
  cases b <;> rfl

theorem orderFrame_service (hm : s.modeRec.mode = .service) : s.orderFrame =
    ⟨0x30, 0, signed2 (roundSetpoint s.nextV) ++
      [if s.nextBrake s.nextV = .release then 1 else 0,
        byte ((if s.req.stale then 1 else 0) + (if s.holds = [] then 0 else 2) +
          (if (s.req.source == .profile) = true then 4 else 0)), s.out.seq]⟩ := by
  have hh : (if (!s.holds.isEmpty) = true then 2 else 0) = if s.holds = [] then 0 else 2 := by
    cases s.holds <;> rfl
  simp only [State.orderFrame, orderRecord_service hm, State.orderFlagsNow, hm, orderFlags_eq_sum,
    byte_brakeCode, hh]
  rfl

/-- The brake request of R12. -/
theorem nextBrake_spec (s : State) (v : Int) :
    (v = 0 ∧ s.target = 0 ∧ s.still.flag = true → s.nextBrake v = .apply) ∧
    (s.target ≠ 0 → s.nextBrake v = .release) ∧
    (s.target = 0 ∧ (v ≠ 0 ∨ s.still.flag = false) → s.nextBrake v = s.out.brake) := by
  unfold State.nextBrake
  refine ⟨fun h => if_pos h, fun h => ?_, fun ⟨h, h'⟩ => ?_⟩
  · rw [if_neg (fun hn => h hn.2.1), if_pos h]
  · rw [if_neg (fun hn => h'.elim (· hn.1) (by simp [hn.2.2])), if_neg (not_not.mpr h)]

/-- The rate of R9 with the speed source spelled as a condition. -/
theorem rate_eq (s : State) (vt : Int) : s.rate vt =
    if s.out.v.natAbs < vt.natAbs then
      (if (s.req.source == .profile) = true then min s.currentStep.rate s.ride.accel else s.ride.accel)
    else if s.hasStop = true then s.ride.holdDecel
    else if (s.req.source == .profile) = true then min s.currentStep.rate s.ride.decel
    else s.ride.decel := by
  unfold State.rate
  cases s.req.source <;> rfl

theorem requested_eq (s : State) : s.requested =
    if (s.req.source == .profile) = true then s.currentStep.target
    else if s.req.armed = true then s.req.value else 0 := by
  unfold State.requested
  cases s.req.source <;> rfl

theorem targetV_eq (v q : Int) : targetV v q =
    if (0 < v ∧ q < 0) ∨ (v < 0 ∧ 0 < q) then 0 else 1000 * q := by
  unfold targetV
  split <;> split <;> omega

/-- Settles O17: each line of R7 to R13 by the lemma about its function. -/
theorem serviceOrderComputed : Obligations.ServiceOrderComputed := by
  intro s hm
  refine ⟨s.forwardCeiling, s.reverseCeiling, s.nextV, roundSetpoint s.nextV, s.nextBrake s.nextV, ?_⟩
  intro ceilings occupied forward reverse profile stop r q vt a
  have hc : ceilings = s.classCeilings := by
    refine List.filterMap_congr fun e _ => ?_
    cases e.cls <;> rfl
  have ho : occupied = s.occupied := by
    unfold occupied State.occupied
    congr 1
    funext c
    cases c.state <;> rfl
  have hq : q = s.target := by rw [State.target, requested_eq]; rfl
  have hvt : vt = targetV s.out.v s.target := by rw [targetV_eq, ← hq]
  have ha : a = s.rate (targetV s.out.v s.target) := by rw [rate_eq, ← hvt]; rfl
  have hmove := moveV_spec s.fb.brake s.out.v vt (a * s.ride.period)
  have hv : s.nextV = moveV s.fb.brake s.out.v vt (a * s.ride.period) := by rw [State.nextV, hvt, ha]
  obtain ⟨hwait, hgo⟩ := hmove
  obtain ⟨happly, hrelease, hkeep⟩ := nextBrake_spec s s.nextV
  obtain ⟨hnear, htie⟩ := roundSetpoint_nearest s.nextV
  refine ⟨?_, ?_, ?_, ?_, ?_, ?_, ?_, hnear, htie, ?_⟩
  · simp only [forward, hc, ho]; exact forwardCeiling_isLeast s
  · simp only [reverse, hc, ho]; exact reverseCeiling_isLeast s
  · rw [hv]; exact hwait
  · rw [hv]; exact_mod_cast hgo
  · rw [hq]; exact happly
  · rw [hq]; exact hrelease
  · rw [hq]; exact hkeep
  · rw [exec_drivePeriodExpiry, driveOrder_eq, orderRecord_service hm, orderFrame_service hm]

/-- With a STOP entry, or disarmed at source CONSOLE, the target is 0. -/
theorem target_eq_zero (h : s.hasStop = true ∨ (s.req.armed = false ∧ s.req.source = .console)) :
    s.target = 0 := by
  unfold State.target clamp
  rcases h with h | ⟨ha, hs⟩
  · obtain ⟨hf, hr⟩ := ceilings_of_stop h
    omega
  · have : s.requested = 0 := by simp [State.requested, ha, hs]
    omega

/-- Settles O18: the target is 0, so V moves toward 0 or waits there. -/
theorem noSpeedingUpWhileStopped : Obligations.NoSpeedingUpWhileStopped := by
  rintro s ⟨hsp, -, -, -⟩ h
  refine ⟨_, rfl, ?_⟩
  rw [driveOrder_out, hsp]
  cases hm : s.modeRec.mode with
  | setup => rw [orderRecord_setup hm]; simp
  | service =>
    have ht : s.target = 0 := by
      refine target_eq_zero (h.imp_left ?_)
      rintro ⟨e, he, hs⟩
      exact List.any_eq_true.mpr ⟨e, he, by simp [hs]⟩
    obtain ⟨-, hlo, hhi⟩ := moveV_between s.fb.brake s.out.v 0 (s.rate 0 * s.ride.period)
    have hv : s.nextV = moveV s.fb.brake s.out.v 0 (s.rate 0 * s.ride.period) := by
      simp [State.nextV, ht, targetV]
    rw [orderRecord_service hm, hv]
    exact roundSetpoint_natAbs_le (by omega)

/-- The rate never exceeds the hold deceleration where the table rates do not (check 6). -/
theorem rate_le_holdDecel (ha : s.ride.accel ≤ s.ride.holdDecel) (hd : s.ride.decel ≤ s.ride.holdDecel)
    (vt : Int) : s.rate vt ≤ s.ride.holdDecel := by
  unfold State.rate
  split
  · split <;> omega
  · split
    · exact le_rfl
    · split <;> omega

/-- Settles O19: V stays on its side of 0 and moves by at most the hold deceleration times T. -/
theorem successiveOrdersBounded : Obligations.SuccessiveOrdersBounded := by
  rintro s ⟨hsp, -, -, h0⟩ ha hd
  refine ⟨_, rfl, ?_⟩
  rw [driveOrder_out, hsp]
  cases hm : s.modeRec.mode with
  | setup => rw [orderRecord_setup hm, h0 hm]; simp [roundSetpoint]
  | service =>
    let vt := targetV s.out.v s.target
    obtain ⟨hstep, hlo, hhi⟩ := moveV_between s.fb.brake s.out.v vt (s.rate vt * s.ride.period)
    have hv : s.nextV = moveV s.fb.brake s.out.v vt (s.rate vt * s.ride.period) := rfl
    rw [← hv] at hstep hlo hhi
    have hbound : s.rate vt * s.ride.period ≤ s.ride.holdDecel * s.ride.period :=
      Nat.mul_le_mul_right _ (rate_le_holdDecel ha hd vt)
    have hside : (0 ≤ s.nextV ∧ 0 ≤ s.out.v) ∨ (s.nextV ≤ 0 ∧ s.out.v ≤ 0) := by
      have := targetV_sign s.out.v s.target
      omega
    have hnew := roundSetpoint_sign s.nextV
    have hold := roundSetpoint_sign s.out.v
    rw [orderRecord_service hm]
    refine ⟨?_, ?_, roundSetpoint_diff hside (hstep.trans hbound)⟩ <;> simp only <;> omega

end Sys2Proof.Machine


/-! ## A FEEDBACK: what the turns of the tracker and the boarding controller leave (R15) -/

namespace Sys2Proof.Machine

set_option Elab.async false

variable {s t : State}

/-- What the tracker's reports and the boarding controller leave of a FEEDBACK's own marks: the DRIVE
entry, the rim count and the direction. -/
structure TurnKeeps (s t : State) : Prop where
  drive : t.entry .drive = s.entry .drive
  lastRim : t.tracker.lastRim = s.tracker.lastRim
  direction : t.tracker.direction = s.tracker.direction

namespace TurnKeeps

theorem refl (s : State) : TurnKeeps s s := ⟨rfl, rfl, rfl⟩

theorem keep {t' : State} (h : TurnKeeps s t) (hh : t'.holds = t.holds := by simp)
    (ht : t'.tracker = t.tracker := by simp) : TurnKeeps s t' :=
  ⟨(entry_congr hh).trans h.drive, by rw [ht]; exact h.lastRim, by rw [ht]; exact h.direction⟩

theorem ite {c : Prop} [Decidable c] {t' : State} (h : TurnKeeps s t) (h' : TurnKeeps s t') :
    TurnKeeps s (if c then t else t') := by
  split
  · exact h
  · exact h'

theorem after_causeReport (h : TurnKeeps s t) {src : HoldSource} (hs : src ≠ .drive) (k : Nat)
    (c : HoldClass) (sub : Option Nat) : TurnKeeps s (causeReport src k c sub t) :=
  ⟨(entry_causeReport_other hs ..).trans h.drive, by simpa using h.lastRim, by simpa using h.direction⟩

theorem after_absenceReport (h : TurnKeeps s t) {src : HoldSource} (hs : src ≠ .drive) :
    TurnKeeps s (absenceReport src t) := by
  refine ⟨Eq.trans ?_ h.drive, by simpa using h.lastRim, by simpa using h.direction⟩
  obtain hh | hh := absenceReport_holds src t
  · exact entry_congr hh
  · simp only [State.entry, hh, List.find?_filter]
    congr 1
    funext e
    by_cases he : e.source = .drive <;> simp [he, hs.symm]

theorem after_convert (h : TurnKeeps s t) : TurnKeeps s (convert t) := h.keep

theorem after_reportTracker (h : TurnKeeps s t) : TurnKeeps s (reportTracker t) := by
  unfold reportTracker
  split
  · exact (h.after_causeReport (by decide) ..).after_convert
  · exact h.after_causeReport (by decide) ..
  · exact h.after_absenceReport (by decide)
  · exact (h.after_causeReport (by decide) ..).after_convert

/-- A tracker record with the rim count and the direction of the one it replaces. -/
theorem withTracker (h : TurnKeeps s t) {r : Tracker} (hr : r.lastRim = t.tracker.lastRim)
    (hd : r.direction = t.tracker.direction) : TurnKeeps s { t with tracker := r } :=
  ⟨h.drive, hr.trans h.lastRim, hd.trans h.direction⟩

theorem after_takeOutcome (h : TurnKeeps s t) (o : IdOutcome) : TurnKeeps s (takeOutcome o t) := by
  have locked : (t.tracker.lockedOutcome o).lastRim = t.tracker.lastRim ∧
      (t.tracker.lockedOutcome o).direction = t.tracker.direction := by
    cases o with
    | mismatch sh => simp only [Tracker.lockedOutcome]; split <;> exact ⟨rfl, rfl⟩
    | none => exact ⟨rfl, rfl⟩
    | matched => exact ⟨rfl, rfl⟩
  have h' (n sh : Nat) : TurnKeeps s { t with tracker := t.tracker.resynchronised n sh } :=
    h.withTracker rfl rfl
  unfold takeOutcome
  split
  · have hl := h.withTracker locked.1 locked.2
    exact ite hl hl.after_reportTracker
  · split
    · exact h
    · exact h' ..
    · exact ite (h' ..) (h' ..).after_convert
  · exact h

theorem after_closeWindow (h : TurnKeeps s t) (k : Nat) : TurnKeeps s (closeWindow k t) := by
  have h' (g : Cabin → Cabin) (c : Bool) (e : Event) :
      TurnKeeps s (latchIf c e (modifyCabin k g t)) := h.keep
  exact ite ((h' ..).after_takeOutcome _) h

theorem after_crossLock (h : TurnKeeps s t) (k : Nat) : TurnKeeps s (crossLock k t) :=
  ite (h.after_causeReport (by decide) ..) h

theorem after_crossBEnd (h : TurnKeeps s t) (k : Nat) : TurnKeeps s (crossBEnd k t) := by
  have pass {u : State} (hu : TurnKeeps s u) : TurnKeeps s (passEnd k u) := by
    have h' (c : Bool) : TurnKeeps s (cabinChanged (latchIf c .countSaturated
      (modifyCabin k (fun x => x.leaveBoardZone u.ms) u))) := hu.keep
    exact ite (h' _) ((h' _).after_causeReport (by decide) ..)
  have h' : TurnKeeps s (modifyCabin k (fun c => { c with withheld := none }) t) := h.keep
  exact ite (pass h') h'

theorem after_takeCrossing (h : TurnKeeps s t) (k : Nat) (p : Point) :
    TurnKeeps s (takeCrossing k p t) :=
  match p with
  | .idStart => h.keep (by simp [takeCrossing]) (by simp [takeCrossing])
  | .idEnd => h.after_closeWindow k
  | .aStart => h.keep (by simp [takeCrossing]) (by simp [takeCrossing])
  | .bStart => h.keep (by simp [takeCrossing]) (by simp [takeCrossing])
  | .lock => h.after_crossLock k
  | .bEnd => h.after_crossBEnd k

theorem after_takeCrossings (h : TurnKeeps s t) (xs : List (Nat × Point)) :
    TurnKeeps s (takeCrossings xs t) := by
  induction xs generalizing t with
  | nil => exact h
  | cons x xs ih => exact ite (ih (h.after_takeCrossing ..)) (h.after_takeCrossing ..)

theorem after_boardFeedback (h : TurnKeeps s t) (b : Tracker) :
    TurnKeeps s (boardFeedback b t) := by
  unfold boardFeedback
  split
  · exact h
  · exact ite h.after_convert (h.after_takeCrossings _)

end TurnKeeps

/-! ### The tracker's record after a frame (R29, R30) -/

/-- The steps on the record after the direction has been set leave it. -/
theorem resumed_direction (t : Tracker) (r : RideTable) (d : Option Int) :
    (t.resumed r d).direction = t.direction := by
  unfold Tracker.resumed
  split
  · rfl
  · split <;> rfl

theorem takeLatch_direction (t : Tracker) (r : RideTable) (c : Word32) :
    (t.takeLatch r c).1.direction = t.direction := by
  have cross (n : Nat) (d : Int) (m : Word32) : (t.crossing n d m).direction = t.direction := by
    unfold Tracker.crossing; split <;> rfl
  unfold Tracker.takeLatch
  split
  · split
    · exact cross ..
    · split
      · split
        · exact cross ..
        · rfl
      · rfl
  · split <;> rfl

theorem missTests_direction (t : Tracker) (r : RideTable) (c : Word32) :
    (t.missTests r c).1.direction = t.direction := by
  have synth (t : Tracker) (d : Int) (m : Word32) : (t.synthetic r d m).direction = t.direction := by
    unfold Tracker.synthetic; split <;> rfl
  have missed (n : Nat) (t : Tracker) :
      (Tracker.missedMarkers r c n t).1.direction = t.direction := by
    induction n generalizing t with
    | zero => rfl
    | succ n ih =>
      unfold Tracker.missedMarkers
      split
      · split
        · exact (ih _).trans (synth ..)
        · split
          · exact (ih _).trans (synth ..)
          · rfl
      · rfl
  unfold Tracker.missTests
  split
  · unfold Tracker.drift; split <;> rfl
  · exact missed ..

theorem upToLatch_direction (t : Tracker) (r : RideTable) (b : Bool) (f : FeedbackFields) :
    (t.upToLatch r b f).1.direction = directionOf (t.countDiff f.rim) := by
  unfold Tracker.upToLatch
  cases b <;> cases f.marker <;> simp [takeLatch_direction, resumed_direction]

theorem afterFrame_direction (t : Tracker) (r : RideTable) (b : Bool) (f : FeedbackFields) :
    (t.afterFrame r b f).1.direction = directionOf (t.countDiff f.rim) :=
  (missTests_direction ..).trans (upToLatch_direction ..)

@[simp] theorem afterFrame_lastRim (t : Tracker) (r : RideTable) (b : Bool) (f : FeedbackFields) :
    (t.afterFrame r b f).1.lastRim = some f.rim := rfl

/-- A LOST tracker stays LOST through a frame (R29: only R40 and a HOLD RELEASE lead on from it). -/
theorem afterFrame_lost {t : Tracker} (h : t.state = .lost) (r : RideTable) (b : Bool)
    (f : FeedbackFields) : (t.afterFrame r b f).1.state = .lost := by
  have resumed {t : Tracker} (h : t.state = .lost) (d : Option Int) :
      (t.resumed r d).state = .lost := by
    unfold Tracker.resumed; split <;> simp [h]
  have latch {t : Tracker} (h : t.state = .lost) (c : Word32) :
      (t.takeLatch r c).1.state = .lost := by
    unfold Tracker.takeLatch Tracker.crossing; simp only [h]; repeat' split
    all_goals simp_all
  have miss {t : Tracker} (h : t.state = .lost) (c : Word32) :
      (t.missTests r c).1.state = .lost := by
    unfold Tracker.missTests Tracker.missedMarkers; simp [h]
  have upTo : (t.upToLatch r b f).1.state = .lost := by
    have turned : ({ t with direction := directionOf (t.countDiff f.rim) } : Tracker).state = .lost := h
    unfold Tracker.upToLatch
    cases b <;> cases f.marker
    · exact turned
    · exact latch turned _
    · exact resumed turned _
    · exact latch (resumed turned _) _
  exact miss upTo _

@[simp] theorem reportTracker_tracker (s : State) : (reportTracker s).tracker = s.tracker := by
  unfold reportTracker
  split <;> simp

@[simp] theorem setTracker_tracker (r : Tracker) (s : State) : (setTracker r s).tracker = r := by
  unfold setTracker
  split <;> simp

@[simp] theorem trackFeedback_tracker (b : Bool) (f : FeedbackFields) (s : State) :
    (trackFeedback b f s).tracker = (s.tracker.afterFrame s.ride b f).1 :=
  setTracker_tracker ..

theorem trackFeedback_entry_drive (b : Bool) (f : FeedbackFields) (s : State) :
    (trackFeedback b f s).entry .drive = s.entry .drive := by
  have h : TurnKeeps { s with tracker := (s.tracker.afterFrame s.ride b f).1 }
      (trackFeedback b f s) := by
    refine TurnKeeps.ite ?_ (TurnKeeps.after_reportTracker ?_) <;>
      exact ⟨entry_congr (by simp), rfl, rfl⟩
  exact h.drive

end Sys2Proof.Machine


/-! ## A FEEDBACK: the turns of the drive gate and of the rim tracker, written out (R15 to R17, R29, R45) -/

namespace Sys2Proof.Machine

set_option Elab.async false

variable {s : State}

/-! ### The drive gate -/

/-- The feedback record a frame leaves (R15). -/
def State.frameRecord (s : State) (f : FeedbackFields) : FeedbackRecord :=
  { state := .present, speed := some f.speed.toInt,
    brake := if f.released then .released else .applied, faultCode := f.status.toNat,
    lastArrival := s.ms, timer := some (s.ms + BitVec.ofNat 32 s.ride.feedbackTimeout) }

/-- The causes as the frame leaves the tests (R17, R124). -/
def State.frameCauses (s : State) (f : FeedbackFields) : CauseStates :=
  ⟨s.doorTest, s.platformTest, f.status != 0⟩

/-- The state with the frame in its records and the tests re-taken, before the drive status is
reported. -/
def State.gated (s : State) (f : FeedbackFields) : State := { s with
  fb := s.frameRecord f
  still := s.still.updated s.ride s.ms f.speed.toInt
  run := { s.run with begunNow := false }
  causes := s.frameCauses f
  holds := s.holds.map fun h => { h with present := presentFlag h.source (s.frameCauses f) } }

theorem status_toNat_bne (f : FeedbackFields) : (f.status.toNat != 0) = (f.status != 0) := by
  rw [Bool.eq_iff_iff, bne_iff_ne, bne_iff_ne, ne_eq, ne_eq, BitVec.toNat_eq]
  rfl

theorem status_toNat_eq_zero {f : FeedbackFields} : f.status.toNat = 0 ↔ f.status = 0 := by
  rw [BitVec.toNat_eq]; rfl

/-- The drive gate's turn: the records, and with a FAULT status the DRIVE cause (R15 to R17). -/
theorem gateFeedback_eq (f : FeedbackFields) (s : State) : gateFeedback f s =
    if f.status = 0 then s.gated f
    else causeReport .drive 2 .stop (some f.status.toNat) (s.gated f) := by
  have hd : (s.frameRecord f).state = .present ∧ (s.frameRecord f).faultCode = f.status.toNat :=
    ⟨rfl, rfl⟩
  have hret : retest { s with
      fb := s.frameRecord f
      still := s.still.updated s.ride s.ms f.speed.toInt
      run := { s.run with begunNow := false } } = s.gated f := by
    have hc : State.tests { s with
        fb := s.frameRecord f
        still := s.still.updated s.ride s.ms f.speed.toInt
        run := { s.run with begunNow := false } } = s.frameCauses f := by
      simp only [State.tests, State.frameCauses, State.driveTest, hd, status_toNat_bne]
      rfl
    simp only [retest, testReport, hc]
    rfl
  have : gateFeedback f s = reportDrive (s.gated f) := by rw [← hret]; rfl
  rw [this, reportDrive, show (s.gated f).fb.faultCode = f.status.toNat from rfl]
  simp only [status_toNat_eq_zero]

theorem gated_entry (src : HoldSource) (f : FeedbackFields) : (s.gated f).entry src =
    (s.entry src).map fun e => { e with present := presentFlag src (s.frameCauses f) } := by
  rw [entry_of_holds_map (s := s) (f := fun e => { e with present := presentFlag e.source (s.frameCauses f) })
    (fun _ => rfl) rfl]
  cases h : s.entry src with
  | none => rfl
  | some e => simp [(entry_source h).1]

/-- The DRIVE entry of a FAULT status (R17, R116). -/
def State.faultEntry (s : State) (f : FeedbackFields) : HoldEntry :=
  ⟨.drive, .stop, 2, some f.status.toNat, ((s.entry .drive).map fun h => h.time).getD s.ms, true, true⟩

/-- With a FAULT status the DRIVE entry is the same whatever form it had. -/
theorem gateFeedback_entry_fault {f : FeedbackFields} (hf : f.status ≠ 0) :
    (gateFeedback f s).entry .drive = some (s.faultEntry f) := by
  have hp : (s.frameCauses f).drive = true := bne_iff_ne.mpr hf
  rw [gateFeedback_eq, if_neg hf, entry_causeReport_same, gated_entry]
  cases h : s.entry .drive with
  | none => simp [State.faultEntry, State.gated, h, latchedForm, presentFlag, hp]
  | some e =>
    cases hl : e.latched <;>
      simp [State.faultEntry, reportedEntry, h, hl, (entry_source h).1, latchedForm, presentFlag, hp,
        higher_stop]

theorem gateFeedback_entry_ok {f : FeedbackFields} (hf : f.status = 0) :
    (gateFeedback f s).entry .drive = (s.entry .drive).map fun h => { h with present := false } := by
  rw [gateFeedback_eq, if_pos hf, gated_entry]
  simp [presentFlag, State.frameCauses, hf]

/-- A source other than DRIVE keeps its entry, with the flag of the tests. -/
theorem gateFeedback_entry_other {src : HoldSource} (hs : src ≠ .drive) (f : FeedbackFields) :
    (gateFeedback f s).entry src =
      (s.entry src).map fun e => { e with present := presentFlag src (s.frameCauses f) } := by
  rw [gateFeedback_eq, ← gated_entry]
  split
  · rfl
  · exact entry_causeReport_other hs.symm ..

theorem gateFeedback_stops {f : FeedbackFields} (hf : f.status ≠ 0) (hn : s.entry .drive = none) :
    (gateFeedback f s).req.armed = false ∧ (gateFeedback f s).run.running = false := by
  rw [gateFeedback_eq, if_neg hf]
  exact causeReport_new_stop_stops (by rw [gated_entry, hn]; rfl) ..

/-- The gate's turn with the effects of the report spelled out, under the laws of the hold list. -/
theorem gateFeedback_of_holdInv (hi : HoldInv s) (f : FeedbackFields) : gateFeedback f s =
    if f.status = 0 then s.gated f
    else if s.entry .drive = none then
      ((s.gated f).withEntry (s.faultEntry f)).stopped (s.faultEntry f)
    else putEntry (s.faultEntry f) (s.gated f) := by
  rw [gateFeedback_eq]
  by_cases hf : f.status = 0
  · rw [if_pos hf, if_pos hf]
  · have hp : (s.frameCauses f).drive = true := bne_iff_ne.mpr hf
    rw [if_neg hf, if_neg hf]
    cases h : s.entry .drive with
    | none =>
      have hform : (⟨.drive, .stop, 2, some f.status.toNat, (s.gated f).ms, latchedForm .drive 2,
          presentFlag .drive (s.gated f).causes⟩ : HoldEntry) = s.faultEntry f := by
        have hc : (s.gated f).causes.drive = true := hp
        simp [State.faultEntry, h, latchedForm, presentFlag, hc]
        rfl
      rw [causeReport_new_stop (by rw [gated_entry, h]; rfl), hform, if_pos rfl]
    | some e =>
      obtain ⟨hs, -, hform⟩ := hi.formed h
      obtain ⟨hc, hl, -⟩ := HoldEntry.formed_drive hform hs
      have hold : (s.gated f).entry .drive =
          some { e with present := presentFlag .drive (s.frameCauses f) } := by
        rw [gated_entry, h]; rfl
      rw [causeReport_old_stop hold hc, if_neg (by simp)]
      congr 1
      simp [reportedEntry, State.faultEntry, h, hl, hs, higher_stop, presentFlag, hp]

/-! ### The rim tracker -/

/-- The tracker's record and the two latches of R29, before a change of state is reported. -/
def State.seen (s : State) (x : Tracker × Bool × Bool) : State := { s with
  tracker := x.1
  latched := { s.latched with
    strayMarker := s.latched.strayMarker || x.2.1
    missedMarker := s.latched.missedMarker || x.2.2 } }

theorem latchIf_eq (c : Bool) (e : Event) (s : State) :
    latchIf c e s = { s with latched := if c then s.latched.with e else s.latched } := by
  cases c <;> rfl

theorem trackFeedback_eq (b : Bool) (f : FeedbackFields) (s : State) : trackFeedback b f s =
    let x := s.tracker.afterFrame s.ride b f
    if x.1.state = s.tracker.state then s.seen x else reportTracker (s.seen x) := by
  have hl (l : LatchedSet) (p q : Bool) :
      (if q then (if p then l.with .strayMarker else l).with .missedMarker
        else if p then l.with .strayMarker else l) =
      { l with strayMarker := l.strayMarker || p, missedMarker := l.missedMarker || q } := by
    cases p <;> cases q <;> simp [LatchedSet.with]
  simp only [trackFeedback, setTracker, latchIf_eq, hl]
  rfl

/-- The POSITION entry of a cause, written in the place of an older one with its time (R45, R116). -/
def State.positionEntry (s : State) (cls : HoldClass) (cause : Nat) : HoldEntry :=
  ⟨.position, cls, cause, none, ((s.entry .position).map fun h => h.time).getD s.ms,
    decide (cause = 3), true⟩

/-- A POSITION entry put in the list without the effects of a STOP. -/
def State.putPosition (s : State) (cls : HoldClass) (cause : Nat) : State :=
  if s.entry .position = none then s.withEntry (s.positionEntry cls cause)
  else putEntry (s.positionEntry cls cause) s

/-- A POSITION cause reported over no entry, or over an automatic CREEP with its cause present. -/
theorem causeReport_position {cls : HoldClass} (cause : Nat)
    (ho : ∀ e, s.entry .position = some e → e.present = true ∧ e.latched = false ∧ e.cls = .creep) :
    causeReport .position cause cls none s =
      if cls = .stop then (s.putPosition cls cause).stopped (s.positionEntry cls cause)
      else s.putPosition cls cause := by
  cases h : s.entry .position with
  | none =>
    have hform : (⟨.position, cls, cause, none, s.ms, latchedForm .position cause,
        presentFlag .position s.causes⟩ : HoldEntry) = s.positionEntry cls cause := by
      simp [State.positionEntry, h, latchedForm, presentFlag]
      rfl
    rw [causeReport_new h, hform, addEntry_eq, State.putPosition, if_pos h]
    rfl
  | some e =>
    obtain ⟨hp, hl, hc⟩ := ho e h
    have hform : reportedEntry e cause cls none = s.positionEntry cls cause := by
      simp [reportedEntry, State.positionEntry, h, hl, hp, (entry_source h).1, latchedForm]
      rfl
    have hcls : (s.positionEntry cls cause).cls = cls := rfl
    have hput : s.putPosition cls cause = putEntry (s.positionEntry cls cause) s :=
      if_neg (by simp [h])
    rw [causeReport_old h, hform, hc, hput, stopEffectsIf, stopEffects_eq, hcls]
    cases cls <;> rfl

/-- The conversion as the statements spell it (R46, R54). -/
theorem convert_eq (s : State) : convert s = s.converted := by
  have hp : ∀ c : Cabin, c.state.onPlatform = (c.state == .alighting || c.state == .boarding) := by
    intro c; cases c.state <;> rfl
  have hm : s.cabins.map (Cabin.converted s.ms) = s.cabins.map fun c =>
      if c.state = .alighting ∨ c.state = .boarding then
        { c with
          state := .unverified, withheld := some .position, door := .notAtPlatform
          hasValid := false, zoneCount := 0, entryBarred := false, exitTime := s.ms
          window := ⟨false, 0, none, 0⟩ }
      else { c with window := ⟨false, 0, none, 0⟩ } := by
    refine List.map_congr_left fun c _ => ?_
    simp only [Cabin.converted, hp, Bool.or_eq_true, beq_iff_eq]
    rfl
  simp only [convert, State.occupied, hp, hm]
  rfl

/-- The tracker's turn with its reports spelled out: the state has a new record `x`, reported over no
POSITION entry or an automatic one. -/
theorem reportTracker_eq (ho : ∀ e, s.entry .position = some e →
      e.present = true ∧ e.latched = false ∧ e.cls = .creep) : reportTracker s =
    match s.tracker.state with
    | .locked => { s with holds := s.holds.filter fun h => h.source != .position }
    | .coasting => s.putPosition .creep 2
    | .searching => (s.putPosition .creep 1).converted
    | .lost => ((s.putPosition .stop 3).stopped (s.positionEntry .stop 3)).converted := by
  unfold reportTracker
  cases s.tracker.state with
  | searching => simp only [causeReport_position 1 ho, convert_eq]; rfl
  | coasting => simp only [causeReport_position 2 ho]; rfl
  | lost => simp only [causeReport_position 3 ho, convert_eq]; rfl
  | locked =>
    simp only [absenceReport]
    cases h : s.entry .position with
    | some e => simp only [(ho e h).2.1]; rfl
    | none =>
      have : (s.holds.filter fun h => h.source != .position) = s.holds :=
        List.filter_eq_self.mpr fun e he => by simpa using entry_eq_none_iff.mp h e he
      simp only [this]

/-- Unless the tracker is LOST, the POSITION entry is an automatic CREEP with its cause present. -/
theorem HoldInv.position_automatic (hi : HoldInv s) (hl : s.tracker.state ≠ .lost) {e : HoldEntry}
    (he : s.entry .position = some e) : e.present = true ∧ e.latched = false ∧ e.cls = .creep := by
  obtain ⟨-, -, -, hpos, -⟩ := id hi
  obtain ⟨hs, -, hf⟩ := hi.formed he
  obtain ⟨hp, -, hform⟩ := HoldEntry.formed_position hf hs
  have hc : e.cause ≠ 3 := by
    rw [he] at hpos
    cases hst : s.tracker.state <;> simp_all [TrackerState.holdCause]
  rw [if_neg hc] at hform
  exact ⟨hp, hform⟩

end Sys2Proof.Machine


/-! ## A FEEDBACK: cabin travel, the movement of a frame and its crossings (R28, R52, R53) -/

namespace Sys2Proof.Machine

set_option Elab.async false

variable {s : State} {r : RideTable} {t before after : Tracker} {k : Nat}

/-! ### Cabin travel (R28) -/

/-- The rim circumference as a number of the formulas of R52. -/
def RideTable.rim (r : RideTable) : Int := r.n * r.pitch

/-- Cabin travel as R28 writes it: the figure `d` of cabin `k`, when it is known. -/
def Tracker.TravelIs (t : Tracker) (r : RideTable) (k : Nat) (d : Int) : Prop :=
  t.phaseKnown = true ∧ ∃ (i : Nat) (c : Word32), t.index = some i ∧ t.lastRim = some c ∧
    d = ((c - t.m).toInt + ((i : Int) - k) % r.n * r.pitch) % r.rim

theorem RideTable.rim_pos (hn : 0 < r.n) (hp : 0 < r.pitch) : 0 < r.rim := by
  unfold RideTable.rim
  positivity

theorem RideTable.circumference_eq_rim (r : RideTable) : (r.circumference : Int) = r.rim := by
  simp [RideTable.circumference, RideTable.rim]

theorem travelIs_iff (hn : 0 < r.n) (hp : 0 < r.pitch) {d : Int} :
    t.TravelIs r k d ↔ ∃ a : Nat, d = a ∧ t.travel r k = some a := by
  have hrim := RideTable.rim_pos hn hp
  have hround (z : Int) : ((roundRim z r.n * r.pitch : Nat) : Int) = z % r.n * r.pitch := by
    rw [Nat.cast_mul, roundRim, Int.toNat_of_nonneg (Int.emod_nonneg _ (by omega))]
  unfold Tracker.TravelIs Tracker.travel
  cases t.phaseKnown
  · simp
  · cases t.index with
    | none => simp
    | some i =>
      cases t.lastRim with
      | none => simp
      | some c =>
        simp only [hround, RideTable.circumference_eq_rim, rimDiff, Option.some.injEq, true_and]
        constructor
        · rintro ⟨i', c', rfl, rfl, rfl⟩
          exact ⟨_, (Int.toNat_of_nonneg (Int.emod_nonneg _ (by omega))).symm, rfl⟩
        · rintro ⟨_, rfl, rfl⟩
          exact ⟨i, c, rfl, rfl, Int.toNat_of_nonneg (Int.emod_nonneg _ (by omega))⟩

/-- Whether travel is known does not depend on the cabin. -/
theorem Tracker.TravelIs.other {d : Int} (h : t.TravelIs r k d) (k' : Nat) : ∃ d', t.TravelIs r k' d' := by
  obtain ⟨hp, i, c, hi, hc, -⟩ := h
  exact ⟨_, hp, i, c, hi, hc, rfl⟩

theorem Tracker.TravelIs.unique {d d' : Int} (h : t.TravelIs r k d) (h' : t.TravelIs r k d') : d = d' := by
  obtain ⟨-, i, c, hi, hc, rfl⟩ := h
  obtain ⟨-, i', c', hi', hc', rfl⟩ := h'
  cases hi.symm.trans hi'
  cases hc.symm.trans hc'
  rfl

theorem Tracker.TravelIs.bounds {d : Int} (h : t.TravelIs r k d) (hr : 0 < r.rim) : 0 ≤ d ∧ d < r.rim := by
  obtain ⟨-, i, c, -, -, rfl⟩ := h
  exact ⟨Int.emod_nonneg _ hr.ne', Int.emod_lt_of_pos _ hr⟩

/-- Round the rim, a figure is the count beyond M and a whole number of pitches. -/
theorem Tracker.TravelIs.congr {d : Int} (h : t.TravelIs r k d) : ∃ (i : Nat) (c : Word32),
    t.index = some i ∧ t.lastRim = some c ∧
      r.rim ∣ (c - t.m).toInt + ((i : Int) - k) * r.pitch - d := by
  obtain ⟨-, i, c, hi, hc, rfl⟩ := h
  refine ⟨i, c, hi, hc, ?_⟩
  have hcount : r.rim ∣ (((i : Int) - k) - ((i : Int) - k) % r.n) * r.pitch :=
    mul_dvd_mul_right Int.dvd_self_sub_emod _
  have hrim : r.rim ∣ (c - t.m).toInt + ((i : Int) - k) % r.n * r.pitch -
      ((c - t.m).toInt + ((i : Int) - k) % r.n * r.pitch) % r.rim := Int.dvd_self_sub_emod
  have := dvd_add hcount hrim
  ring_nf at this ⊢
  exact this

/-- Round the rim, the figures of two cabins lie a whole number of pitches apart. -/
theorem Tracker.TravelIs.apart {k' : Nat} {d d' : Int} (h : t.TravelIs r k d)
    (h' : t.TravelIs r k' d') : r.rim ∣ d - d' - ((k' : Int) - k) * r.pitch := by
  obtain ⟨i, c, hi, hc, hd⟩ := h.congr
  obtain ⟨i', c', hi', hc', hd'⟩ := h'.congr
  cases hi.symm.trans hi'
  cases hc.symm.trans hc'
  have := dvd_sub hd' hd
  ring_nf at this ⊢
  exact this

/-- No two cabins of the ride stand at one place of the rim. -/
theorem Tracker.TravelIs.distinct {k' : Nat} {d d' : Int} (h : t.TravelIs r k d) (h' : t.TravelIs r k' d')
    (hp : 0 < r.pitch) (hk : k < r.n) (hk' : k' < r.n) (hne : k ≠ k') : ¬r.rim ∣ d - d' := by
  intro hd
  have hmul : (r.n : Int) * r.pitch ∣ ((k' : Int) - k) * r.pitch := by
    have := dvd_sub hd (h.apart h')
    rwa [sub_sub_cancel] at this
  have hdvd : (r.n : Int) ∣ (k' : Int) - k :=
    Int.dvd_of_mul_dvd_mul_right (by omega) hmul
  have := Int.eq_zero_of_abs_lt_dvd hdvd (by rw [abs_lt]; omega)
  omega

/-! ### The movement (R52) -/

/-- The before-figure `b` and the after-figure `a` of cabin `k` in a frame (R28). -/
def FiguresAt (r : RideTable) (before after : Tracker) (k : Nat) (b a : Int) : Prop :=
  before.travelHanded = true ∧ before.TravelIs r k b ∧ after.TravelIs r k a

/-- A frame moves the rim by `mv`: every cabin's figures differ by it, taken into (−C/2, C/2] (R52). -/
def MovesBy (r : RideTable) (before after : Tracker) (mv : Int) : Prop :=
  -r.rim < 2 * mv ∧ 2 * mv ≤ r.rim ∧
    ∀ k, k < r.n → ∃ b a, FiguresAt r before after k b a ∧ (a - b - mv) % r.rim = 0

theorem eq_of_half_range {c x y : Int} (hx : -c < 2 * x ∧ 2 * x ≤ c) (hy : -c < 2 * y ∧ 2 * y ≤ c)
    (h : c ∣ x - y) : x = y := by
  have := Int.eq_zero_of_abs_lt_dvd h (by rw [abs_lt]; omega)
  omega

theorem movement_spec (c : Nat) (hc : 0 < c) (b a : Nat) :
    (-(c : Int) < 2 * movement c b a ∧ 2 * movement c b a ≤ c) ∧
      (c : Int) ∣ (a : Int) - b - movement c b a := by
  have h0 := Int.emod_nonneg ((a : Int) - b) (show (c : Int) ≠ 0 by omega)
  have h1 := Int.emod_lt_of_pos ((a : Int) - b) (show (0 : Int) < c by omega)
  have hd : (c : Int) ∣ (a : Int) - b - ((a : Int) - b) % c := Int.dvd_self_sub_emod
  unfold movement
  simp only
  split
  · refine ⟨by omega, ?_⟩
    rw [show (a : Int) - b - (((a : Int) - b) % c - c) = (a : Int) - b - ((a : Int) - b) % c + c by ring]
    exact dvd_add hd dvd_rfl
  · exact ⟨by omega, hd⟩

/-- The differences of the figures agree round the rim. -/
theorem FiguresAt.shift {k' : Nat} {b a b' a' : Int} (h : FiguresAt r before after k b a)
    (h' : FiguresAt r before after k' b' a') : r.rim ∣ (a - b) - (a' - b') := by
  have := dvd_sub (h.2.2.apart h'.2.2) (h.2.1.apart h'.2.1)
  rwa [show a - a' - ((k' : Int) - k) * r.pitch - (b - b' - ((k' : Int) - k) * r.pitch) =
    (a - b) - (a' - b') by ring] at this

theorem FiguresAt.other {b a : Int} (h : FiguresAt r before after k b a) (k' : Nat) :
    ∃ b' a', FiguresAt r before after k' b' a' := by
  obtain ⟨hh, hb, ha⟩ := h
  obtain ⟨b', hb'⟩ := hb.other k'
  obtain ⟨a', ha'⟩ := ha.other k'
  exact ⟨b', a', hh, hb', ha'⟩

/-- The frame's movement is cabin 0's, and the same for every cabin (R52). -/
theorem movesBy_iff (hn : 0 < s.ride.n) (hp : 0 < s.ride.pitch) {mv : Int} :
    MovesBy s.ride before s.tracker mv ↔ s.frameMovement before = some mv := by
  have hrim := RideTable.rim_pos hn hp
  have hc : 0 < s.ride.circumference := Nat.mul_pos hn hp
  have hcr := s.ride.circumference_eq_rim
  constructor
  · rintro ⟨h1, h2, hall⟩
    obtain ⟨_, _, ⟨hh, hbefore, hafter⟩, hd⟩ := hall 0 hn
    obtain ⟨b, rfl, hb⟩ := (travelIs_iff hn hp).mp hbefore
    obtain ⟨a, rfl, ha⟩ := (travelIs_iff hn hp).mp hafter
    obtain ⟨hr, hm⟩ := movement_spec s.ride.circumference hc b a
    rw [hcr] at hr hm
    have : mv = movement s.ride.circumference b a := by
      refine eq_of_half_range ⟨h1, h2⟩ hr ?_
      have := dvd_sub hm (Int.dvd_of_emod_eq_zero hd)
      rwa [show (a : Int) - b - movement s.ride.circumference b a - (a - b - mv) =
        mv - movement s.ride.circumference b a by ring] at this
    simp only [State.frameMovement, hh, if_true, hb, ha, this]
  · intro h
    unfold State.frameMovement at h
    split at h
    · next hh =>
      split at h
      · next b a hb ha =>
        cases h
        have h0 : FiguresAt s.ride before s.tracker 0 b a :=
          ⟨hh, (travelIs_iff hn hp).mpr ⟨b, rfl, hb⟩, (travelIs_iff hn hp).mpr ⟨a, rfl, ha⟩⟩
        obtain ⟨hr, hm⟩ := movement_spec s.ride.circumference hc b a
        rw [hcr] at hr hm
        refine ⟨hr.1, hr.2, fun k _ => ?_⟩
        obtain ⟨b', a', hk⟩ := h0.other k
        refine ⟨b', a', hk, Int.emod_eq_zero_of_dvd ?_⟩
        have := dvd_add (hk.shift h0) hm
        rwa [show a' - b' - ((a : Int) - b) + (a - b - movement s.ride.circumference b a) =
          a' - b' - movement s.ride.circumference b a by ring] at this
      · cases h
    · cases h

/-! ### The crossings of a frame in their order (R52, R53) -/

/-- The place of cabin `k` in the order of R53: its after-figure, or that plus C past the point 0. -/
def PlacedAt (r : RideTable) (before after : Tracker) (k : Nat) (mv l : Int) : Prop :=
  ∃ b a, FiguresAt r before after k b a ∧ l = if a < mv then a + r.rim else a

/-- The platform points with their offsets, in the order of R53 (R51). -/
def State.points (s : State) : List (Point × Int) :=
  [(.idStart, s.zone.idStart), (.idEnd, s.zone.idEnd), (.aStart, s.zone.aStart),
    (.bStart, s.zone.bStart), (.lock, (s.zone.bEnd : Int) - s.ride.lockMargin), (.bEnd, s.zone.bEnd)]

theorem mem_points {p : Point} {off : Int} : (p, off) ∈ s.points ↔ off = s.offset p := by
  cases p <;> simp [State.points, State.offset]

theorem mem_allPoints (p : Point) : p ∈ allPoints := by cases p <;> decide

/-- A record of crossings is the one of its cabin in this frame. -/
def IsCrossingsOf (s : State) (before : Tracker) (mv : Int) (x : CabinCrossings) : Prop :=
  ∃ b a, before.travel s.ride x.cabin = some b ∧ s.tracker.travel s.ride x.cabin = some a ∧
    x = s.cabinCrossings mv x.cabin b a ∧ x.points ≠ []

theorem mem_insertCrossings {x y : CabinCrossings} {l : List CabinCrossings} :
    y ∈ insertCrossings x l ↔ y = x ∨ y ∈ l := by
  induction l with
  | nil => simp [insertCrossings]
  | cons z zs ih =>
    unfold insertCrossings
    split
    · simp
    · simp only [List.mem_cons, ih]; tauto

theorem mem_crossingsUpTo {mv : Int} {m : Nat} {x : CabinCrossings} :
    x ∈ s.crossingsUpTo before mv m ↔ x.cabin < m ∧ IsCrossingsOf s before mv x := by
  induction m with
  | zero => simp [State.crossingsUpTo]
  | succ m ih =>
    have split_last : x.cabin < m + 1 ∧ IsCrossingsOf s before mv x ↔
        (x.cabin = m ∧ IsCrossingsOf s before mv x) ∨ x ∈ s.crossingsUpTo before mv m := by
      rw [ih, ← or_and_right]
      exact and_congr_left' (by omega)
    rw [split_last, State.crossingsUpTo]
    split
    · next b a hb ha =>
      have last : (x.cabin = m ∧ IsCrossingsOf s before mv x) ↔
          x = s.cabinCrossings mv m b a ∧ (s.cabinCrossings mv m b a).points ≠ [] := by
        constructor
        · rintro ⟨rfl, b', a', hb', ha', hx, hne⟩
          cases hb.symm.trans hb'
          cases ha.symm.trans ha'
          exact ⟨hx, by rwa [← hx]⟩
        · rintro ⟨rfl, hne⟩
          exact ⟨rfl, b, a, hb, ha, rfl, hne⟩
      simp only
      split
      · next he =>
        rw [last, List.isEmpty_iff.mp he]
        simp
      · next he =>
        rw [last, mem_insertCrossings]
        simp [List.isEmpty_iff] at he
        simp [he]
    · next hno =>
      refine (or_iff_right ?_).symm
      rintro ⟨rfl, b, a, hb, ha, -⟩
      exact hno b a hb ha

theorem pairwise_insertCrossings {x : CabinCrossings} {l : List CabinCrossings}
    (hl : l.Pairwise fun y z => z.place < y.place) (hx : ∀ y ∈ l, y.place ≠ x.place) :
    (insertCrossings x l).Pairwise fun y z => z.place < y.place := by
  induction l with
  | nil => simp [insertCrossings]
  | cons z zs ih =>
    obtain ⟨hz, hzs⟩ := List.pairwise_cons.mp hl
    have hxz := hx z (by simp)
    unfold insertCrossings
    split
    · next hlt =>
      refine List.pairwise_cons.mpr ⟨fun y hy => ?_, hl⟩
      rcases List.mem_cons.mp hy with rfl | hy
      · exact hlt
      · exact (hz y hy).trans hlt
    · next hlt =>
      refine List.pairwise_cons.mpr ⟨fun y hy => ?_, ih hzs fun y hy => hx y (by simp [hy])⟩
      rcases mem_insertCrossings.mp hy with rfl | hy
      · omega
      · exact hz y hy

/-- The place of a record of crossings is its cabin's in the order of R53. -/
theorem IsCrossingsOf.placed (hn : 0 < s.ride.n) (hp : 0 < s.ride.pitch) {mv : Int}
    {x : CabinCrossings} (hh : before.travelHanded = true) (h : IsCrossingsOf s before mv x) :
    ∃ b a, FiguresAt s.ride before s.tracker x.cabin b a ∧
      (x.place : Int) = if a < mv then a + s.ride.rim else a := by
  obtain ⟨b, a, hb, ha, hx, -⟩ := h
  refine ⟨b, a, ⟨hh, (travelIs_iff hn hp).mpr ⟨b, rfl, hb⟩, (travelIs_iff hn hp).mpr ⟨a, rfl, ha⟩⟩, ?_⟩
  rw [hx, ← RideTable.circumference_eq_rim]
  simp only [State.cabinCrossings]
  split <;> simp

/-- Two cabins of the ride have different places. -/
theorem IsCrossingsOf.place_ne (hn : 0 < s.ride.n) (hp : 0 < s.ride.pitch) {mv : Int}
    {x y : CabinCrossings} (hh : before.travelHanded = true) (hx : IsCrossingsOf s before mv x)
    (hy : IsCrossingsOf s before mv y) (hxn : x.cabin < s.ride.n) (hyn : y.cabin < s.ride.n)
    (hne : x.cabin ≠ y.cabin) : x.place ≠ y.place := by
  obtain ⟨-, a, ⟨-, -, ha⟩, hpx⟩ := hx.placed hn hp hh
  obtain ⟨-, a', ⟨-, -, ha'⟩, hpy⟩ := hy.placed hn hp hh
  intro heq
  refine ha.distinct ha' hp hxn hyn hne ?_
  rw [heq, hpy] at hpx
  have hz : a - a' = 0 ∨ a - a' = s.ride.rim ∨ a - a' = -s.ride.rim := by
    split at hpx <;> split at hpx <;> omega
  rcases hz with hz | hz | hz <;> rw [hz]
  · exact dvd_zero _
  · exact dvd_neg.mpr dvd_rfl

theorem pairwise_crossingsUpTo (hn : 0 < s.ride.n) (hp : 0 < s.ride.pitch)
    (hh : before.travelHanded = true) (mv : Int) {m : Nat} (hm : m ≤ s.ride.n) :
    (s.crossingsUpTo before mv m).Pairwise fun y z => z.place < y.place := by
  induction m with
  | zero => exact List.Pairwise.nil
  | succ m ih =>
    have ih := ih (by omega)
    unfold State.crossingsUpTo
    split
    · next b a hb ha =>
      simp only
      split
      · exact ih
      · next he =>
        have hx : IsCrossingsOf s before mv (s.cabinCrossings mv m b a) :=
          ⟨b, a, hb, ha, rfl, fun h => he (List.isEmpty_iff.mpr h)⟩
        refine pairwise_insertCrossings ih fun y hy => ?_
        obtain ⟨hym, hy⟩ := mem_crossingsUpTo.mp hy
        have hcab : (s.cabinCrossings mv m b a).cabin = m := rfl
        exact hy.place_ne hn hp hh hx (by omega) (by omega) (by omega)
    · exact ih

end Sys2Proof.Machine


/-! ## A FEEDBACK: the crossings taken, the profile unit, and the whole (R15, R53, R144) -/

namespace Sys2Proof.Machine

set_option Elab.async false

variable {s : State} {before : Tracker} {k : Nat} {p : Point}

/-! ### Which crossings a frame has (R52) -/

theorem mem_crossingList {mv : Int} : (k, p) ∈ s.crossingList before mv ↔ k < s.ride.n ∧
    ∃ b a : Nat, before.travel s.ride k = some b ∧ s.tracker.travel s.ride k = some a ∧
      crosses s.ride.circumference b mv (s.offset p) = true := by
  simp only [State.crossingList, List.mem_flatMap, List.mem_map, mem_crossingsUpTo, Prod.mk.injEq]
  constructor
  · rintro ⟨x, ⟨hx, b, a, hb, ha, hxe, -⟩, q, hq, rfl, rfl⟩
    rw [hxe] at hq
    exact ⟨hx, b, a, hb, ha, (List.mem_filter.mp hq).2⟩
  · rintro ⟨hk, b, a, hb, ha, hc⟩
    have hp : p ∈ (s.cabinCrossings mv k b a).points := List.mem_filter.mpr ⟨mem_allPoints p, hc⟩
    exact ⟨s.cabinCrossings mv k b a, ⟨hk, b, a, hb, ha, rfl, List.ne_nil_of_mem hp⟩, p, hp, rfl, rfl⟩

theorem frameMovement_handed {mv : Int} (h : s.frameMovement before = some mv) :
    before.travelHanded = true := by
  unfold State.frameMovement at h
  split at h
  · assumption
  · cases h

/-- The crossings of a frame, as R52 says which they are. -/
theorem mem_frameCrossings (hn : 0 < s.ride.n) (hp : 0 < s.ride.pitch) :
    (k, p) ∈ s.frameCrossings before ↔ k < s.ride.n ∧ ∃ mv b a off,
      MovesBy s.ride before s.tracker mv ∧ 0 < mv ∧ mv < s.ride.pitch ∧
      FiguresAt s.ride before s.tracker k b a ∧ (p, off) ∈ s.points ∧
      1 ≤ (off - b) % s.ride.rim ∧ (off - b) % s.ride.rim ≤ mv := by
  have hcross (b : Nat) (mv : Int) : crosses s.ride.circumference b mv (s.offset p) = true ↔
      1 ≤ (s.offset p - b) % s.ride.rim ∧ (s.offset p - b) % s.ride.rim ≤ mv := by
    simp [crosses, RideTable.circumference_eq_rim]
  constructor
  · intro h
    unfold State.frameCrossings at h
    split at h
    · simp at h
    · next mv hm =>
      split at h
      · next hr =>
        obtain ⟨hk, b, a, hb, ha, hc⟩ := mem_crossingList.mp h
        exact ⟨hk, mv, b, a, s.offset p, (movesBy_iff hn hp).mpr hm, hr.1, hr.2,
          ⟨frameMovement_handed hm, (travelIs_iff hn hp).mpr ⟨b, rfl, hb⟩,
            (travelIs_iff hn hp).mpr ⟨a, rfl, ha⟩⟩, mem_points.mpr rfl, (hcross ..).mp hc⟩
      · simp at h
  · rintro ⟨hk, mv, _, _, off, hm, h0, hlt, ⟨-, hbefore, hafter⟩, hoff, hc⟩
    obtain ⟨b, rfl, hb⟩ := (travelIs_iff hn hp).mp hbefore
    obtain ⟨a, rfl, ha⟩ := (travelIs_iff hn hp).mp hafter
    rw [mem_points.mp hoff] at hc
    simp only [State.frameCrossings, (movesBy_iff hn hp).mp hm, if_pos (And.intro h0 hlt)]
    exact mem_crossingList.mpr ⟨hk, b, a, hb, ha, (hcross ..).mpr hc⟩

/-- The order of R53: the cabin furthest along first, each cabin's points in their own order. -/
def CrossesBefore (s : State) (before : Tracker) (y z : Nat × Point) : Prop :=
  y.1 ≠ z.1 ∧ (∃ mv l m, MovesBy s.ride before s.tracker mv ∧
      PlacedAt s.ride before s.tracker y.1 mv l ∧ PlacedAt s.ride before s.tracker z.1 mv m ∧ m < l) ∨
    y.1 = z.1 ∧ allPoints.idxOf y.2 < allPoints.idxOf z.2

theorem pairwise_frameCrossings (hn : 0 < s.ride.n) (hp : 0 < s.ride.pitch) :
    (s.frameCrossings before).Pairwise (CrossesBefore s before) := by
  have hpoints : allPoints.Pairwise fun p q => allPoints.idxOf p < allPoints.idxOf q := by decide
  unfold State.frameCrossings
  split
  · exact List.Pairwise.nil
  · next mv hm =>
    split
    · have hh := frameMovement_handed hm
      refine List.pairwise_flatMap.mpr ⟨fun x hx => ?_, ?_⟩
      · obtain ⟨-, b, a, -, -, hxe, -⟩ := mem_crossingsUpTo.mp hx
        have hsub : x.points.Sublist allPoints := by rw [hxe]; exact List.filter_sublist
        exact (hpoints.sublist hsub).map _ fun p q hpq => .inr ⟨rfl, hpq⟩
      · refine (pairwise_crossingsUpTo hn hp hh mv le_rfl).imp_of_mem fun {x y} hx hy hlt => ?_
        simp only [List.mem_map, forall_exists_index, and_imp]
        rintro _ q - rfl _ q' - rfl
        have hx := (mem_crossingsUpTo.mp hx).2
        have hy := (mem_crossingsUpTo.mp hy).2
        obtain ⟨b, a, hf, hpl⟩ := hx.placed hn hp hh
        obtain ⟨b', a', hf', hpl'⟩ := hy.placed hn hp hh
        refine .inl ⟨fun hcab => ?_, mv, x.place, y.place, (movesBy_iff hn hp).mpr hm,
          ⟨b, a, hf, hpl⟩, ⟨b', a', hf', hpl'⟩, by exact_mod_cast hlt⟩
        have hcab : x.cabin = y.cabin := hcab
        rw [hcab] at hf
        rw [hf.2.2.unique hf'.2.2, ← hpl'] at hpl
        omega
    · exact List.Pairwise.nil

/-! ### Which of them are taken (R53) -/

/-- The state after the first `j` crossings of a list. -/
def stageOf (xs : List (Nat × Point)) (s : State) (j : Nat) : State :=
  (xs.take j).foldl (fun y z => takeCrossing z.1 z.2 y) s

/-- Whether crossing `j` of the list leaves the tracker's state and index. -/
def KeepsTracker (xs : List (Nat × Point)) (s : State) (j : Nat) : Prop :=
  (stageOf xs s (j + 1)).tracker.state = (stageOf xs s j).tracker.state ∧
    (stageOf xs s (j + 1)).tracker.index = (stageOf xs s j).tracker.index

@[simp] theorem stageOf_zero (xs : List (Nat × Point)) (s : State) : stageOf xs s 0 = s := rfl

@[simp] theorem stageOf_cons (x : Nat × Point) (xs : List (Nat × Point)) (s : State) (j : Nat) :
    stageOf (x :: xs) s (j + 1) = stageOf xs (takeCrossing x.1 x.2 s) j := rfl

/-- The crossings taken are a first part of the list: every one but the last taken leaves the tracker's
state and index, and the rest is abandoned only after one that does not. -/
theorem crossingsTaken_spec (xs : List (Nat × Point)) (s : State) :
    ∃ n, n ≤ xs.length ∧ crossingsTaken xs s = xs.take n ∧ takeCrossings xs s = stageOf xs s n ∧
      (∀ j, j + 1 < n → KeepsTracker xs s j) ∧
      (n < xs.length → ∃ j, n = j + 1 ∧ ¬KeepsTracker xs s j) := by
  induction xs generalizing s with
  | nil => exact ⟨0, le_rfl, rfl, rfl, by omega, by simp⟩
  | cons x xs ih =>
    obtain ⟨k, p⟩ := x
    by_cases h : KeepsTracker ((k, p) :: xs) s 0
    · obtain ⟨n, hle, htaken, hstage, hkeep, hstop⟩ := ih (takeCrossing k p s)
      have h' : (takeCrossing k p s).tracker.state = s.tracker.state ∧
          (takeCrossing k p s).tracker.index = s.tracker.index := h
      refine ⟨n + 1, by simpa using hle, ?_, ?_, ?_, ?_⟩
      · simp only [crossingsTaken, if_pos h', htaken, List.take_succ_cons]
      · simp only [takeCrossings, if_pos h', hstage, stageOf_cons]
      · rintro (_ | j) hj
        · exact h
        · exact hkeep j (by omega)
      · intro hlt
        obtain ⟨j, rfl, hj⟩ := hstop (by simpa using hlt)
        exact ⟨j + 1, rfl, hj⟩
    · have h' : ¬((takeCrossing k p s).tracker.state = s.tracker.state ∧
          (takeCrossing k p s).tracker.index = s.tracker.index) := h
      refine ⟨1, by simp, ?_, ?_, by omega, fun _ => ⟨0, rfl, h⟩⟩
      · simp only [crossingsTaken, if_neg h', List.take_succ_cons, List.take_zero]
      · simp only [takeCrossings, if_neg h', stageOf_cons, stageOf_zero]

/-- The boarding controller's turn by the frame's movement (R52, R53). -/
theorem boardFeedback_spec (hn : 0 < s.ride.n) (hp : 0 < s.ride.pitch) :
    ((∃ mv, MovesBy s.ride before s.tracker mv ∧ (s.ride.pitch : Int) ≤ mv) →
      boardFeedback before s = s.converted) ∧
    ((∀ mv, MovesBy s.ride before s.tracker mv → mv < (s.ride.pitch : Int)) →
      boardFeedback before s = takeCrossings (s.frameCrossings before) s) := by
  simp only [movesBy_iff hn hp]
  unfold boardFeedback
  cases hm : s.frameMovement before with
  | none => simp [State.frameCrossings, hm, takeCrossings]
  | some mv =>
    refine ⟨?_, fun h => if_neg (not_le.mpr (h mv rfl))⟩
    rintro ⟨mv', heq, hle⟩
    cases heq
    exact (if_pos hle).trans (convert_eq s)

/-! ### The profile unit, and what the frame leaves -/

theorem profileFeedback_idle (h : s.run.running = false) (d v : Int) (xs : List (Nat × Point)) :
    (profileFeedback d v xs s).run = { s.run with travel := s.run.travel + BitVec.ofInt 32 d } := by
  simp [profileFeedback, h]

theorem forwardFeedback_latched (f : FeedbackFields) (n : Nat) (s : State) :
    { (forwardFeedback f n s).latched with queueFull := s.latched.queueFull } = s.latched := by
  unfold forwardFeedback
  repeat' split
  all_goals rfl

theorem tests_congr {t : State} (hc : t.cabins = s.cabins) (ha : t.alightStation = s.alightStation)
    (hb : t.boardStation = s.boardStation) (hf : t.fb = s.fb) : t.tests = s.tests := by
  simp only [State.tests, State.doorTest, State.platformTest, State.driveTest, hc, ha, hb, hf]

/-- The state as the boarding controller's turn leaves it (R15). -/
def State.boarded (s : State) (f : FeedbackFields) : State :=
  boardFeedback s.tracker (trackFeedback (s.fb.state == .silent) f (gateFeedback f s))

/-- The crossings handed to the profile unit (R53, R144). -/
def State.handed (s : State) (f : FeedbackFields) : List (Nat × Point) :=
  let u := trackFeedback (s.fb.state == .silent) f (gateFeedback f s)
  crossingsTaken (u.frameCrossings s.tracker) u

/-- A FEEDBACK taken: the profile unit's turn after the others, the tests re-taken, and the copy. -/
theorem takeFeedback_eq (f : FeedbackFields) (s : State) : takeFeedback f s =
    forwardFeedback f s.consoleQueue.length (retest
      (profileFeedback (s.frameDiff f) f.speed.toInt (s.handed f) (s.boarded f))) := rfl

/-- The tests at the end of the frame are those of the state it leaves. -/
theorem takeFeedback_causes (f : FeedbackFields) (s : State) :
    (takeFeedback f s).causes = (takeFeedback f s).tests := by
  rw [takeFeedback_eq]
  simp only [forwardFeedback_frame, retest_causes]
  rw [← retest_tests]
  exact (tests_congr (by simp) (by simp) (by simp) (by simp)).symm

theorem takeFeedback_holds (f : FeedbackFields) (s : State) : (takeFeedback f s).holds =
    (s.boarded f).holds.map fun h => { h with present := presentFlag h.source (takeFeedback f s).causes } := by
  rw [takeFeedback_eq]
  simp

theorem takeFeedback_fb (f : FeedbackFields) (s : State) :
    (takeFeedback f s).fb = s.frameRecord f := by
  have : (gateFeedback f s).fb = s.frameRecord f := by
    rw [gateFeedback_eq]; split <;> simp [State.gated]
  rw [takeFeedback_eq]
  simpa [State.boarded] using this

theorem takeFeedback_still (f : FeedbackFields) (s : State) :
    (takeFeedback f s).still = s.still.updated s.ride s.ms f.speed.toInt := by
  have : (gateFeedback f s).still = s.still.updated s.ride s.ms f.speed.toInt := by
    rw [gateFeedback_eq]; split <;> simp [State.gated]
  rw [takeFeedback_eq]
  simpa [State.boarded] using this

theorem takeFeedback_driveCause (f : FeedbackFields) (s : State) :
    (takeFeedback f s).causes.drive = (f.status != 0) := by
  rw [takeFeedback_causes, ← status_toNat_bne]
  simp only [State.tests, State.driveTest, takeFeedback_fb]
  rfl

theorem boarded_keeps (f : FeedbackFields) (s : State) :
    TurnKeeps (trackFeedback (s.fb.state == .silent) f (gateFeedback f s)) (s.boarded f) :=
  (TurnKeeps.refl _).after_boardFeedback _

/-- The DRIVE entry at the end of the frame is the gate's, with the flag of the status. -/
theorem takeFeedback_entry_drive (f : FeedbackFields) (s : State) :
    (takeFeedback f s).entry .drive =
      ((gateFeedback f s).entry .drive).map fun h => { h with present := f.status != 0 } := by
  have hmap := entry_of_holds_map (s := s.boarded f) (src := .drive)
    (f := fun h => { h with present := presentFlag h.source (takeFeedback f s).causes })
    (fun _ => rfl) (takeFeedback_holds f s)
  rw [hmap, (boarded_keeps f s).drive, trackFeedback_entry_drive]
  cases h : (gateFeedback f s).entry .drive with
  | none => rfl
  | some e => simp [(entry_source h).1, presentFlag, takeFeedback_driveCause]

/-- The standstill run over a frame (R16). -/
theorem updated_spec (st : Standstill) (r : RideTable) (ms : Word32) (v : Int) :
    (r.stillBand < v.natAbs → st.updated r ms v = ⟨none, false⟩) ∧
    (v.natAbs ≤ r.stillBand → (st.runStart = none → st.updated r ms v = ⟨some ms, st.flag⟩) ∧
      ∀ x, st.runStart = some x →
        st.updated r ms v = ⟨some x, st.flag || decide (r.stillTime ≤ (ms - x).toNat)⟩) := by
  unfold Standstill.updated
  refine ⟨fun h => if_pos h, fun h => ?_⟩
  rw [if_neg (by omega)]
  refine ⟨fun hn => by rw [hn], fun x hx => ?_⟩
  obtain ⟨start, flag⟩ := st
  cases hx
  simp only
  split
  · next h => rw [decide_eq_true h, Bool.or_true]
  · next h => rw [decide_eq_false h, Bool.or_false]

theorem boarded_tracker_marks (f : FeedbackFields) (s : State) :
    (s.boarded f).tracker.lastRim = some f.rim ∧
      (s.boarded f).tracker.direction = directionOf (s.tracker.countDiff f.rim) := by
  have hk := boarded_keeps f s
  refine ⟨?_, ?_⟩
  · rw [hk.lastRim]; simp
  · rw [hk.direction]; simp [afterFrame_direction]

/-! ### The tracker's turn under the laws of the hold list (R45) -/

/-- A POSITION entry written in the list of `g`, with the time that the entry had in `s`. -/
def State.putPositionIn (s g : State) (cls : HoldClass) (cause : Nat) : State :=
  if s.entry .position = none then g.withEntry (s.positionEntry cls cause)
  else putEntry (s.positionEntry cls cause) g

/-- The record `x` seen by the tracker after the gate's turn, and a change of its state reported. -/
theorem trackFeedback_of_holdInv (hi : HoldInv s) (f : FeedbackFields) :
    let x := s.tracker.afterFrame s.ride (s.fb.state == .silent) f
    let seen := (gateFeedback f s).seen x
    trackFeedback (s.fb.state == .silent) f (gateFeedback f s) =
      if x.1.state = s.tracker.state then seen else match x.1.state with
        | .locked => { seen with holds := seen.holds.filter fun h => h.source != .position }
        | .coasting => s.putPositionIn seen .creep 2
        | .searching => (s.putPositionIn seen .creep 1).converted
        | .lost => ((s.putPositionIn seen .stop 3).stopped (s.positionEntry .stop 3)).converted := by
  intro x seen
  have hentry : seen.entry .position =
      (s.entry .position).map fun e => { e with present := presentFlag .position (s.frameCauses f) } :=
    gateFeedback_entry_other (by decide) f
  have hpos (cls : HoldClass) (cause : Nat) :
      seen.positionEntry cls cause = s.positionEntry cls cause := by
    have hms : seen.ms = s.ms := by simp [seen, State.seen]
    simp only [State.positionEntry, hentry, hms, Option.map_map]
    rfl
  have hput (cls : HoldClass) (cause : Nat) :
      seen.putPosition cls cause = s.putPositionIn seen cls cause := by
    simp only [State.putPosition, State.putPositionIn, hpos, hentry, Option.map_eq_none_iff]
  rw [trackFeedback_eq]
  simp only [gateFeedback_frame]
  split
  · rfl
  · next hne =>
    have hl : s.tracker.state ≠ .lost := fun h => hne ((afterFrame_lost h ..).trans h.symm)
    refine (reportTracker_eq fun e he => ?_).trans ?_
    · have he : seen.entry .position = some e := he
      obtain ⟨e', he', rfl⟩ := Option.map_eq_some_iff.mp (hentry.symm.trans he)
      exact ⟨rfl, (hi.position_automatic hl he').2⟩
    · simp only [← hput, ← hpos]
      rfl

end Sys2Proof.Machine


/-! ## A FEEDBACK taken, whole -/

namespace Sys2Proof.Machine

set_option Elab.async false

variable {s : State}

/-- The frame's count difference, 0 when it could not be formed (R28, R144). -/
theorem frameDiff_eq (s : State) (f : FeedbackFields) : s.frameDiff f =
    match s.tracker.lastRim with
    | none => 0
    | some c => (f.rim - c).toInt := by
  unfold State.frameDiff Tracker.countDiff
  cases s.tracker.lastRim <;> rfl

theorem directionOf_countDiff (t : Tracker) (rim : Word32) : directionOf (t.countDiff rim) =
    match t.lastRim with
    | none => .still
    | some x => if 0 < (rim - x).toInt then .forward else if (rim - x).toInt < 0 then .reverse
        else .still := by
  unfold Tracker.countDiff
  cases t.lastRim <;> rfl

/-- From the gate's turn to the end of the frame no block arms, starts a run or reports a full queue. -/
theorem gate_quiet (f : FeedbackFields) (s : State) :
    Quiet (gateFeedback f s) (retest
      (profileFeedback (s.frameDiff f) f.speed.toInt (s.handed f) (s.boarded f))) :=
  ((((Quiet.refl _).after_trackFeedback ..).after_boardFeedback _).after_profileFeedback ..).after_retest

/-- A FAULT status without a DRIVE entry leaves the part disarmed and without a run. -/
theorem takeFeedback_stops {f : FeedbackFields} (hf : f.status ≠ 0) (hn : s.entry .drive = none) :
    (takeFeedback f s).req.armed = false ∧ (takeFeedback f s).run.running = false := by
  obtain ⟨ha, hr⟩ := gateFeedback_stops hf hn
  rw [takeFeedback_eq]
  simp only [forwardFeedback_frame]
  exact ⟨(gate_quiet f s).disarmed ha, (gate_quiet f s).idle hr⟩

theorem boarded_queueFull (f : FeedbackFields) (s : State) :
    (s.boarded f).latched.queueFull = s.latched.queueFull :=
  ((((Quiet.refl s).after_gateFeedback f).after_trackFeedback ..).after_boardFeedback _).queueFull

/-- The copy of the frame can add QUEUE_FULL alone to the events latched by the turns. -/
theorem takeFeedback_latched (f : FeedbackFields) (s : State) :
    { (takeFeedback f s).latched with queueFull := s.latched.queueFull } = (s.boarded f).latched := by
  rw [takeFeedback_eq, ← boarded_queueFull f s]
  have hl : (retest (profileFeedback (s.frameDiff f) f.speed.toInt (s.handed f) (s.boarded f))).latched =
      (s.boarded f).latched := by simp
  rw [← hl]
  exact forwardFeedback_latched ..

/-- The crossings of a frame and the boarding controller's turn, for the state `u` that the tracker's turn
leaves (R52, R53). -/
theorem boarded_spec {u : State} {before : Tracker} (hn : 0 < u.ride.n) (hp : 0 < u.ride.pitch) :
    ∃ (crossings : List (Nat × Point)) (taken : Nat),
      crossingsTaken (u.frameCrossings before) u = crossings.take taken ∧
      (∀ k p, (k, p) ∈ crossings ↔ k < u.ride.n ∧ ∃ mv b a off,
        MovesBy u.ride before u.tracker mv ∧ 0 < mv ∧ mv < u.ride.pitch ∧
        FiguresAt u.ride before u.tracker k b a ∧ (p, off) ∈ u.points ∧
        1 ≤ (off - b) % u.ride.rim ∧ (off - b) % u.ride.rim ≤ mv) ∧
      crossings.Pairwise (CrossesBefore u before) ∧
      taken ≤ crossings.length ∧ (∀ j, j + 1 < taken → KeepsTracker crossings u j) ∧
      (taken < crossings.length → ∃ j, taken = j + 1 ∧ ¬KeepsTracker crossings u j) ∧
      ((∃ mv, MovesBy u.ride before u.tracker mv ∧ (u.ride.pitch : Int) ≤ mv) →
        boardFeedback before u = u.converted) ∧
      ((∀ mv, MovesBy u.ride before u.tracker mv → mv < (u.ride.pitch : Int)) →
        boardFeedback before u = stageOf crossings u taken) := by
  obtain ⟨n, hle, htaken, hstage, hkeep, hstop⟩ := crossingsTaken_spec (u.frameCrossings before) u
  obtain ⟨hconv, hmove⟩ := boardFeedback_spec (before := before) hn hp
  exact ⟨_, n, htaken, fun _ _ => mem_frameCrossings hn hp, pairwise_frameCrossings hn hp, hle, hkeep,
    hstop, hconv, fun h => (hmove h).trans hstage⟩

/-- Settles O20: the marks that every frame leaves, by the lemmas about each turn, and then the turns
themselves, in their order. -/
theorem feedbackTaken : Obligations.FeedbackTaken := by
  intro s f
  obtain ⟨hstill, hgoing⟩ := updated_spec s.still s.ride s.ms f.speed.toInt
  obtain ⟨hrim, hdir⟩ := boarded_tracker_marks f s
  have htracker : (takeFeedback f s).tracker = (s.boarded f).tracker := by
    rw [takeFeedback_eq]; simp
  refine ⟨takeFeedback f s, rfl, takeFeedback_fb f s, ?_, ?_, takeFeedback_driveCause f s,
    fun hf => ⟨?_, takeFeedback_stops hf⟩, fun hf => ?_, ?_, ?_, by simp, by simp, by simp, by simp,
    by simp, by simp, by simp, by simp, by simp, by simp, by simp, by simp, by simp, by simp, by simp,
    by simp, by simp, by simp, by simp, by simp, by simp, by simp, by simp, ?_⟩
  · rw [takeFeedback_still]; exact hstill
  · rw [takeFeedback_still]; exact hgoing
  · rw [takeFeedback_entry_drive, gateFeedback_entry_fault hf]
    simp only [Option.map_some, State.faultEntry, bne_iff_ne.mpr hf]
  · rw [takeFeedback_entry_drive, gateFeedback_entry_ok hf, Option.map_map]
    simp [hf, Function.comp_def]
  · rw [htracker, hrim]
  · rw [htracker]; exact hdir.trans (directionOf_countDiff ..)
  · intro hi hn hp barred added replaced time causes gate fault g x seen position put u
    have hgate : gate = s.gated f := by
      simp only [gate, takeFeedback_fb, takeFeedback_still]; rfl
    have hg : g = gateFeedback f s := by
      rw [gateFeedback_of_holdInv hi]
      simp only [g, hgate]
      rfl
    have hu : u = trackFeedback (s.fb.state == .silent) f (gateFeedback f s) := by
      rw [trackFeedback_of_holdInv hi, ← hg]
      rfl
    have hboard : boardFeedback s.tracker u = s.boarded f := by rw [hu]; rfl
    have hhanded : crossingsTaken (u.frameCrossings s.tracker) u = s.handed f := by rw [hu]; rfl
    have hride : u.ride = s.ride := by rw [hu]; simp
    have hzone : u.zone = s.zone := by rw [hu]; simp
    have hutracker : u.tracker = x.1 := by rw [hu]; simp [x]
    have hpoints : u.points = s.points := by simp only [State.points, hride, hzone]
    obtain ⟨crossings, taken, htake, hmem, hpair, hle, hkeep, hstop, hconv, hstage⟩ :=
      boarded_spec (u := u) (before := s.tracker) (by rwa [hride]) (by rwa [hride])
    simp only [hride, hutracker, hpoints] at hmem hconv hstage
    rw [hhanded] at htake
    rw [hboard] at hconv hstage
    refine ⟨crossings, taken, s.boarded f, hmem, ?_, ⟨hle, hkeep, hstop, hconv, hstage⟩, ?_, ?_⟩
    · refine hpair.imp fun {y z} h => ?_
      simp only [CrossesBefore, hride, hutracker] at h
      exact h
    · intro diff w
      have hw : w = profileFeedback (s.frameDiff f) f.speed.toInt (s.handed f) (s.boarded f) := by
        have hdiff : s.frameDiff f = diff := frameDiff_eq s f
        rw [hdiff, htake]
      have hrun : (takeFeedback f s).run = w.run := by rw [takeFeedback_eq, hw]; simp
      refine ⟨fun hr => ?_, hrun, by rw [takeFeedback_eq, hw]; simp, by rw [takeFeedback_eq, hw]; simp⟩
      rw [hrun]
      exact profileFeedback_idle hr ..
    · exact ⟨htracker, by rw [takeFeedback_eq]; simp, by rw [takeFeedback_eq]; simp,
        takeFeedback_causes f s, takeFeedback_holds f s, takeFeedback_latched f s⟩

end Sys2Proof.Machine


/-! ## What an event can do: single changes, and the work of an event as a chain of them

Every event is a chain of a few kinds of change, each made under conditions that the rules state where they
make it.  `Act` lists them, and `Work` is the chain.  A law of Safety is then kept by every step once it is
kept by each of the changes. -/

namespace Sys2Proof.Machine

set_option Elab.async false

/-! ### The laws as they stand inside an event -/

/-- The law of the tracker record of a ride with `n` cabins (R27, R28). -/
def Tracker.Law (t : Tracker) (n : Nat) : Prop :=
  (t.state = .locked ∨ t.state = .coasting →
    t.phaseKnown = true ∧ t.lastRim.isSome = true ∧ (t.index.any fun i => decide (i < n)) = true) ∧
  (t.state = .searching ∨ t.state = .lost → t.index = none) ∧
  (t.state = .lost → t.phaseKnown = false) ∧
  (t.candidate.isSome = true → t.state = .searching) ∧
  (t.mismatch.isSome = true → t.state = .locked) ∧
  (t.missStreak ≠ 0 → t.state = .coasting) ∧
  (t.travelHanded = true → t.travelKnown = true)

theorem trackerInv_iff {s : State} : TrackerInv s ↔ s.tracker.Law s.ride.n := Iff.rfl

/-- The law of the poller and the field line's receive buffer, without the element counts (R79, R83). -/
def PollLaw (s : State) : Prop :=
  (s.poller.phase = .idle ↔ s.poller.inFlight = none) ∧
  (s.poller.pendingMark = true → s.poller.phase ≠ .idle) ∧
  (∀ i ∈ s.poller.inFlight, i < s.walked.length ∧ (s.pollEntry i).kind ≠ .unset) ∧
  (s.poller.phase = .settling → s.rx.field ≠ .lost) ∧
  (s.poller.phase = .replyWait → s.rx.field = .empty)

/-- A table write is being stored: SETUP, with the tables marked UNCHECKED (R157, R158). -/
def State.Editable (s : State) : Prop := s.modeRec.mode = .setup ∧ s.modeRec.checked = false

/-- A cabin table that keeps the element count, the law of each record, and the platform free of cabins
that do not come in under R60. -/
structure CabinsKept (s : State) (cs : List Cabin) : Prop where
  length : s.cabins.length = 64 → cs.length = 64
  good : (∀ c ∈ s.cabins, c.good = true) → ∀ c ∈ cs, c.good = true
  occupied : (cs.any fun c => c.state.onPlatform) = true →
    s.occupied = true ∨ s.modeRec.mode = .service ∧ s.tracker.state = .locked

/-- A mast table that keeps the element count and the law of each record. -/
structure MastsKept (s : State) (ms : List Mast) : Prop where
  length : s.masts.length = 4 → ms.length = 4
  good : s.windTable.inRange = true → (∀ m ∈ s.masts, m.good s.windTable.gustLength = true) →
    ∀ m ∈ ms, m.good s.windTable.gustLength = true

/-- A cause report that makes an entry in one of the forms of R116. -/
def Reportable (src : HoldSource) (cause : Nat) (cls : HoldClass) (subject : Option Nat) : Prop :=
  ∀ (c : CauseStates) (time : Word32), (HoldEntry.mk src cls cause subject time
    (latchedForm src cause) (presentFlag src c)).formed c = true

/-- The places of the console queue taken or kept (R172, R174). -/
def State.charge (s : State) : Nat := s.consoleQueue.length + if s.waitTag.isSome then 1 else 0

/-! ### Writes of the tracker with their reports (R45, R46) -/

/-- The cabins of the platform converted, before the profile unit is told (R54). -/
def State.offPlatform (s : State) : State :=
  { s with cabins := s.cabins.map (Cabin.converted s.ms) }

theorem convert_eq_offPlatform (s : State) :
    convert s = if s.occupied then cabinChanged s.offPlatform else s.offPlatform := rfl

/-- A new tracker record with the reports of a change of its state, before the profile unit is told of a
conversion (R45, R46). -/
def State.retracked (s : State) (x : Tracker) : State :=
  if x.state = s.tracker.state then { s with tracker := x }
  else match x.state with
    | .searching => (causeReport .position 1 .creep none { s with tracker := x }).offPlatform
    | .coasting => causeReport .position 2 .creep none { s with tracker := x }
    | .locked => absenceReport .position { s with tracker := x }
    | .lost => (causeReport .position 3 .stop none { s with tracker := x }).offPlatform

theorem setTracker_cases (x : Tracker) (s : State) :
    setTracker x s = s.retracked x ∨ setTracker x s = cabinChanged (s.retracked x) := by
  have conv (u : State) : convert u = u.offPlatform ∨ convert u = cabinChanged u.offPlatform := by
    rw [convert_eq_offPlatform]
    split
    · exact .inr rfl
    · exact .inl rfl
  unfold setTracker State.retracked
  split
  · exact .inl rfl
  · have hx : ({ s with tracker := x } : State).tracker.state = x.state := rfl
    unfold reportTracker
    rw [hx]
    cases x.state with
    | searching => exact conv _
    | coasting => exact .inl rfl
    | locked => exact .inl rfl
    | lost => exact conv _

/-- A released LOST POSITION entry, before the profile unit is told of the conversion (R130). -/
def State.positionReleased (s : State) (e : HoldEntry) : State :=
  State.offPlatform { putEntry (creepForm e) s with tracker := s.tracker.searchAnew }

/-! ### The changes -/

/-- One change of the state by a block inside an event, as the rules condition it where they make it.  None
of them takes a place of the console queue, and none touches the poller. -/
inductive Act (s : State) : State → Prop
  /-- fields that no law of Safety speaks of -/
  | note (ms : Word32) (timers : Timers) (freeCount : Nat) (pending : List Instr)
      (latched : LatchedSet) (expiries : AgeExpiries) (params : PollParams) :
      Act s { s with
        ms := ms, timers := timers, freeCount := freeCount, pending := pending, latched := latched
        expiries := expiries, pollParams := params }
  | req (r : RequestedSpeed) (source : r.source = s.req.source) : Act s { s with req := r }
  /-- fields of the run record other than its state and its timers -/
  | run (r : RunRecord) (running : r.running = s.run.running)
      (duration : r.durationTimer = s.run.durationTimer) (dwell : r.dwellTimer = s.run.dwellTimer) :
      Act s { s with run := r }
  | startStep (running : s.run.running = true) : Act s (startStep s)
  | endRun (e : EndStatus) : Act s (endRun e s)
  /-- an accepted PROFILE RUN without a wait, and the beginning of its first step (R140, R141) -/
  | beginRun (tag : Byte) (n repeats wait : Nat) (accepted : s.runRefusal n wait = none)
      (noWait : wait ≠ 1) : Act s (Machine.startStep (acceptRun tag n repeats wait s))
  | retest : Act s (retest s)
  | report (src : HoldSource) (cause : Nat) (cls : HoldClass) (subject : Option Nat)
      (other : src ≠ .wind ∧ src ≠ .position) (formed : Reportable src cause cls subject) :
      Act s (causeReport src cause cls subject s)
  | remove (src : HoldSource) (other : src ≠ .wind ∧ src ≠ .position) : Act s (removeEntry src s)
  | cabins (cs : List Cabin) (kept : CabinsKept s cs) : Act s { s with cabins := cs }
  | station (p : Station) (r : StationRecord) : Act s (writeStation p r s)
  | feedback (fb : FeedbackRecord) (still : Standstill) : Act s { s with fb := fb, still := still }
  /-- a new tracker record, as a RIDE write may make with its table (R44) -/
  | retrack (r : RideTable) (x : Tracker) (ride : r = s.ride ∨ s.Editable ∧ r.inRange = true)
      (lost : s.tracker.state = .lost → x.state = .lost)
      (law : s.tracker.Law s.ride.n → x.Law r.n) : Act s (State.retracked { s with ride := r } x)
  | releasePosition (e : HoldEntry) (stands : s.entry .position = some e) (latched : e.latched = true) :
      Act s (s.positionReleased e)
  | windLevel : Act s (reportWind { s with wind := s.windAfter })
  | mastsCause : Act s (reportMasts s)
  | traceEnd (old : WindLevel) : Act s (appendTrace old s)
  | traceTaken (k : Nat) : Act s { s with trace := (s.trace.dropMany k).repaired }
  | masts (ms : List Mast) (kept : MastsKept s ms)
      (addresses : ms.map (fun m => m.address) = s.masts.map (fun m => m.address) ∨ s.Editable) :
      Act s { s with masts := ms }
  | results (rs : List ResultRecord) (length : s.results.length = 16 → rs.length = 16) :
      Act s { s with results := rs }
  | order : Act s (driveOrder s)
  | requests (rs : List Request) (length : rs.length ≤ max 2 s.requests.length) :
      Act s { s with requests := rs }
  | auxPlaced (f : Frame) (place : s.driveQueue.aux.length < 3) : Act s { s with
      driveQueue := DriveQueue.started { s.driveQueue with aux := s.driveQueue.aux ++ [f] } }
  | driveSent : Act s { s with driveQueue := s.driveQueue.sent }
  | snapTaken (unread : s.snaps.unread ≠ 0) :
      Act s { s with snaps := { s.snaps with r := s.snaps.r + 1 } }
  | uncheck (setup : s.modeRec.mode = .setup) : Act s (markUnchecked s)
  | commit (passes : s.commitFailure = none) (pending : s.modeRec.restartPending = false) :
      Act s (commit s)
  | toSetup (may : s.mayReturnToSetup = true) : Act s (returnToSetup s)
  | restartMark (setup : s.modeRec.mode = .setup) :
      Act s { s with modeRec := { s.modeRec with restartPending := true } }
  | zone (z : ZoneTable) (editable : s.Editable) (range : z.inRange = true) : Act s { s with zone := z }
  | passList (l : List PassElement) (length : s.passList.length = 8 → l.length = 8) :
      Act s { s with passList := l }
  | profiles (ps : List (List Step)) (editable : s.Editable)
      (shape : s.profiles.length = 8 → (∀ p ∈ s.profiles, p.length = 16) →
        ps.length = 8 ∧ ∀ p ∈ ps, p.length = 16) : Act s { s with profiles := ps }
  | windTable (w : WindTable) (editable : s.Editable) (range : w.inRange = true) :
      Act s (storeWind w s)

/-- One change of the state that is the line unit's, the management responder's or the field poller's. -/
inductive OuterAct (s : State) : State → Prop
  /-- frames placed in the console queue or sent from it (R172, R174) -/
  | console (q : List Frame) (places : q.length + (if s.waitTag.isSome then 1 else 0) ≤ max 16 s.charge) :
      OuterAct s { s with consoleQueue := q }
  /-- an accepted PROFILE RUN that keeps a place for its final reply (R141) -/
  | beginWaiting (tag : Byte) (n repeats : Nat) (accepted : s.runRefusal n 1 = none)
      (place : s.charge < 16) : OuterAct s (startStep (acceptRun tag n repeats 1 s))
  /-- the poller or the field line's receive buffer -/
  | poll (p : Poller) (b : ReceiveBuffer) :
      OuterAct s { s with poller := p, rx := { s.rx with field := b } }
  /-- a stored poll list (R90) -/
  | entries (es : List PollEntry) (editable : s.Editable)
      (length : s.pollEntries.length = 16 → es.length = 16) : OuterAct s { s with pollEntries := es }

/-- The work of an event from its beginning at `s`: a chain of changes.  With `line` the changes that take
places of the console queue are among them; `due` says that the cause-present tests may be out of step with
the kept states until they are re-taken (R74), and `mid` that the poller is between two of its phases. -/
inductive Work (line : Bool) (s : State) : Bool → Bool → State → Prop
  | refl : Work line s false false s
  | act {due mid : Bool} {t u : State} (h : Work line s due mid t) (a : Act t u)
      (tests : due = true ∨ u.tests = t.tests) : Work line s due mid u
  | outer {due mid : Bool} {t u : State} (h : Work line s due mid t) (a : OuterAct t u)
      (tests : u.tests = t.tests)
      (poll : mid = true ∨ u.poller = t.poller ∧ u.rx = t.rx ∧ u.pollEntries = t.pollEntries)
      (places : line = true ∨ u.charge = t.charge) : Work line s due mid u
  | testsDue {due mid : Bool} {t : State} (h : Work line s due mid t) : Work line s true mid t
  | retest {due mid : Bool} {t : State} (h : Work line s due mid t) : Work line s false mid (retest t)
  | midway {due mid : Bool} {t : State} (h : Work line s due mid t) : Work line s due true t
  | arrived {due mid : Bool} {t : State} (h : Work line s due mid t) (law : PollLaw s → PollLaw t) :
      Work line s due false t

end Sys2Proof.Machine


/-! ## The rim tracker's record keeps its law (R27, R28) -/

namespace Sys2Proof.Machine

set_option Elab.async false

namespace Tracker

theorem roundRim_lt (k : Int) {n : Nat} (hn : 0 < n) : roundRim k n < n := by
  unfold roundRim
  have h1 := Int.emod_nonneg k (Int.natCast_ne_zero.mpr hn.ne')
  have h2 := Int.emod_lt_of_pos k (Int.natCast_pos.mpr hn)
  omega

/-- An index counted on or back round the rim (R32, R33, R35, R36). -/
theorem any_roundRim_lt {o : Option Nat} {n : Nat} (by1 : Int)
    (h : (o.any fun i => decide (i < n)) = true) :
    (Option.map (fun i : Int => roundRim (i + by1) n) (do let a ← o; pure (a : Int))).any
      (fun i => decide (i < n)) = true := by
  cases o with
  | none => simp at h
  | some i =>
    have : i < n := by simpa using h
    simpa using roundRim_lt _ (by omega)

variable {t : Tracker} {n : Nat}

/-- What the law says of a tracker that has an index, and of one that has none. -/
theorem Law.tracking (h : t.Law n) (hs : t.state = .locked ∨ t.state = .coasting) :
    t.phaseKnown = true ∧ t.lastRim.isSome = true ∧ (t.index.any fun i => decide (i < n)) = true ∧
      t.candidate = none := by
  obtain ⟨htr, -, -, hc, -⟩ := h
  obtain ⟨h1, h2, h3⟩ := htr hs
  refine ⟨h1, h2, h3, ?_⟩
  cases hcand : t.candidate with
  | none => rfl
  | some j =>
    have := hc (by rw [hcand]; rfl)
    rcases hs with hs | hs <;> simp [hs] at this

/-- A record without index, candidate, memory and streak keeps the law in SEARCHING, and in LOST
without the phase too. -/
theorem law_of_cleared (hi : t.index = none) (hc : t.candidate = none) (hm : t.mismatch = none)
    (hk : t.missStreak = 0) (hh : t.travelHanded = false)
    (hs : t.state = .searching ∨ t.state = .lost ∧ t.phaseKnown = false) : t.Law n := by
  refine ⟨?_, fun _ => hi, ?_, by simp [hc], by simp [hm], by simp [hk], by simp [hh]⟩
  · rcases hs with hs | ⟨hs, -⟩ <;> simp [hs]
  · rcases hs with hs | ⟨hs, hp⟩
    · simp [hs]
    · exact fun _ => hp

theorem searchAnew_law : t.searchAnew.Law n := law_of_cleared rfl rfl rfl rfl rfl (.inl rfl)

theorem becomeLost_law : t.becomeLost.Law n := law_of_cleared rfl rfl rfl rfl rfl (.inr ⟨rfl, rfl⟩)

theorem dropIndex_law : t.dropIndex.Law n := law_of_cleared rfl rfl rfl rfl rfl (.inl rfl)

theorem resumed_law (h : t.Law n) (r : RideTable) (d : Option Int) : (t.resumed r d).Law n := by
  unfold resumed
  split
  · exact h
  · split
    · exact searchAnew_law
    · exact h

/-- The law of a record in the middle of a frame: with the clause on the figures handed left out. -/
def MidLaw (t : Tracker) (n : Nat) : Prop := ({ t with travelHanded := false } : Tracker).Law n

theorem Law.mid (h : t.Law n) : t.MidLaw n := by
  obtain ⟨h1, h2, h3, h4, h5, h6, -⟩ := h
  exact ⟨h1, h2, h3, h4, h5, h6, by simp⟩

theorem crossing_mid (h : t.MidLaw n) (by1 : Int) (m : Word32) : (t.crossing n by1 m).MidLaw n := by
  obtain ⟨h1, h2, h3, h4, h5, h6, -⟩ := h
  unfold crossing
  cases hs : t.state <;> simp only [MidLaw, Law, hs] at h1 h2 h3 h4 h5 h6 ⊢
  case lost => simp_all
  case searching => simp_all
  case locked =>
    obtain ⟨hp, hr, hi⟩ := h1 (.inl trivial)
    exact ⟨fun _ => ⟨hp, hr, any_roundRim_lt by1 hi⟩, by simp, by simp, h4, by simp,
      by simp, by simp⟩
  case coasting =>
    obtain ⟨hp, hr, hi⟩ := h1 (.inr trivial)
    have hc : t.candidate.isSome ≠ true := fun hc => by simpa using h4 hc
    exact ⟨fun _ => ⟨hp, hr, any_roundRim_lt by1 hi⟩, by simp, by simp,
      fun h => absurd h hc, by simp, by simp, by simp⟩

theorem takeLatch_mid {r : RideTable} (h : t.MidLaw r.n) (c : Word32) :
    (t.takeLatch r c).1.MidLaw r.n := by
  unfold takeLatch
  split
  · split
    · exact crossing_mid h _ _
    · split
      · split
        · exact crossing_mid h _ _
        · exact h
      · exact h
  · split
    · next hs =>
      obtain ⟨-, h2, -, h4, h5, h6, -⟩ := h
      exact ⟨by simp [hs], h2, by simp [hs], h4, h5, h6, by simp⟩
    · exact h

theorem synthetic_mid {r : RideTable} (h : t.MidLaw r.n)
    (hs : t.state = .locked ∨ t.state = .coasting) (by1 : Int) (m : Word32) :
    (t.synthetic r by1 m).MidLaw r.n := by
  unfold synthetic
  split
  · exact becomeLost_law.mid
  · obtain ⟨hp, hr, hi, hc⟩ := Law.tracking h hs
    have hc' : t.candidate = none := hc
    refine ⟨fun _ => ⟨hp, hr, any_roundRim_lt by1 hi⟩, by simp, by simp, ?_,
      by simp, by simp, by simp⟩
    simp [hc']

theorem missedMarkers_mid {r : RideTable} (rim : Word32) (fuel : Nat) (h : t.MidLaw r.n) :
    (missedMarkers r rim fuel t).1.MidLaw r.n := by
  induction fuel generalizing t with
  | zero => exact h
  | succ fuel ih =>
    unfold missedMarkers
    split
    · next hs =>
      split
      · exact ih (synthetic_mid h hs _ _)
      · split
        · exact ih (synthetic_mid h hs _ _)
        · exact h
    · exact h

theorem missTests_mid {r : RideTable} (h : t.MidLaw r.n) (rim : Word32) :
    (t.missTests r rim).1.MidLaw r.n := by
  unfold missTests
  split
  · unfold drift
    split
    · next hs _ =>
      obtain ⟨-, h2, -, -, h5, h6, -⟩ := h
      exact ⟨by simp [hs], h2, by simp [hs], by simp, h5, h6, by simp⟩
    · exact h
  · exact missedMarkers_mid _ _ h

theorem upToLatch_mid {r : RideTable} (h : t.Law r.n) (b : Bool) (f : FeedbackFields) :
    (t.upToLatch r b f).1.MidLaw r.n := by
  have h' (d : Direction) : ({ t with direction := d } : Tracker).Law r.n := h
  have h2 (d : Direction) (x : Option Int) : (if b = true then
      ({ t with direction := d } : Tracker).resumed r x else { t with direction := d }).Law r.n := by
    split
    · exact resumed_law (h' d) r x
    · exact h' d
  unfold upToLatch
  simp only
  split
  · exact takeLatch_mid (h2 _ _).mid _
  · exact (h2 _ _).mid

/-- The record after a frame keeps the law (R29). -/
theorem afterFrame_law {r : RideTable} (h : t.Law r.n) (b : Bool) (f : FeedbackFields) :
    (t.afterFrame r b f).1.Law r.n := by
  have hm := missTests_mid (upToLatch_mid h b f) f.rim
  obtain ⟨h1, h2, h3, h4, h5, h6, -⟩ := hm
  exact ⟨fun hs => ⟨(h1 hs).1, rfl, (h1 hs).2.2⟩, h2, h3, h4, h5, h6, id⟩

/-- A read joined to the candidate's, or the index assigned by it, for a SEARCHING tracker that knows the
phase and a rim count (R39, R40). -/
theorem propose_law (h : t.Law n) (hs : t.state = .searching) (hp : t.phaseKnown = true)
    (hr : t.lastRim.isSome = true) (required : Nat) {i : Nat} (hi : i < n) :
    (t.propose required i).Law n := by
  obtain ⟨-, h2, -, -, h5, h6, h7⟩ := h
  have hk : t.travelKnown = false := by simp [travelKnown, h2 (.inl hs)]
  have hh : t.travelHanded ≠ true := fun hh => by simpa [hk] using h7 hh
  unfold propose
  generalize (if t.candidate = some i then t.candidateReads + 1 else 1) = reads
  simp only
  split
  · exact ⟨fun _ => ⟨hp, hr, by simpa [assigned] using hi⟩, by simp [assigned], by simp [assigned],
      by simp [assigned], by simp [assigned], by simp [assigned], fun h => absurd h hh⟩
  · exact ⟨by simp [hs], h2, by simp [hs], fun _ => hs, h5, h6, fun h => absurd h hh⟩

theorem lockedOutcome_law (h : t.Law n) (hs : t.state = .locked) (o : IdOutcome) :
    (t.lockedOutcome o).Law n := by
  obtain ⟨h1, h2, h3, h4, h5, h6, h7⟩ := h
  unfold lockedOutcome
  split
  · split
    · exact dropIndex_law
    · exact ⟨h1, h2, h3, h4, fun _ => hs, h6, h7⟩
  · exact ⟨h1, h2, h3, h4, by simp, h6, h7⟩

theorem resynchronised_law (h : t.Law n) (shift : Nat) : (t.resynchronised n shift).Law n := by
  obtain ⟨h1, h2, h3, h4, h5, -, h7⟩ := h
  refine ⟨fun hs => ?_, fun hs => by simp [resynchronised, h2 hs], h3, h4, h5, by simp [resynchronised],
    fun hh => ?_⟩
  · obtain ⟨hp, hr, hi⟩ := h1 hs
    refine ⟨hp, hr, ?_⟩
    cases hidx : t.index with
    | none => simp [hidx] at hi
    | some i =>
      have : i < n := by simpa [hidx] using hi
      simpa [resynchronised, hidx] using Nat.mod_lt _ (by omega)
  · simpa [resynchronised, travelKnown] using h7 hh

end Tracker

end Sys2Proof.Machine


/-! ## What a change leaves as it was -/

namespace Sys2Proof.Machine

set_option Elab.async false

variable {s t u : State} {line due mid : Bool}

/-- A new tracker record with its reports. -/
@[simp] theorem retracked_frame (x : Tracker) (s : State) :
    (s.retracked x).ms = s.ms ∧ (s.retracked x).modeRec = s.modeRec ∧
    (s.retracked x).ride = s.ride ∧ (s.retracked x).zone = s.zone ∧
    (s.retracked x).windTable = s.windTable ∧ (s.retracked x).pollEntries = s.pollEntries ∧
    (s.retracked x).passList = s.passList ∧ (s.retracked x).profiles = s.profiles ∧
    (s.retracked x).out = s.out ∧ (s.retracked x).fb = s.fb ∧ (s.retracked x).still = s.still ∧
    (s.retracked x).alightStation = s.alightStation ∧
    (s.retracked x).boardStation = s.boardStation ∧ (s.retracked x).poller = s.poller ∧
    (s.retracked x).results = s.results ∧ (s.retracked x).masts = s.masts ∧
    (s.retracked x).wind = s.wind ∧ (s.retracked x).trace = s.trace ∧
    (s.retracked x).causes = s.causes ∧ (s.retracked x).rx = s.rx ∧
    (s.retracked x).driveQueue = s.driveQueue ∧ (s.retracked x).requests = s.requests ∧
    (s.retracked x).tracker = x := by
  unfold State.retracked
  split
  · simp
  · split <;> simp [State.offPlatform]

/-- A released LOST POSITION entry. -/
@[simp] theorem positionReleased_frame (e : HoldEntry) (s : State) :
    (s.positionReleased e).modeRec = s.modeRec ∧
    (s.positionReleased e).ride = s.ride ∧ (s.positionReleased e).zone = s.zone ∧
    (s.positionReleased e).windTable = s.windTable ∧
    (s.positionReleased e).pollEntries = s.pollEntries ∧
    (s.positionReleased e).passList = s.passList ∧ (s.positionReleased e).profiles = s.profiles ∧
    (s.positionReleased e).out = s.out ∧ (s.positionReleased e).req = s.req ∧
    (s.positionReleased e).poller = s.poller ∧ (s.positionReleased e).results = s.results ∧
    (s.positionReleased e).masts = s.masts ∧ (s.positionReleased e).wind = s.wind ∧
    (s.positionReleased e).trace = s.trace ∧ (s.positionReleased e).causes = s.causes ∧
    (s.positionReleased e).snaps = s.snaps ∧ (s.positionReleased e).run = s.run ∧
    (s.positionReleased e).rx = s.rx ∧ (s.positionReleased e).consoleQueue = s.consoleQueue ∧
    (s.positionReleased e).driveQueue = s.driveQueue ∧
    (s.positionReleased e).requests = s.requests ∧ (s.positionReleased e).waitTag = s.waitTag := by
  simp [State.positionReleased, State.offPlatform]

/-- The record of an accepted PROFILE RUN touches the run, the speed source and the marker (R141). -/
@[simp] theorem acceptRun_frame (tag : Byte) (n r w : Nat) (s : State) :
    (acceptRun tag n r w s).modeRec = s.modeRec ∧ (acceptRun tag n r w s).ride = s.ride ∧
    (acceptRun tag n r w s).zone = s.zone ∧ (acceptRun tag n r w s).windTable = s.windTable ∧
    (acceptRun tag n r w s).pollEntries = s.pollEntries ∧
    (acceptRun tag n r w s).passList = s.passList ∧
    (acceptRun tag n r w s).profiles = s.profiles ∧ (acceptRun tag n r w s).out = s.out ∧
    (acceptRun tag n r w s).fb = s.fb ∧ (acceptRun tag n r w s).tracker = s.tracker ∧
    (acceptRun tag n r w s).cabins = s.cabins ∧
    (acceptRun tag n r w s).alightStation = s.alightStation ∧
    (acceptRun tag n r w s).boardStation = s.boardStation ∧
    (acceptRun tag n r w s).poller = s.poller ∧ (acceptRun tag n r w s).results = s.results ∧
    (acceptRun tag n r w s).masts = s.masts ∧ (acceptRun tag n r w s).wind = s.wind ∧
    (acceptRun tag n r w s).trace = s.trace ∧ (acceptRun tag n r w s).holds = s.holds ∧
    (acceptRun tag n r w s).causes = s.causes ∧ (acceptRun tag n r w s).snaps = s.snaps ∧
    (acceptRun tag n r w s).rx = s.rx ∧ (acceptRun tag n r w s).consoleQueue = s.consoleQueue ∧
    (acceptRun tag n r w s).driveQueue = s.driveQueue ∧
    (acceptRun tag n r w s).requests = s.requests := by
  simp [acceptRun]

/-- No change of a block touches the poller or the field line's receive buffer. -/
theorem Act.poll_frame (a : Act s t) : t.poller = s.poller ∧ t.rx = s.rx ∧
    t.pollEntries = s.pollEntries := by
  cases a with
  | note | req | run | cabins | feedback | traceTaken | masts | results | order | requests | auxPlaced
  | driveSent | snapTaken | uncheck | commit | toSetup | restartMark | zone | passList
  | profiles | windTable => exact ⟨rfl, rfl, rfl⟩
  | _ => simp

theorem PollLaw.congr (h : PollLaw s)
    (he : t.poller = s.poller ∧ t.rx = s.rx ∧ t.pollEntries = s.pollEntries) : PollLaw t := by
  obtain ⟨hp, hr, he⟩ := he
  obtain ⟨h1, h2, h3, h4, h5⟩ := h
  simp only [PollLaw, State.walked, State.pollEntry, hp, hr, he]
  exact ⟨h1, h2, h3, h4, h5⟩

/-- So the law of the poller stands wherever the poller is not between two phases. -/
theorem Work.keeps_pollLaw (w : Work line s due mid t) (hm : mid = false) (h : PollLaw s) :
    PollLaw t := by
  induction w with
  | refl => exact h
  | act _ a _ ih => exact (ih hm).congr a.poll_frame
  | outer _ _ _ hp _ ih => exact (ih hm).congr (hp.resolve_left (by simp [hm]))
  | testsDue _ ih => exact ih hm
  | retest _ ih => exact ih hm
  | midway => cases hm
  | arrived _ law => exact law h

/-- A law that every change keeps is kept by the work of an event. -/
theorem Work.keeps {P : State → Prop} (act : ∀ {t u}, P t → Act t u → P u)
    (outer : ∀ {t u}, P t → OuterAct t u → P u) (w : Work line s due mid t) (h : P s) : P t := by
  induction w with
  | refl => exact h
  | act _ a _ ih => exact act ih a
  | outer _ a _ _ _ ih => exact outer ih a
  | testsDue _ ih => exact ih
  | retest _ ih => exact act ih .retest
  | midway _ ih => exact ih
  | arrived _ _ ih => exact ih

/-! ### Chains -/

namespace Work

/-- The work of a part of an event, done where the event has got to. -/
theorem trans (h : Work true s false false t) {l : Bool} (k : Work l t due mid u) :
    Work true s due mid u := by
  induction k with
  | refl => exact h
  | act _ a ht ih => exact ih.act a ht
  | outer _ a ht hp _ ih => exact ih.outer a ht hp (.inl rfl)
  | testsDue _ ih => exact ih.testsDue
  | retest _ ih => exact ih.retest
  | midway _ ih => exact ih.midway
  | arrived _ law ih => exact ih.arrived fun hs => law (h.keeps_pollLaw rfl hs)

/-- A change that leaves the records which the cause-present tests read. -/
theorem clean (h : Work line s due mid t) (a : Act t u) (hc : u.cabins = t.cabins := by simp)
    (ha : u.alightStation = t.alightStation := by simp)
    (hb : u.boardStation = t.boardStation := by simp) (hf : u.fb = t.fb := by simp) :
    Work line s due mid u :=
  h.act a (.inr (tests_congr hc ha hb hf))

/-- A change while the tests are still to be re-taken. -/
theorem dirty (h : Work line s true mid t) (a : Act t u) : Work line s true mid u := h.act a (.inl rfl)

theorem ite {c : Prop} [Decidable c] {t' : State} (h : Work line s due mid t)
    (h' : Work line s due mid t') : Work line s due mid (if c then t else t') := by
  split
  · exact h
  · exact h'

/-- A change of fields that no law speaks of. -/
theorem note (h : Work line s due mid t) (hu : u = { t with
    ms := u.ms, timers := u.timers, freeCount := u.freeCount, pending := u.pending
    latched := u.latched, expiries := u.expiries, pollParams := u.pollParams } := by rfl) :
    Work line s due mid u := by
  rw [hu]
  exact h.clean (.note ..)

end Work

end Sys2Proof.Machine


/-! ## Cabin records: the changes that keep their law (R47, R48, R62) -/

namespace Sys2Proof.Machine

set_option Elab.async false

namespace Cabin

/-- The law of a cabin record, clause by clause. -/
theorem good_iff (c : Cabin) : c.good = true ↔
    c.tag.length = 8 ∧ c.capacity ≤ 40 ∧ c.count ≤ c.capacity ∧
    (c.inService = true ↔ c.state ≠ .outOfService) ∧ (c.state = .empty → c.count = 0) ∧
    (c.state = .loaded → c.count ≠ 0) ∧ (c.state = .outOfService → c.count = 0) ∧
    (c.state.onPlatform = false → c.door = .notAtPlatform ∧ c.hasValid = false ∧ c.zoneCount = 0) ∧
    (c.hasValid = false → c.zoneCount = 0) ∧ (c.entryBarred = true → c.state = .boarding) := by
  simp only [good, Bool.and_eq_true, decide_eq_true_eq, beq_iff_eq, and_assoc]
  grind

theorem onPlatform_iff (x : CabinState) : x.onPlatform = true ↔ x = .alighting ∨ x = .boarding := by
  cases x <;> simp [CabinState.onPlatform]

variable {c : Cabin}

theorem converted_good (h : c.good = true) (ms : Word32) : (c.converted ms).good = true := by
  unfold converted
  split
  · next hp =>
    rw [good_iff] at h ⊢
    rw [onPlatform_iff] at hp
    obtain ⟨htag, hcap, hcount, hserv, -⟩ := h
    have hs : c.inService = true := hserv.mpr (by rcases hp with hp | hp <;> simp [hp])
    simp [htag, hcap, hcount, hs, CabinState.onPlatform]
  · exact h

theorem converted_offPlatform (c : Cabin) (ms : Word32) : (c.converted ms).state.onPlatform = false := by
  unfold converted
  split
  · rfl
  · simp_all

theorem barred_good (h : c.good = true) :
    (if c.state = .boarding then { c with entryBarred := true } else c).good = true := by
  split
  · next hb =>
    rw [good_iff] at h ⊢
    obtain ⟨h1, h2, h3, h4, h5, h6, h7, h8, h9, -⟩ := h
    exact ⟨h1, h2, h3, h4, h5, h6, h7, h8, h9, fun _ => hb⟩
  · exact h

/-- R60. -/
theorem alighting_good (h : c.good = true) (hs : c.inService = true) : ({ c with
    state := .alighting, door := .notReported, hasValid := false, zoneCount := 0
    entryBarred := false } : Cabin).good = true := by
  rw [good_iff] at h ⊢
  obtain ⟨htag, hcap, hcount, -⟩ := h
  simp [htag, hcap, hcount, hs, CabinState.onPlatform]

/-- A cabin of the platform is in service. -/
theorem inService_of_onPlatform (h : c.good = true) (hp : c.state.onPlatform = true) :
    c.inService = true := by
  obtain ⟨-, -, -, hin, -⟩ := (good_iff c).mp h
  rw [onPlatform_iff] at hp
  exact hin.mpr (by rcases hp with hp | hp <;> simp [hp])

/-- R61. -/
theorem leaveAlightZone_good (h : c.good = true) (ha : c.state = .alighting) (bar : Bool)
    (ms : Word32) : (c.leaveAlightZone bar ms).good = true := by
  have hs := inService_of_onPlatform h (by simp [ha, CabinState.onPlatform])
  unfold leaveAlightZone
  rw [good_iff] at h
  obtain ⟨htag, hcap, hcount, -, -, -, -, -, hzone, hbar⟩ := h
  split
  · rw [good_iff]
    simp [withCount, htag, hcap, hs, CabinState.onPlatform]
  · next hv =>
    have hv' : c.hasValid = false := by simpa using hv
    have hb : c.entryBarred ≠ true := fun hb => by simpa [ha] using hbar hb
    rw [good_iff]
    simp [htag, hcap, hcount, hs, hv', hzone hv', hb, CabinState.onPlatform]

/-- A record whose state follows its count (R64, R75). -/
theorem confirmed_good (h : c.good = true) (ho : c.state ≠ .outOfService) (n : Nat) (exit : Bool)
    (x : Word32) : ({ c with
      count := min n c.capacity, saturated := decide (c.capacity < n)
      state := confirmedState (min n c.capacity), unlockedExit := exit, door := .notAtPlatform
      hasValid := false, zoneCount := 0, entryBarred := false, exitTime := x } : Cabin).good = true := by
  rw [good_iff] at h ⊢
  obtain ⟨htag, hcap, -, hserv, -⟩ := h
  have hs := hserv.mpr ho
  unfold confirmedState
  by_cases h0 : min n c.capacity = 0
  · simp [htag, hcap, hs, h0, CabinState.onPlatform]
  · simp only [h0, if_false]
    simp [htag, hcap, hs, CabinState.onPlatform]
    omega

/-- R64. -/
theorem leaveBoardZone_good (h : c.good = true) (hb : c.state = .boarding) (ms : Word32) :
    (c.leaveBoardZone ms).good = true := by
  have ho : c.state ≠ .outOfService := by simp [hb]
  unfold leaveBoardZone
  by_cases hc : c.confirmed = true
  · simp only [hc, if_true]
    exact confirmed_good h ho ..
  · simp only [hc, if_false, Bool.false_eq_true]
    have hs := inService_of_onPlatform h (by simp [hb, CabinState.onPlatform])
    rw [good_iff] at h ⊢
    obtain ⟨htag, hcap, hcount, -⟩ := h
    simp [htag, hcap, hcount, hs, CabinState.onPlatform]

/-- A record off the platform, but for its count and state. -/
theorem atRest (h : c.good = true) (hp : c.state.onPlatform = false) :
    c.door = .notAtPlatform ∧ c.hasValid = false ∧ c.zoneCount = 0 ∧ c.entryBarred = false := by
  rw [good_iff] at h
  obtain ⟨-, -, -, -, -, -, -, hrest, -, hbar⟩ := h
  obtain ⟨h1, h2, h3⟩ := hrest hp
  refine ⟨h1, h2, h3, ?_⟩
  cases hb : c.entryBarred with
  | false => rfl
  | true => rw [hbar hb] at hp; cases hp

/-- R75: a count confirmed by the console, of a cabin in service off the platform. -/
theorem counted_good (h : c.good = true) (hp : c.state.onPlatform = false)
    (ho : c.state ≠ .outOfService) (n : Nat) (exit : Bool) : ({ c with
      count := min n c.capacity, saturated := decide (c.capacity < n)
      state := confirmedState (min n c.capacity), unlockedExit := exit } : Cabin).good = true := by
  obtain ⟨hd, hv, hz, hb⟩ := atRest h hp
  have := confirmed_good h ho n exit c.exitTime
  rw [hd, hv, hz, hb]
  exact this

/-- R76. -/
theorem takenOut_good (h : c.good = true) (he : c.state = .empty) :
    ({ c with state := .outOfService, inService := false } : Cabin).good = true := by
  obtain ⟨hd, hv, hz, hb⟩ := atRest h (by rw [he]; rfl)
  rw [good_iff] at h ⊢
  obtain ⟨htag, hcap, -, -, hempty, -⟩ := h
  simp [htag, hcap, hempty he, hd, hv, hz, hb]

/-- R76. -/
theorem returned_good (h : c.good = true) (ho : c.state = .outOfService) :
    ({ c with state := .empty, count := 0, inService := true } : Cabin).good = true := by
  obtain ⟨hd, hv, hz, hb⟩ := atRest h (by rw [ho]; rfl)
  rw [good_iff] at h ⊢
  obtain ⟨htag, hcap, -⟩ := h
  simp [htag, hcap, hd, hv, hz, hb]

/-- R69: a valid answer for a cabin of the platform. -/
theorem answered_good (h : c.good = true) (hp : c.state.onPlatform = true) (d : DoorState) (n : Nat) :
    ({ c with door := d, zoneCount := n, hasValid := true } : Cabin).good = true := by
  rw [good_iff] at h ⊢
  obtain ⟨h1, h2, h3, h4, h5, h6, h7, -, -, h10⟩ := h
  exact ⟨h1, h2, h3, h4, h5, h6, h7, fun hf => by simp [hp] at hf, by simp, h10⟩

/-- R49: a record loaded by a CABIN element. -/
theorem loadFrom_good (c : Cabin) {x : CabinConfig} (ht : x.tag.length = 8) (hx : x.capacity ≤ 40) :
    (c.loadFrom x).good = true := by
  rw [good_iff]
  unfold loadFrom
  split <;> simp_all [notLoaded, CabinState.onPlatform]

/-- R50: a record off the platform after a RESTART. -/
theorem restarted_good (h : c.good = true) (hp : c.state.onPlatform = false) :
    c.restarted.good = true := by
  obtain ⟨hd, hv, hz, hb⟩ := atRest h hp
  have hr : c.restarted = { c with window := IdWindow.closed } := by
    rw [restarted, hd, hv, hz, hb]
  rw [hr]
  exact h

end Cabin

/-! ### Cabin tables -/

theorem mem_modify {α : Type} {x : α} {k : Nat} {f : α → α} {l : List α}
    (h : x ∈ l.modify k f) : x ∈ l ∨ ∃ c, l[k]? = some c ∧ x = f c := by
  obtain ⟨i, hi⟩ := List.mem_iff_getElem?.mp h
  rw [List.getElem?_modify] at hi
  cases hl : l[i]? with
  | none => simp [hl] at hi
  | some c =>
    rw [hl] at hi
    simp only [Option.map_eq_map, Option.map_some, Option.some.injEq] at hi
    split at hi
    · next hk => exact .inr ⟨c, by rw [hk, hl], hi.symm⟩
    · exact .inl (hi ▸ List.mem_of_getElem? hl)

namespace CabinsKept

variable {s : State}

theorem map {f : Cabin → Cabin} (hg : ∀ c ∈ s.cabins, c.good = true → (f c).good = true)
    (hp : ∀ c ∈ s.cabins, (f c).state.onPlatform = true → c.state.onPlatform = true) :
    CabinsKept s (s.cabins.map f) where
  length h := by simpa using h
  good h x hx := by
    obtain ⟨c, hc, rfl⟩ := List.mem_map.mp hx
    exact hg c hc (h c hc)
  occupied h := by
    simp only [List.any_map, List.any_eq_true, Function.comp] at h
    obtain ⟨c, hc, hf⟩ := h
    exact .inl (List.any_eq_true.mpr ⟨c, hc, hp c hc hf⟩)

/-- A change of one record. -/
theorem modify {k : Nat} {f : Cabin → Cabin} (hg : (s.cabin k).good = true → (f (s.cabin k)).good = true)
    (hp : (f (s.cabin k)).state.onPlatform = true → (s.cabin k).state.onPlatform = true ∨
      s.modeRec.mode = .service ∧ s.tracker.state = .locked) :
    CabinsKept s (s.cabins.modify k f) := by
  have hk {c : Cabin} (hc : s.cabins[k]? = some c) : s.cabin k = c := by
    simp [State.cabin, List.getD_eq_getElem?_getD, hc]
  refine ⟨fun h => by simpa using h, fun h x hx => ?_, fun h => ?_⟩
  · obtain hx | ⟨c, hc, rfl⟩ := mem_modify hx
    · exact h x hx
    · rw [hk hc] at hg
      exact hg (h c (List.mem_of_getElem? hc))
  · obtain ⟨x, hx, hxp⟩ := List.any_eq_true.mp h
    obtain hx | ⟨c, hc, rfl⟩ := mem_modify hx
    · exact .inl (List.any_eq_true.mpr ⟨x, hx, hxp⟩)
    · rw [hk hc] at hp
      exact (hp hxp).imp_left fun h => List.any_eq_true.mpr ⟨c, List.mem_of_getElem? hc, h⟩

/-- A change of one record that leaves its state. -/
theorem modify_sameState {k : Nat} {f : Cabin → Cabin} (hf : ∀ c, (f c).state = c.state)
    (hg : (s.cabin k).good = true → (f (s.cabin k)).good = true) :
    CabinsKept s (s.cabins.modify k f) :=
  modify hg fun h => .inl (by rwa [hf] at h)

theorem converted : CabinsKept s (s.cabins.map (Cabin.converted s.ms)) :=
  map (fun _ _ h => Cabin.converted_good h _)
    fun c _ h => by rw [Cabin.converted_offPlatform] at h; cases h

end CabinsKept

end Sys2Proof.Machine


/-! ## The work of each block as a chain of changes -/

namespace Sys2Proof.Machine

set_option Elab.async false

variable {s t u : State} {line due mid : Bool}

/-! ### The tests under the changes of the hold list (R74, R124) -/

/-- The DOOR test of another cabin table that gives the same answer. -/
theorem tests_congr_doorTest (hd : ∀ a b, t.cabins.any (doorCausePresent a b) =
      s.cabins.any (doorCausePresent a b)) (ha : t.alightStation = s.alightStation := by rfl)
    (hb : t.boardStation = s.boardStation := by rfl) (hf : t.fb = s.fb := by rfl) :
    t.tests = s.tests := by
  simp only [State.tests, State.doorTest, State.platformTest, State.driveTest, hd, ha, hb, hf]

theorem any_modify {p : Cabin → Bool} {f : Cabin → Cabin} (hf : ∀ c, p (f c) = p c) (k : Nat)
    (l : List Cabin) : (l.modify k f).any p = l.any p := by
  induction l generalizing k with
  | nil => simp
  | cons c l ih => cases k <;> simp [hf, ih]

theorem causeReport_tests (src : HoldSource) (k : Nat) (cls : HoldClass) (sub : Option Nat) (s : State) :
    (causeReport src k cls sub s).tests = s.tests := by
  have hbar (e : HoldEntry) : (s.withEntry e).tests = s.tests := by
    refine tests_congr_doorTest fun a b => ?_
    rw [State.withEntry, List.any_map]
    congr 1
    funext c
    simp only [Function.comp]
    split <;> rfl
  cases h : s.entry src with
  | none =>
    rw [causeReport_new h, addEntry_eq]
    split <;> exact hbar ⟨src, cls, k, sub, s.ms, latchedForm src k, presentFlag src s.causes⟩
  | some old =>
    rw [causeReport_old h]
    exact tests_congr (by simp) (by simp) (by simp) (by simp)

/-! ### Reports in the forms of R116 -/

theorem reportable_command : Reportable .command 1 .stop none := fun _ _ => rfl

theorem reportable_console (cls : HoldClass) : Reportable .console 1 cls none := fun _ _ => rfl

theorem reportable_door {cause : Nat} (h : within 1 cause 4 = true) (k : Nat) :
    Reportable .door cause .stop (some k) := by
  intro c time
  simp [HoldEntry.formed, latchedForm, presentFlag, h]

theorem reportable_platform {cause : Nat} (h : within 1 cause 2 = true) (address : Option Nat) :
    Reportable .platform cause .stop address := by
  intro c time
  simp [HoldEntry.formed, latchedForm, presentFlag, h]

theorem reportable_driveSilent : Reportable .drive 1 .stop none := by
  intro c time
  simp [HoldEntry.formed, latchedForm, presentFlag]

theorem reportable_driveFault {k : Nat} (h : within 1 k 255 = true) :
    Reportable .drive 2 .stop (some k) := by
  intro c time
  simp [HoldEntry.formed, latchedForm, presentFlag, h]

namespace Work

/-! ### Runs (chapter 7) -/

theorem after_latch (h : Work line s due mid t) (e : Event) : Work line s due mid (latch e t) := h.note

theorem after_latchIf (h : Work line s due mid t) (c : Bool) (e : Event) :
    Work line s due mid (latchIf c e t) := by
  rw [latchIf_eq]
  exact h.note

theorem after_endRun (h : Work line s due mid t) (e : EndStatus) : Work line s due mid (endRun e t) :=
  h.clean (.endRun e)

theorem after_startStep (h : Work line s due mid t) (hr : t.run.running = true) :
    Work line s due mid (startStep t) := h.clean (.startStep hr)

/-- The step after a met one differs in the run's step and repeats alone. -/
theorem of_nextStep (h : Work line s due mid t) (hn : nextStep t = some u) :
    Work line s due mid u ∧ u.run.running = t.run.running := by
  unfold nextStep at hn
  split at hn
  · cases hn; exact ⟨h.clean (.run _ rfl rfl rfl), rfl⟩
  · split at hn
    · cases hn; exact ⟨h.clean (.run _ rfl rfl rfl), rfl⟩
    · cases hn

/-- A step that begins is the step started, and then the steps it leads on to or the end of the run. -/
theorem after_beginStep {n : Nat} (h : Work line s due mid (startStep t)) (hr : t.run.running = true) :
    Work line s due mid (beginStep n t) := by
  induction n generalizing t with
  | zero => exact h
  | succ n ih =>
    unfold beginStep
    split
    · exact h.after_endRun .fault
    · split
      · split
        · exact h.after_endRun .complete
        · next hn =>
          obtain ⟨h', hr'⟩ := h.of_nextStep hn
          have hr'' := hr'.trans hr
          exact ih (h'.after_startStep hr'') hr''
      · exact h

theorem after_stepMet (h : Work line s due mid t) (hr : t.run.running = true) :
    Work line s due mid (stepMet t) := by
  unfold stepMet
  split
  · exact h.after_endRun .complete
  · next hn =>
    obtain ⟨h', hr'⟩ := h.of_nextStep hn
    have hr'' := hr'.trans hr
    exact (h'.after_startStep hr'').after_beginStep hr''

theorem after_cabinChanged (h : Work line s due mid t) : Work line s due mid (cabinChanged t) := by
  unfold cabinChanged
  split
  · next hc =>
    simp only [Bool.and_eq_true] at hc
    exact h.after_stepMet hc.1.1
  · exact h

theorem after_cabinTakenOut (h : Work line s due mid t) (k : Nat) :
    Work line s due mid (cabinTakenOut k t) := .ite (h.after_endRun .fault) h.after_cabinChanged

theorem after_profileFeedback (h : Work line s due mid t) (d v : Int) (xs : List (Nat × Point)) :
    Work line s due mid (profileFeedback d v xs t) := by
  have h' : Work line s due mid
      { t with run := { t.run with travel := t.run.travel + BitVec.ofInt 32 d } } :=
    h.clean (.run _ rfl rfl rfl)
  unfold profileFeedback
  simp only
  split
  · next hc =>
    simp only [Bool.and_eq_true] at hc
    exact h'.after_stepMet hc.1.1
  · exact h'

theorem after_profileCycleEnd (h : Work line s due mid t) :
    Work line s due mid (profileCycleEnd t) := by
  unfold profileCycleEnd
  split
  · next hc =>
    simp only [Bool.and_eq_true] at hc
    exact h.after_stepMet hc.1.1
  · exact h

/-! ### Holds (chapter 6) -/

theorem after_causeReport (h : Work line s due mid t) {src : HoldSource} {k : Nat} {cls : HoldClass}
    {sub : Option Nat} (hf : Reportable src k cls sub) (ho : src ≠ .wind ∧ src ≠ .position := by decide) :
    Work line s due mid (causeReport src k cls sub t) :=
  h.act (.report src k cls sub ho hf) (.inr (causeReport_tests ..))

/-- A change of cabin records while the tests are still to be re-taken. -/
theorem withCabins (h : Work line s true mid t) {cs : List Cabin} (hk : CabinsKept t cs) :
    Work line s true mid { t with cabins := cs } := h.dirty (.cabins cs hk)

/-- A change of one cabin record. -/
theorem withCabin (h : Work line s true mid t) {k : Nat} {f : Cabin → Cabin}
    (hg : (t.cabin k).good = true → (f (t.cabin k)).good = true)
    (hp : (f (t.cabin k)).state.onPlatform = true → (t.cabin k).state.onPlatform = true ∨
      t.modeRec.mode = .service ∧ t.tracker.state = .locked) :
    Work line s true mid (modifyCabin k f t) := h.withCabins (.modify hg hp)

/-- A change of one cabin record that leaves its state. -/
theorem withCabin_sameState (h : Work line s true mid t) {k : Nat} {f : Cabin → Cabin}
    (hf : ∀ c, (f c).state = c.state) (hg : (t.cabin k).good = true → (f (t.cabin k)).good = true) :
    Work line s true mid (modifyCabin k f t) := h.withCabins (.modify_sameState hf hg)

theorem after_barBoarding (h : Work line s true mid t) : Work line s true mid (barBoarding t) :=
  h.withCabins (.map (fun _ _ hc => Cabin.barred_good hc) fun c _ hc => by
    split at hc <;> exact hc)

/-! ### Platform stations (R66 to R72) -/

theorem after_platformCause (h : Work line s due mid t) {cause : Nat} (hc : within 1 cause 2 = true)
    (p : Station) : Work line s due mid (platformCause cause p t) :=
  h.after_causeReport (reportable_platform hc _)

theorem after_doorCause (h : Work line s due mid t) {cause : Nat} (hc : within 1 cause 4 = true)
    (k : Nat) : Work line s due mid (doorCause cause k t) :=
  h.after_causeReport (reportable_door hc k)

theorem after_stationStale (h : Work line s due mid t) (p : Station) :
    Work line s due mid (stationStale p t) := by
  unfold stationStale
  split
  · exact h.after_platformCause rfl p
  · exact (h.after_platformCause rfl p).after_doorCause rfl _

theorem after_stationFreshness (h : Work line s due mid t) (p : Station) (f : Freshness) :
    Work line s due mid (stationFreshness p f t) := by
  unfold stationFreshness
  split
  · exact h
  · have h1 : Work line s true mid (writeStation p { t.station p with freshness := f } t) :=
      h.testsDue.dirty (.station ..)
    have h2 := ite (c := p = .board ∧ ((t.station p).freshness = .fresh ∨ f = .stale))
      h1.after_barBoarding h1
    have h3 := (ite (c := f = .stale) (h2.after_stationStale p) h2).retest
    cases due with
    | false => exact h3
    | true => exact h3.testsDue

/-- A valid answer is for a cabin in the station's zone (R69). -/
theorem zone_of_validAnswer {p : Station} {a : StationAnswer} {c : Nat} (h : t.validAnswer p a c = true) :
    (t.cabin c).state.onPlatform = true := by
  simp only [State.validAnswer, Bool.and_eq_true, beq_iff_eq] at h
  rw [h.1.2]
  cases p <;> rfl

theorem after_takeStationAnswer (h : Work line s due mid t) (p : Station) (a : StationAnswer) :
    Work line s false mid (takeStationAnswer p a t) := by
  have answer (hv : t.validAnswer p a a.echo = true) : Work line s true mid (applyAnswer a a.echo t) := by
    have h' : Work line s true mid (modifyCabin a.echo
        (fun x => { x with door := a.door, zoneCount := a.count, hasValid := true }) t) :=
      h.testsDue.withCabin_sameState (fun _ => rfl) fun hg =>
        Cabin.answered_good hg (zone_of_validAnswer hv) _ _
    exact ite (h'.after_doorCause rfl _) h'
  have button {u : State} (hu : Work line s true mid u) : Work line s true mid (takeButton p a.pressed u) :=
    have h' : Work line s true mid (writeStation p { u.station p with pressed := a.pressed } u) :=
      hu.dirty (.station ..)
    ite (h'.after_platformCause rfl p) h'
  unfold takeStationAnswer
  simp only
  split
  · next hv => exact (button (answer hv)).retest
  · exact (button h.testsDue).retest

/-! ### The rim tracker (chapter 2) -/

/-- A new tracker record with its reports; where the tests are not about to be re-taken, one that converts
no cabin. -/
theorem withTracker (h : Work line s due mid t) (x : Tracker)
    (hl : t.tracker.state = .lost → x.state = .lost)
    (hx : t.tracker.Law t.ride.n → x.Law t.ride.n)
    (ht : due = true ∨ (t.retracked x).tests = t.tests) : Work line s due mid (setTracker x t) := by
  have h' : Work line s due mid (t.retracked x) := h.act (.retrack t.ride x (.inl rfl) hl hx) ht
  obtain heq | heq := setTracker_cases x t <;> rw [heq]
  · exact h'
  · exact h'.after_cabinChanged

theorem after_convert (h : Work line s true mid t) : Work line s true mid (convert t) := by
  have h' : Work line s true mid t.offPlatform := h.withCabins .converted
  rw [convert_eq_offPlatform]
  exact ite h'.after_cabinChanged h'

theorem after_trackFeedback (h : Work line s true mid t) (b : Bool) (f : FeedbackFields) :
    Work line s true mid (trackFeedback b f t) := by
  have h' := (h.after_latchIf (t.tracker.afterFrame t.ride b f).2.1 .strayMarker).after_latchIf
    (t.tracker.afterFrame t.ride b f).2.2 .missedMarker
  refine h'.withTracker _ ?_ ?_ (.inl rfl)
  · simp only [latchIf_frame]
    exact fun hl => afterFrame_lost hl ..
  · simp only [latchIf_frame]
    exact fun hx => Tracker.afterFrame_law hx b f

/-- A read of the SEARCHING tracker can only LOCK it, which converts no cabin (R39, R40). -/
theorem after_searchRead (h : Work line s due mid t) (hs : t.tracker.state = .searching) (j : Nat) :
    Work line s due mid (searchRead j t) := by
  unfold searchRead
  split
  · exact h
  · next i hi =>
    have hstate : (t.tracker.propose t.zone.requiredReads i).state = .searching ∨
        (t.tracker.propose t.zone.requiredReads i).state = .locked := by
      unfold Tracker.propose
      generalize (if t.tracker.candidate = some i then t.tracker.candidateReads + 1 else 1) = n
      simp only
      split
      · exact .inr rfl
      · exact .inl hs
    refine h.withTracker _ (by simp [hs]) (fun hx => ?_) (.inr ?_)
    · unfold State.proposal at hi
      split at hi
      · next hc =>
        simp only [Bool.and_eq_true, within, decide_eq_true_eq] at hc
        obtain ⟨⟨⟨hp, -⟩, hn, -⟩, -⟩ := hc
        split at hi
        · cases hi
        · next c hr =>
          obtain ⟨m, -, rfl⟩ := Option.map_eq_some_iff.mp hi
          exact Tracker.propose_law hx hs hp (by simp [hr]) _ (Tracker.roundRim_lt _ (by omega))
      · cases hi
    · unfold State.retracked
      rcases hstate with hx | hx
      · rw [if_pos (by rw [hx, hs])]; rfl
      · rw [if_neg (by simp [hx, hs]), hx]
        exact tests_congr (by simp) (by simp) (by simp) (by simp)

theorem after_takeOutcome (h : Work line s true mid t) (o : IdOutcome) :
    Work line s true mid (takeOutcome o t) := by
  have resync (sh : Nat) : Work line s true mid
      { t with tracker := t.tracker.resynchronised t.ride.n sh } := by
    have hx := h.dirty (.retrack t.ride (t.tracker.resynchronised t.ride.n sh) (.inl rfl) id
      fun hx => Tracker.resynchronised_law hx sh)
    rwa [State.retracked, if_pos (by rfl)] at hx
  unfold takeOutcome
  split
  · next hs =>
    exact h.withTracker _ (by simp [hs]) (fun hx => Tracker.lockedOutcome_law hx hs o) (.inl rfl)
  · split
    · exact h
    · exact resync 0
    · exact ite (resync 0) (resync _).after_convert
  · exact h

/-! ### The crossings of a frame (R52 to R64) -/

theorem after_openWindow (h : Work line s true mid t) (k : Nat) :
    Work line s true mid (openWindow k t) :=
  ite (h.withCabin_sameState (fun _ => rfl) id) h

theorem after_closeWindow (h : Work line s true mid t) (k : Nat) :
    Work line s true mid (closeWindow k t) := by
  have hw (o : IdOutcome) : Work line s true mid (modifyCabin k (fun c => c.windowClosed o) t) :=
    h.withCabin_sameState (fun c => by unfold Cabin.windowClosed; split <;> rfl) fun hg => by
      unfold Cabin.windowClosed; split <;> exact hg
  exact ite (((hw _).after_latchIf ..).after_takeOutcome _) h

theorem after_crossAStart (h : Work line s true mid t) (k : Nat) :
    Work line s true mid (crossAStart k t) := by
  unfold crossAStart
  split
  · next hm =>
    simp only [State.mayAlight, Bool.and_eq_true, beq_iff_eq] at hm
    obtain ⟨⟨⟨⟨hserv, -⟩, htr⟩, hmode⟩, -⟩ := hm
    refine after_cabinChanged (h.withCabin ?_ fun _ => .inr ⟨hmode, htr⟩)
    exact fun hg => Cabin.alighting_good hg hserv
  · exact h

theorem after_crossBStart (h : Work line s true mid t) (k : Nat) :
    Work line s true mid (crossBStart k t) := by
  unfold crossBStart
  split
  · next ha =>
    refine after_cabinChanged (after_latchIf (h.withCabin ?_ fun _ => .inl ?_) ..)
    · exact fun hg => Cabin.leaveAlightZone_good hg ha _ _
    · rw [ha]; rfl
  · exact h

theorem after_crossLock (h : Work line s due mid t) (k : Nat) :
    Work line s due mid (crossLock k t) := ite (h.after_doorCause rfl k) h

theorem after_passEnd (h : Work line s true mid t) {k : Nat} (hb : (t.cabin k).state = .boarding) :
    Work line s true mid (passEnd k t) := by
  have hk : Work line s true mid (modifyCabin k (fun x => x.leaveBoardZone t.ms) t) :=
    h.withCabin (fun hg => Cabin.leaveBoardZone_good hg hb _) fun _ => .inl (by rw [hb]; rfl)
  have h' := (hk.after_latchIf
    ((t.cabin k).confirmed && decide ((t.cabin k).capacity < (t.cabin k).zoneCount))
    .countSaturated).after_cabinChanged
  exact ite h' (h'.after_doorCause rfl k)

theorem cabin_modifyCabin_state (k : Nat) {f : Cabin → Cabin} (hf : ∀ c, (f c).state = c.state)
    (s : State) : ((modifyCabin k f s).cabin k).state = (s.cabin k).state := by
  simp only [State.cabin, List.getD_eq_getElem?_getD, modifyCabin_cabins, List.getElem?_modify_eq]
  cases s.cabins[k]? with
  | none => rfl
  | some c => exact hf c

theorem after_crossBEnd (h : Work line s true mid t) (k : Nat) :
    Work line s true mid (crossBEnd k t) := by
  have h' : Work line s true mid (modifyCabin k (fun c => { c with withheld := none }) t) :=
    h.withCabin_sameState (fun _ => rfl) id
  unfold crossBEnd
  simp only
  split
  · next hb =>
    refine h'.after_passEnd ?_
    rwa [cabin_modifyCabin_state k (by exact fun _ => rfl)]
  · exact h'

theorem after_takeCrossing (h : Work line s true mid t) (k : Nat) (p : Point) :
    Work line s true mid (takeCrossing k p t) :=
  match p with
  | .idStart => h.after_openWindow k
  | .idEnd => h.after_closeWindow k
  | .aStart => h.after_crossAStart k
  | .bStart => h.after_crossBStart k
  | .lock => h.after_crossLock k
  | .bEnd => h.after_crossBEnd k

theorem after_takeCrossings (h : Work line s true mid t) (xs : List (Nat × Point)) :
    Work line s true mid (takeCrossings xs t) := by
  induction xs generalizing t with
  | nil => exact h
  | cons x xs ih => exact ite (ih (h.after_takeCrossing ..)) (h.after_takeCrossing ..)

theorem after_boardFeedback (h : Work line s true mid t) (b : Tracker) :
    Work line s true mid (boardFeedback b t) := by
  unfold boardFeedback
  split
  · exact h
  · exact ite h.after_convert (h.after_takeCrossings _)

/-- A window's reads do not bear on the DOOR test (R57). -/
theorem after_offerRead (h : Work line s due mid t) (j : Nat) : Work line s due mid (offerRead j t) := by
  unfold offerRead
  split
  · split
    · exact h
    · next k _ =>
      refine h.act (.cabins _ (.modify_sameState (fun _ => rfl) id)) (.inr ?_)
      exact tests_congr_doorTest fun a b => any_modify (by exact fun _ => rfl) k t.cabins
  · exact h

theorem after_takeTagAnswer (h : Work line s due mid t) (a : TagAnswer) :
    Work line s due mid (takeTagAnswer a t) := by
  unfold takeTagAnswer
  split
  · split
    · exact h.after_latch _
    · split
      · next hs => exact h.after_searchRead hs _
      · exact h.after_offerRead _
      · exact h.after_offerRead _
      · exact h
  · exact h

end Work

end Sys2Proof.Machine


/-! ## Mast records: the changes that keep their law (R93 to R98, R111, R112) -/

namespace Sys2Proof.Machine

set_option Elab.async false

namespace Mast

variable {m : Mast} {g : Nat}

/-- The law of a mast record, clause by clause. -/
theorem good_iff : m.good g = true ↔ m.acc ≤ 16368 ∧ m.window.length ≤ g ∧ (∀ x ∈ m.window, x ≤ 1023) ∧
    (m.freshness = .fresh ∨ m.seeded = false ∧ m.window = [] ∧ m.acc = 0) := by
  simp [good, and_assoc]

/-- The accumulator moves toward 16 times the sample and does not pass it (R97). -/
theorem accAfter_le {k s' : Nat} (hk : 2 ≤ k) (hs : s' ≤ 1023) (ha : m.acc ≤ 16368) :
    m.accAfter k s' ≤ 16368 := by
  unfold accAfter
  split
  · have hh : (0 : Int) < 2 ^ (k - 1) := by positivity
    have hp : (2 : Int) ^ k = 2 * 2 ^ (k - 1) := by rw [← pow_succ', Nat.sub_add_cancel (by omega)]
    generalize (2 : Int) ^ (k - 1) = h at hh hp
    rw [hp]
    have hle : (16 * (s' : Int) - m.acc + h) / (2 * h) ≤ max 0 (16 * (s' : Int) - m.acc) := by
      refine Int.le_of_lt_add_one (Int.ediv_lt_of_lt_mul (by omega) ?_)
      by_cases hd : 16 * (s' : Int) - m.acc ≤ 0
      · rw [max_eq_left hd]; omega
      · rw [max_eq_right (by omega)]; nlinarith
    omega
  · omega

theorem sampled_good {t : WindTable} (ht : t.inRange = true) (h : m.good t.gustLength = true)
    (a : MastAnswer) : (m.sampled t a).good t.gustLength = true := by
  rw [good_iff] at h
  obtain ⟨hacc, hlen, hwin, hclear⟩ := h
  have hs (n : Nat) : m.corrected n ≤ 1023 := Nat.min_le_left ..
  unfold sampled
  simp only
  split
  · next hf =>
    rw [good_iff]
    refine ⟨accAfter_le ?_ (hs _) hacc, by simp [windowAfter], fun x hx => ?_, .inl hf⟩
    · simp only [WindTable.inRange, within, Bool.and_eq_true, decide_eq_true_eq] at ht
      omega
    · rcases List.mem_cons.mp (List.mem_of_mem_take hx) with rfl | hx
      · exact hs _
      · exact hwin x hx
  · exact good_iff.mpr ⟨hacc, hlen, hwin, hclear⟩

theorem withFreshness_good (h : m.good g = true) (f : Freshness) : (m.withFreshness f).good g = true := by
  rw [good_iff] at h
  obtain ⟨hacc, hlen, hwin, hclear⟩ := h
  unfold withFreshness
  split
  · exact good_iff.mpr ⟨hacc, hlen, hwin, hclear⟩
  · split
    · simp [good_iff]
    · next hf => exact good_iff.mpr ⟨hacc, hlen, hwin, .inr (hclear.resolve_left hf)⟩

@[simp] theorem withFreshness_address (f : Freshness) : (m.withFreshness f).address = m.address := by
  unfold withFreshness; split
  · rfl
  · split <;> rfl

@[simp] theorem sampled_address (t : WindTable) (a : MastAnswer) :
    (m.sampled t a).address = m.address := by
  unfold sampled; simp only; split <;> rfl

theorem configured_good (h : m.good g = true) (x : MastConfig) (f : Freshness) :
    (m.configured x f).good g = true := by
  unfold configured
  split
  · exact h
  · simp [good_iff, initial]

end Mast

/-- A change of each mast record. -/
theorem MastsKept.map {s : State} {f : Mast → Mast} (hf : s.windTable.inRange = true →
      ∀ m, m.good s.windTable.gustLength = true → (f m).good s.windTable.gustLength = true) :
    MastsKept s (s.masts.map f) where
  length h := by simpa using h
  good ht h x hx := by
    obtain ⟨m, hm, rfl⟩ := List.mem_map.mp hx
    exact hf ht m (h m hm)

theorem map_address {ms : List Mast} {f : Mast → Mast} (hf : ∀ m, (f m).address = m.address) :
    (ms.map f).map (fun m => m.address) = ms.map fun m => m.address := by
  simp [hf]

/-! ## The walk of the poll list (R82, R89) -/

theorem nextSet_spec {k i : Nat} {es : List PollEntry} (h : nextSet k es = some i) :
    k ≤ i ∧ ∃ e, es[i - k]? = some e ∧ e.kind ≠ .unset := by
  induction es generalizing k with
  | nil => cases h
  | cons e es ih =>
    unfold nextSet at h
    split at h
    · obtain ⟨hle, x, hx, hk⟩ := ih h
      refine ⟨by omega, x, ?_, hk⟩
      rwa [show i - k = (i - (k + 1)) + 1 by omega, List.getElem?_cons_succ]
    · next hk =>
      cases h
      exact ⟨le_rfl, e, by simp, hk⟩

/-- The walked list is the front of the poll list (R77). -/
theorem pollEntry_of_walked {s : State} {i : Nat} {e : PollEntry} (h : s.walked[i]? = some e) :
    s.pollEntry i = e := by
  unfold State.walked walkedList at h
  split at h
  · simp at h
  · rw [List.getElem?_take] at h
    split at h
    · simp [State.pollEntry, List.getD_eq_getElem?_getD, h]
    · cases h

/-- The next set entry is a set entry of the walked list. -/
theorem nextEntry_spec {s : State} {i j : Nat} (h : s.nextEntry i = some j) :
    j < s.walked.length ∧ (s.pollEntry j).kind ≠ .unset := by
  obtain ⟨hle, e, he, hk⟩ := nextSet_spec h
  rw [List.getElem?_drop, Nat.add_sub_cancel' hle] at he
  exact ⟨(List.getElem?_eq_some_iff.mp he).1, by rwa [pollEntry_of_walked he]⟩

@[simp] theorem finishCycle_poller (s : State) : (finishCycle s).poller =
    { s.poller with phase := .idle, inFlight := none, timer := none } := by
  simp [finishCycle]

section

variable {s : State}

/-- An IDLE poller without a pending mark keeps the law. -/
theorem pollLaw_of_idle (hp : s.poller.phase = .idle) (hi : s.poller.inFlight = none)
    (hm : s.poller.pendingMark = false) : PollLaw s := by
  simp [PollLaw, hp, hi, hm]

/-- An IDLE poller has no entry in flight and no pending mark. -/
theorem PollLaw.of_idle (h : PollLaw s) (hp : s.poller.phase = .idle) :
    s.poller.inFlight = none ∧ s.poller.pendingMark = false := by
  obtain ⟨hi, hm, -⟩ := h
  exact ⟨hi.mp hp, by simpa [hp] using hm⟩

/-- A poller about to poll a set entry of the walked list keeps the law. -/
theorem pollLaw_of_toPoll {i j : Nat} (hp : s.poller.phase = .toPoll)
    (hi : s.poller.inFlight = some j) (hj : s.nextEntry i = some j) : PollLaw s := by
  obtain ⟨hlt, hk⟩ := nextEntry_spec hj
  simp [PollLaw, hp, hi, hlt, hk]

/-- A cycle started from IDLE. -/
theorem startCycle_pollLaw (hp : s.poller.phase = .idle) (hi : s.poller.inFlight = none)
    (hm : s.poller.pendingMark = false) : PollLaw (startCycle s) := by
  unfold startCycle
  split
  · exact pollLaw_of_idle hp hi hm
  · split
    · next i hn => exact pollLaw_of_toPoll (i := 0) (j := i) rfl rfl hn
    · exact pollLaw_of_idle (by simp) (by simp) (by simp [hm])

theorem endCycle_pollLaw (s : State) : PollLaw (endCycle s) := by
  unfold endCycle
  simp only
  split
  · exact startCycle_pollLaw (by simp) (by simp) rfl
  · next hm => exact pollLaw_of_idle (by simp) (by simp) (by simpa using hm)

theorem moveOn_pollLaw (i : Nat) (s : State) : PollLaw (moveOn i s) := by
  unfold moveOn
  split
  · next j hj => exact pollLaw_of_toPoll (i := i + 1) (j := j) rfl rfl hj
  · exact endCycle_pollLaw s

end

end Sys2Proof.Machine


/-! ## The work of the drive gate, the wind monitor and the field poller -/

namespace Sys2Proof.Machine

set_option Elab.async false

variable {s t u : State} {line due mid : Bool}

namespace Work

/-! ### FEEDBACK (R15 to R17) -/

/-- Work that ends with the tests re-taken leaves them in step whatever was due. -/
theorem settled (h : Work line s false mid t) : Work line s due mid t := by
  cases due with
  | false => exact h
  | true => exact h.testsDue

theorem after_reportDrive (h : Work line s due mid t) (hc : t.fb.faultCode < 256) :
    Work line s due mid (reportDrive t) := by
  unfold reportDrive
  split
  · exact h
  · exact h.after_causeReport (reportable_driveFault (by simp [within]; omega))

theorem after_gateFeedback (h : Work line s due mid t) (f : FeedbackFields) :
    Work line s due mid (gateFeedback f t) := by
  have taken (r : FeedbackRecord) (x : Standstill) : Work line s false mid (Machine.retest
      { t with fb := r, still := x, run := { t.run with begunNow := false } }) :=
    ((h.testsDue.dirty (.feedback r x)).dirty (.run { t.run with begunNow := false } rfl rfl rfl)).retest
  refine settled (after_reportDrive (taken _ _) ?_)
  exact f.status.isLt

theorem after_feedbackTurns (h : Work line s due mid t) (f : FeedbackFields) :
    Work line s false mid (feedbackTurns f t) :=
  (((h.testsDue.after_gateFeedback f).after_trackFeedback _ f).after_boardFeedback
    t.tracker).after_profileFeedback .. |>.retest

theorem after_feedbackSilent (h : Work line s due mid t) :
    Work line s due mid (feedbackSilent t) :=
  ((h.testsDue.dirty (.feedback { t.fb with
    state := .silent, speed := none, brake := .unknown, timer := none }
    Standstill.ended)).retest.after_causeReport reportable_driveSilent).settled

/-! ### The end of a cycle (R89, R99) -/

theorem reportWind_tests (s : State) : (reportWind s).tests = s.tests := by
  unfold reportWind
  split
  · exact tests_congr (by simp) (by simp) (by simp) (by simp)
  · exact tests_congr (by simp) (by simp) (by simp) (by simp)
  · exact causeReport_tests ..
  · exact causeReport_tests ..

theorem reportMasts_tests (s : State) : (reportMasts s).tests = s.tests := by
  unfold reportMasts
  split
  · exact causeReport_tests ..
  · split
    · exact causeReport_tests ..
    · exact tests_congr (by simp) (by simp) (by simp) (by simp)

theorem after_windCycleEnd (h : Work line s due mid t) : Work line s due mid (windCycleEnd t) := by
  have h1 := h.act .windLevel (.inr (reportWind_tests _))
  have h2 := h1.act .mastsCause (.inr (reportMasts_tests _))
  have h3 := h2.clean (.traceEnd t.wind.level)
  exact h3

/-- A change of the poller between two phases. -/
theorem poller (h : Work line s due true t) (p : Poller) : Work line s due true { t with poller := p } :=
  h.outer (.poll p t.rx.field) rfl (.inl rfl) (.inr rfl)

/-- A change of the field line's receive buffer between two phases. -/
theorem fieldBuffer (h : Work line s due true t) (b : ReceiveBuffer) :
    Work line s due true (setFieldBuffer b t) :=
  h.outer (.poll t.poller b) rfl (.inl rfl) (.inr rfl)

theorem after_finishCycle (h : Work line s due true t) : Work line s due true (finishCycle t) :=
  (h.poller _).after_windCycleEnd.after_profileCycleEnd

theorem after_startCycle (h : Work line s due true t) : Work line s due true (startCycle t) := by
  unfold startCycle
  split
  · exact h
  · split
    · exact h.poller _
    · exact h.after_finishCycle

theorem after_endCycle (h : Work line s due true t) : Work line s due true (endCycle t) :=
  ite (h.after_finishCycle.poller _).after_startCycle h.after_finishCycle

theorem after_moveOn (h : Work line s due mid t) (i : Nat) : Work line s due false (moveOn i t) := by
  have h' : Work line s due true (moveOn i t) := by
    unfold moveOn
    split
    · exact h.midway.poller _
    · exact h.midway.after_endCycle
  exact h'.arrived fun _ => moveOn_pollLaw i t

/-- A cycle asked for: started from IDLE, and in a cycle marked as pending (R81). -/
theorem after_requestCycle (h : Work line s due false t) : Work line s due false (requestCycle t) := by
  have hlaw := h.keeps_pollLaw rfl
  unfold requestCycle
  split
  · next hc =>
    have hp : t.poller.phase ≠ .idle := by simpa [Poller.inCycle] using hc
    refine (h.midway.poller _).arrived fun hs => ?_
    obtain ⟨h1, -, h3, h4, h5⟩ := hlaw hs
    exact ⟨h1, fun _ => hp, h3, h4, h5⟩
  · next hc =>
    have hp : t.poller.phase = .idle := by simpa [Poller.inCycle] using hc
    exact h.midway.after_startCycle.arrived fun hs =>
      startCycle_pollLaw hp ((hlaw hs).of_idle hp).1 ((hlaw hs).of_idle hp).2

/-! ### Results and answers (R84 to R88) -/

theorem withMasts (h : Work line s due mid t) {f : Mast → Mast} (hf : t.windTable.inRange = true →
      ∀ m, m.good t.windTable.gustLength = true → (f m).good t.windTable.gustLength = true)
    (ha : ∀ m, (f m).address = m.address) :
    Work line s due mid { t with masts := t.masts.map f } :=
  h.clean (.masts _ (.map hf) (.inl (map_address ha)))

theorem after_mastFreshness (h : Work line s due mid t) (i : Nat) (f : Freshness) :
    Work line s due mid (mastFreshness i f t) :=
  h.withMasts (fun _ m hm => by split; exacts [Mast.withFreshness_good hm f, hm])
    fun m => by split; exacts [Mast.withFreshness_address f, rfl]

theorem after_recordResult (h : Work line s due mid t) (i : Nat) (r : PollResult) :
    Work line s due mid (recordResult i r t) := by
  have h' (x : ResultRecord) : Work line s due mid { t with results := t.results.set i x } :=
    h.clean (.results _ (by simp))
  have fresh {u : State} (hu : Work line s due mid u) (f : Freshness) :
      Work line s due mid (reportFreshness i f u) := by
    unfold reportFreshness
    split
    · exact hu.after_mastFreshness i f
    · exact ite (hu.after_stationFreshness ..) hu
    · exact ite (hu.after_stationFreshness ..) hu
    · exact hu
    · exact hu
  exact ite (h' _) (fresh (h' _) _)

theorem after_handContent (h : Work line s due mid t) (i : Nat) (c : AnswerContent) :
    Work line s due mid (handContent i c t) := by
  cases c with
  | mast a =>
    refine (h.withMasts (fun ht m hm => ?_) fun m => ?_).after_latchIf ..
    · split
      exacts [Mast.sampled_good ht hm a, hm]
    · split
      exacts [Mast.sampled_address _ a, rfl]
  | station p a => exact ite (h.after_takeStationAnswer p a).settled h
  | tag a => exact h.after_takeTagAnswer a

theorem after_settleFrame (h : Work line s due mid t) (i : Nat) (raw : RawFrame) :
    Work line s due false (settleFrame i raw t) := by
  unfold settleFrame
  split
  · exact ((h.after_latch _).after_recordResult ..).after_moveOn i
  · split
    · exact (h.after_recordResult ..).after_moveOn i
    · exact ((h.after_recordResult ..).after_handContent ..).after_moveOn i

/-- An emptied receive buffer is none that a POLL or a settling frame waits with. -/
theorem emptied (h : Work line s due false t) : Work line s due false (setFieldBuffer .empty t) :=
  (h.midway.fieldBuffer .empty).arrived fun hs => by
    obtain ⟨h1, h2, h3, -, -⟩ := h.keeps_pollLaw rfl hs
    exact ⟨h1, h2, h3, fun _ => by simp [setFieldBuffer], fun _ => rfl⟩

theorem after_discardFieldFrame (h : Work line s due false t) :
    Work line s due false (discardFieldFrame t) := ite h.emptied (h.emptied.after_latch _)

theorem after_fieldFrame (h : Work line s due false t) (raw : RawFrame) :
    Work line s due false (fieldFrame raw t) := by
  obtain ⟨i, -, hi⟩ | ⟨-, hi⟩ := fieldFrame_cases raw t <;> rw [hi]
  · exact h.emptied.after_settleFrame i raw
  · exact h.after_discardFieldFrame

theorem after_overrun (h : Work line s due mid t) (i : Nat) : Work line s due false (overrun i t) :=
  ((h.midway.fieldBuffer .receiving).after_recordResult ..).after_moveOn i

/-! ### The events of the walk (R80, R82, R83, R85) -/

/-- The cabin shown is none of the fields that the tests read (R67). -/
theorem after_showCabin (h : Work line s due mid t) (i : Nat) : Work line s due mid (showCabin i t) := by
  unfold showCabin
  split
  · exact ite (h.act (.station .alight _) (.inr rfl)) h
  · exact ite (h.act (.station .board _) (.inr rfl)) h
  · exact h

theorem after_execPoll (h : Work line s due false t) (he : execPoll t = .next u) :
    Work line s due false u := by
  have hlaw := h.keeps_pollLaw rfl
  unfold execPoll at he
  split at he <;> cases he
  · next i hp hi =>
    split
    · next hb =>
      refine ((h.after_showCabin i).midway.poller _).arrived fun hs => ?_
      obtain ⟨-, -, h3, -, -⟩ := hlaw hs
      simp only [PollLaw, State.walked, State.pollEntry, showCabin_frame, hi, hb]
      simpa [State.walked, State.pollEntry, hi] using h3
    · exact h
  · exact h

theorem after_execEntrySettled (h : Work line s due false t) (he : execEntrySettled t = .next u) :
    Work line s due false u := by
  have hlaw := h.keeps_pollLaw rfl
  unfold execEntrySettled at he
  split at he <;> cases he
  · next hp =>
    refine ((h.midway.poller _).fieldBuffer .receiving).arrived fun hs => ?_
    obtain ⟨h1, h2, h3, -, -⟩ := hlaw hs
    have hi : t.poller.inFlight ≠ none := fun hi => by simpa [hp] using h1.mpr hi
    exact ⟨by simp [setFieldBuffer, hi], fun _ => by simp [setFieldBuffer], h3, fun _ => by
      simp [setFieldBuffer], by simp [setFieldBuffer]⟩
  · exact h
  · next hr hset =>
    refine (h.midway.fieldBuffer .receiving).arrived fun hs => ?_
    obtain ⟨h1, h2, h3, -, -⟩ := hlaw hs
    exact ⟨h1, h2, h3, fun hp => absurd hp hset, fun hp => absurd hp hr⟩

theorem after_execReplyWaitExpiry (h : Work line s due false t) (he : execReplyWaitExpiry t = .next u) :
    Work line s due false u := by
  have hlaw := h.keeps_pollLaw rfl
  unfold execReplyWaitExpiry at he
  split at he <;> cases he
  · next i hp hi =>
    refine Work.after_recordResult ((h.midway.poller _).arrived fun hs => ?_) ..
    obtain ⟨-, -, h3, -, -⟩ := hlaw hs
    exact ⟨by simp [hi], by simp, h3, by simp, by simp⟩
  · exact h

theorem after_execLateWindowEnd (h : Work line s due false t) (he : execLateWindowEnd t = .next u) :
    Work line s due false u := by
  unfold execLateWindowEnd at he
  split at he <;> cases he
  · exact h.after_moveOn _
  · exact h

theorem after_execSettlingFrameOverrun (h : Work line s due false t)
    (he : execSettlingFrameOverrun t = .next u) : Work line s due false u := by
  unfold execSettlingFrameOverrun at he
  split at he <;> cases he
  · exact h.after_overrun _
  · exact h.after_overrun _
  · exact h

theorem after_execPollTimerExpiry (h : Work line s due false t) (he : execPollTimerExpiry t = .next u) :
    Work line s due false u := by
  have h' : Work line s due false
      { t with timers := { t.timers with poll := t.after t.pollParams.period } } := h.note
  unfold execPollTimerExpiry at he
  simp only at he
  split at he <;> cases he
  · exact h'.after_latch _
  · next hc =>
    have hp : t.poller.phase = .idle := by simpa [Poller.inCycle] using hc
    have hlaw := h.keeps_pollLaw rfl
    exact h'.midway.after_startCycle.arrived fun hs =>
      startCycle_pollLaw hp ((hlaw hs).of_idle hp).1 ((hlaw hs).of_idle hp).2

end Work

end Sys2Proof.Machine


/-! ## Table writes as changes (R157, R158) -/

namespace Sys2Proof.Machine

set_option Elab.async false

/-! ### The elements of a write -/

theorem parseAll_spec {α : Type} {f : List Byte → Option α} {bs : List (List Byte)} {xs : List α}
    (h : parseAll f bs = some xs) : xs.length = bs.length ∧ ∀ x ∈ xs, ∃ b ∈ bs, f b = some x := by
  induction bs generalizing xs with
  | nil => cases h; simp
  | cons b bs ih =>
    unfold parseAll at h
    split at h
    · next x ys hx hys =>
      cases h
      obtain ⟨hlen, hall⟩ := ih hys
      refine ⟨by simp [hlen], fun y hy => ?_⟩
      rcases List.mem_cons.mp hy with rfl | hy
      · exact ⟨b, by simp, hx⟩
      · obtain ⟨c, hc, hcy⟩ := hall y hy
        exact ⟨c, by simp [hc], hcy⟩
    · cases h

theorem cutElements_length {size n : Nat} {bs : List Byte} (h : size * n ≤ bs.length) :
    ∀ b ∈ cutElements size n bs, b.length = size := by
  induction n generalizing bs with
  | zero => simp [cutElements]
  | succ n ih =>
    rw [Nat.mul_succ] at h
    intro b hb
    rcases List.mem_cons.mp hb with rfl | hb
    · simp; omega
    · exact ih (by simp; omega) b hb

/-- The elements of a CABIN write have 10 bytes each (8.2). -/
theorem cut_cabin_length {first : Nat} {data : List Byte} {es : List (List Byte)}
    (h : TableId.cabin.cut first data = some es) : ∀ b ∈ es, b.length = 10 := by
  have hsize (k : Nat) : TableId.cabin.elementSize k = 10 := rfl
  unfold TableId.cut at h
  simp only at h
  split at h
  · cases h
  · next hlen =>
    split at h <;> cases h
    rw [hsize] at hlen
    intro b hb
    rcases List.mem_cons.mp hb with rfl | hb
    · simp [hsize]; omega
    · exact cutElements_length (by simp [hsize]; omega) b hb

theorem overwrite_length {α : Type} {first n : Nat} {xs l : List α} (hl : l.length = n)
    (h : first + xs.length ≤ n) : (overwrite first xs l).length = n := by
  simp [overwrite]; omega

theorem mem_overwrite {α : Type} {first : Nat} {xs l : List α} {x : α}
    (h : x ∈ overwrite first xs l) : x ∈ xs ∨ x ∈ l := by
  simp only [overwrite, List.mem_append] at h
  rcases h with (h | h) | h
  · exact .inr (List.mem_of_mem_take h)
  · exact .inl h
  · exact .inr (List.mem_of_mem_drop h)

theorem mem_zipWith {α β γ : Type} {f : α → β → γ} {xs : List α} {ys : List β} {z : γ}
    (h : z ∈ List.zipWith f xs ys) : ∃ x ∈ xs, ∃ y ∈ ys, f x y = z := by
  rw [List.zipWith_eq_zipWith_take_min, ← List.map_uncurry_zip_eq_zipWith] at h
  obtain ⟨⟨x, y⟩, hxy, hz⟩ := List.mem_map.mp h
  obtain ⟨hx, hy⟩ := List.of_mem_zip hxy
  exact ⟨x, List.mem_of_mem_take hx, y, List.mem_of_mem_take hy, hz⟩

/-! ### What a parsed element holds -/

theorem rideOf_inRange {bs : List Byte} {r : RideTable} (h : rideOf bs = some r) : r.inRange = true := by
  unfold rideOf at h
  split at h
  · simp only [Option.ite_none_right_eq_some, Option.some.injEq] at h
    exact h.2 ▸ h.1
  · cases h

theorem zoneOf_inRange {bs : List Byte} {z : ZoneTable} (h : zoneOf bs = some z) : z.inRange = true := by
  unfold zoneOf at h
  split at h
  · simp only [Option.ite_none_right_eq_some, Option.some.injEq] at h
    exact h.2 ▸ h.1
  · cases h

theorem windOf_inRange {bs : List Byte} {w : WindTable} (h : windOf bs = some w) : w.inRange = true := by
  unfold windOf at h
  split at h
  · simp only [Option.ite_none_right_eq_some, Option.some.injEq] at h
    exact h.2 ▸ h.1
  · cases h

theorem cabinOf_spec {bs : List Byte} {x : CabinConfig} (h : cabinOf bs = some x) :
    x.tag = bs.take 8 ∧ x.capacity ≤ 40 := by
  unfold cabinOf at h
  split at h
  · simp only [Option.ite_none_right_eq_some, Option.some.injEq] at h
    obtain ⟨⟨-, hc, -⟩, rfl⟩ := h
    exact ⟨rfl, hc⟩
  · cases h

theorem parsePoll_length {first : Nat} {es : List (List Byte)} {p : Option PollParams}
    {xs : List PollEntry} (h : parsePoll first es = some (p, xs)) (hfit : first + es.length ≤ 17) :
    first - 1 + xs.length ≤ 16 := by
  unfold parsePoll at h
  split at h
  · next h0 =>
    split at h
    · split at h
      · next hxs =>
        cases h
        have := (parseAll_spec hxs).1
        simp only [List.length_cons] at hfit
        omega
      · cases h
    · cases h
  · obtain ⟨ys, hys, heq⟩ := Option.map_eq_some_iff.mp h
    cases heq
    have := (parseAll_spec hys).1
    omega

@[simp] theorem resetChanged_length (os ns : List PollEntry) (rs : List ResultRecord) :
    (resetChanged os ns rs).length = rs.length := by
  induction os generalizing ns rs with
  | nil => rfl
  | cons o os ih =>
    cases ns with
    | nil => rfl
    | cons n ns =>
      cases rs with
      | nil => rfl
      | cons r rs => simp [resetChanged, ih]

/-! ### The effects of a write -/

variable {s t u : State} {line : Bool}

@[simp] theorem resource_frame (p : Station) (b : Option Nat × Option Nat) (s : State) :
    (resource p b s).modeRec = s.modeRec ∧ (resource p b s).poller = s.poller := by
  unfold resource
  simp only
  split <;> simp

@[simp] theorem storeEntries_poller (es : List PollEntry) (s : State) :
    (storeEntries es s).poller = s.poller := by simp [storeEntries]

namespace Work

theorem after_storeRide (h : Work line s false false t) (he : t.Editable) {r : RideTable}
    (hr : r.inRange = true) : Work line s false false (storeRide r t) := by
  have track (x : Tracker) (hl : t.tracker.state = .lost → x.state = .lost)
      (hx : t.tracker.Law t.ride.n → x.Law r.n) :
      Work line s true false (State.retracked { t with ride := r } x) :=
    h.testsDue.dirty (.retrack r x (.inr ⟨he, hr⟩) hl hx)
  unfold storeRide
  simp only
  split
  · next hc =>
    have hsearch := track t.tracker.searchAnew (fun hl => absurd hl hc.2)
      fun _ => Tracker.searchAnew_law
    obtain heq | heq := setTracker_cases t.tracker.searchAnew { t with ride := r } <;> rw [heq]
    · exact hsearch.retest
    · exact hsearch.after_cabinChanged.retest
  · next hc =>
    have hsame : State.retracked { t with ride := r } t.tracker = { t with ride := r } := if_pos rfl
    have hlaw : t.tracker.Law t.ride.n → t.tracker.Law r.n := by
      by_cases hn : r.n = t.ride.n
      · rw [hn]; exact id
      · have hl : t.tracker.state = .lost := by
          by_contra hl
          exact hc ⟨.inl hn, hl⟩
        rintro ⟨-, h2, h3, h4, h5, h6, h7⟩
        exact ⟨by simp [hl], h2, h3, h4, h5, h6, h7⟩
    have hw := h.act (.retrack r t.tracker (.inr ⟨he, hr⟩) id hlaw) (.inr (by rw [hsame]; rfl))
    rwa [hsame] at hw

theorem after_storeCabins (h : Work line s false false t) {first : Nat} {xs : List CabinConfig}
    (hfit : first + xs.length ≤ 64) (hx : ∀ x ∈ xs, x.tag.length = 8 ∧ x.capacity ≤ 40) :
    Work line s false false (storeCabins first xs t) := by
  refine (after_cabinChanged (h.testsDue.withCabins ⟨fun hl => overwrite_length hl ?_, ?_, ?_⟩)).retest
  · simp [hl]; omega
  · intro hg c hc
    rcases mem_overwrite hc with hc | hc
    · obtain ⟨d, -, x, hxm, rfl⟩ := mem_zipWith hc
      exact Cabin.loadFrom_good d (hx x hxm).1 (hx x hxm).2
    · exact hg c hc
  · intro ho
    obtain ⟨c, hc, hp⟩ := List.any_eq_true.mp ho
    rcases mem_overwrite hc with hc | hc
    · obtain ⟨d, -, x, -, rfl⟩ := mem_zipWith hc
      unfold Cabin.loadFrom at hp
      split at hp <;> cases hp
    · exact .inl (List.any_eq_true.mpr ⟨c, hc, hp⟩)

theorem after_storeMasts (h : Work line s false false t) (he : t.Editable) {first : Nat}
    {xs : List MastConfig} (hfit : first + xs.length ≤ 4) :
    Work line s false false (storeMasts first xs t) := by
  refine h.act (.masts _ ⟨fun hl => overwrite_length hl ?_, fun _ hg m hm => ?_⟩ (.inr he)) (.inr rfl)
  · simp [hl]; omega
  · rcases mem_overwrite hm with hm | hm
    · obtain ⟨d, hd, x, -, rfl⟩ := mem_zipWith hm
      exact Mast.configured_good (hg d (List.mem_of_mem_drop hd)) ..
    · exact hg m hm

theorem after_storeEntries (h : Work line s false true t) (he : t.Editable) {es : List PollEntry}
    (hl : t.pollEntries.length = 16 → es.length = 16) :
    Work line s false true (storeEntries es t) := by
  have source {u : State} (hu : Work line s true true u) (q : Station)
      (before : Option Nat × Option Nat) : Work line s true true (resource q before u) :=
    (ite hu (hu.dirty (.station ..))).after_stationFreshness ..
  have h1 : Work line s false true { t with
      pollEntries := es, results := resetChanged t.pollEntries es t.results } :=
    (h.clean (.results (resetChanged t.pollEntries es t.results) (by simp))).outer
      (.entries es he hl) rfl (.inl rfl) (.inr rfl)
  exact ((source (source h1.testsDue .alight _) .board _).withMasts
    (fun _ m hm => Mast.withFreshness_good hm _) fun m => Mast.withFreshness_address _).retest

theorem after_storePoll (h : Work line s false false t) (he : t.Editable) {first : Nat}
    (p : Option PollParams) {xs : List PollEntry} (hfit : first - 1 + xs.length ≤ 16) :
    Work line s false false (storePoll first p xs t) := by
  have h' : Work line s false false { t with pollParams := p.getD t.pollParams } := h.note
  have hw := h'.midway.after_storeEntries (es := overwrite (first - 1) xs t.pollEntries) he
    fun hl => overwrite_length hl hfit
  unfold storePoll cutCycle
  simp only [storeEntries_poller]
  split
  · split
    · exact (hw.poller _).after_startCycle.arrived fun _ => startCycle_pollLaw rfl rfl rfl
    · exact (hw.poller _).arrived fun _ => pollLaw_of_idle rfl rfl rfl
  · next hc =>
    have hp : t.poller.phase = .idle := by simpa [Poller.inCycle] using hc
    refine hw.arrived fun hs => ?_
    obtain ⟨hi, hm⟩ := (h.keeps_pollLaw rfl hs).of_idle hp
    exact pollLaw_of_idle (by simpa) (by simpa) (by simpa)

/-- The elements of a write that fit the table, stored. -/
theorem of_storeElements (h : Work line s false false t) (he : t.Editable) {id : TableId} {first : Nat}
    {es : List (List Byte)} (hfit : first + es.length ≤ id.elements)
    (hsize : id = .cabin → ∀ b ∈ es, b.length = 10) (hu : storeElements id first es t = some u) :
    Work line s false false u := by
  cases id <;> simp only [storeElements, Option.map_eq_some_iff] at hu
  case ride =>
    split at hu <;> cases hu
    next r hr =>
    obtain ⟨b, -, hb⟩ := (parseAll_spec hr).2 r (by simp)
    exact h.after_storeRide he (rideOf_inRange hb)
  case zone =>
    split at hu <;> cases hu
    next z hz =>
    obtain ⟨b, -, hb⟩ := (parseAll_spec hz).2 z (by simp)
    exact h.clean (.zone z he (zoneOf_inRange hb))
  case wind =>
    split at hu <;> cases hu
    next w hw =>
    obtain ⟨b, -, hb⟩ := (parseAll_spec hw).2 w (by simp)
    exact h.act (.windTable w he (windOf_inRange hb)) (.inr rfl)
  all_goals
    obtain ⟨x, hx, rfl⟩ := hu
    simp only [TableId.elements] at hfit
  case cabin =>
    obtain ⟨hlen, hall⟩ := parseAll_spec hx
    refine h.after_storeCabins (by omega) fun c hc => ?_
    obtain ⟨b, hb, hbc⟩ := hall c hc
    obtain ⟨htag, hcap⟩ := cabinOf_spec hbc
    exact ⟨by simp [htag, hsize rfl b hb], hcap⟩
  case mast => exact h.after_storeMasts he (by have := (parseAll_spec hx).1; omega)
  case poll => exact h.after_storePoll he _ (parsePoll_length hx hfit)
  case pass =>
    refine h.clean (.passList _ fun hl => overwrite_length hl ?_)
    have := (parseAll_spec hx).1
    omega
  case profile n =>
    refine h.clean (.profiles _ he fun hl hall => ⟨by simpa using hl, fun p hp => ?_⟩)
    obtain hp | ⟨q, hq, rfl⟩ := mem_modify hp
    · exact hall p hp
    · have := (parseAll_spec hx).1
      exact overwrite_length (hall q (List.mem_of_getElem? hq)) (by omega)

theorem after_serveTableWrite (h : Work line s false false t) (id first : Byte) (data : List Byte) :
    Work line s false false (serveTableWrite id first data t).2 := by
  simp only [serveTableWrite, writeTable]
  split
  · exact h
  · next hm =>
    have hsetup : t.modeRec.mode = .setup := by simpa using hm
    have h' : Work line s false false (markUnchecked t) := h.act (.uncheck hsetup) (.inr rfl)
    split
    · exact h
    · next x hid =>
      split
      · exact h
      · split
        · exact h
        · next es hcut =>
          split
          · exact h
          · next hfit =>
            split
            · exact h
            · next hu =>
              refine h'.of_storeElements ⟨hsetup, rfl⟩ (Nat.le_of_not_lt hfit) ?_ hu
              rintro rfl
              exact cut_cabin_length hcut

end Work

end Sys2Proof.Machine


/-! ## Places of the console queue (R172, R174) -/

namespace Sys2Proof.Machine

set_option Elab.async false

variable {s t u : State} {line due mid : Bool}

theorem charge_congr (hq : t.consoleQueue = s.consoleQueue := by simp)
    (hw : t.waitTag = s.waitTag := by simp) : t.charge = s.charge := by
  simp only [State.charge, hq, hw]

/-- The final reply takes the place that the marker kept (R153). -/
theorem endRun_charge (e : EndStatus) (s : State) : (endRun e s).charge = s.charge := by
  rw [endRun_eq]
  cases h : s.waitTag <;> simp [State.charge, State.finalParts, h]

theorem capture_charge (e : HoldEntry) (s : State) : (capture e s).charge = s.charge := charge_congr

theorem stopEffectsIf_charge (c : Bool) (e : HoldEntry) (s : State) :
    (stopEffectsIf c e s).charge = s.charge := by
  unfold stopEffectsIf stopEffects
  split
  · rw [capture_charge]
    split
    · rw [endRun_charge]; rfl
    · rfl
  · rfl

theorem causeReport_charge (src : HoldSource) (k : Nat) (cls : HoldClass) (sub : Option Nat)
    (s : State) : (causeReport src k cls sub s).charge = s.charge := by
  unfold causeReport addEntry
  split
  · rw [stopEffectsIf_charge]
    split <;> rfl
  · exact stopEffectsIf_charge ..

theorem retracked_charge (x : Tracker) (s : State) : (s.retracked x).charge = s.charge := by
  unfold State.retracked
  split
  · rfl
  · split
    · exact causeReport_charge ..
    · exact causeReport_charge ..
    · exact charge_congr (s := { s with tracker := x })
    · exact causeReport_charge ..

theorem reportWind_charge (s : State) : (reportWind s).charge = s.charge := by
  unfold reportWind
  split
  · exact charge_congr
  · exact charge_congr
  · exact causeReport_charge ..
  · exact causeReport_charge ..

theorem reportMasts_charge (s : State) : (reportMasts s).charge = s.charge := by
  unfold reportMasts
  split
  · exact causeReport_charge ..
  · split
    · exact causeReport_charge ..
    · exact charge_congr

/-- No change of a block takes a place. -/
theorem Act.charge_eq (a : Act s t) : t.charge = s.charge := by
  cases a with
  | endRun e => exact endRun_charge e s
  | report src cause cls subject => exact causeReport_charge ..
  | retrack r x => exact retracked_charge x { s with ride := r }
  | releasePosition e => exact charge_congr
  | windLevel => exact reportWind_charge _
  | mastsCause => exact reportMasts_charge _
  | beginRun tag n repeats wait hr hw => simp [State.charge, acceptRun, hw]
  | station p r => exact charge_congr
  | traceEnd old => exact charge_congr
  | _ => rfl

theorem Work.charge_eq (w : Work line s due mid t) (hl : line = false) : t.charge = s.charge := by
  induction w with
  | refl => rfl
  | act _ a _ ih => rw [a.charge_eq, ih]
  | outer _ _ _ _ hp ih => rw [hp.resolve_left (by simp [hl]), ih]
  | testsDue _ ih => exact ih
  | retest _ ih => exact ih
  | midway _ ih => exact ih
  | arrived _ _ ih => exact ih

/-! ## Requests as chains of changes (R172, R180) -/

namespace Work

theorem ite_served {c : Prop} [Decidable c] {x y : Served} (h : Work line s due mid x.2)
    (h' : Work line s due mid y.2) : Work line s due mid (if c then x else y).2 := by
  split
  · exact h
  · exact h'

theorem after_serveModeSet (h : Work line s false false t) (hp : t.modeRec.restartPending = false)
    (code : Byte) : Work line s false false (serveModeSet code t).2 := by
  have service : Work line s false false (serveModeService t).2 := by
    refine ite_served h ?_
    split
    · exact h
    · next hc => exact h.act (.commit hc hp) (.inr rfl)
  have setup : Work line s false false (serveModeSetup t).2 := by
    refine ite_served h ?_
    split
    · next hm => exact h.act (.toSetup hm) (.inr rfl)
    · exact h
  exact ite_served service (ite_served setup h)

theorem after_serveRestart (h : Work line s false false t) :
    Work line s false false (serveRestart t).2 := by
  unfold serveRestart
  split
  · exact h
  · next hm =>
    have hsetup : t.modeRec.mode = .setup := by cases hx : t.modeRec.mode <;> simp_all
    exact h.act (.restartMark hsetup) (.inr rfl)

theorem confirmedState_offPlatform (n : Nat) : (confirmedState n).onPlatform = false := by
  unfold confirmedState
  split <;> rfl

theorem after_confirmCount (h : Work line s false false t) {k : Nat} (n : Nat) {f : Cabin → Cabin}
    (hs : (t.cabin k).state ≠ .outOfService) (hp : (t.cabin k).state.onPlatform = false)
    (hf : f (t.cabin k) = t.cabin k ∨ f (t.cabin k) = { t.cabin k with unlockedExit := false }) :
    Work line s false false (confirmCount k n f t) := by
  refine (after_cabinChanged (after_latchIf (h.testsDue.withCabin ?_ ?_) ..)).retest
  · intro hg
    rcases hf with hf | hf <;> rw [hf]
    · exact Cabin.counted_good hg hp hs n _
    · exact Cabin.counted_good hg hp hs n false
  · exact fun hx => absurd hx (by simp [confirmedState_offPlatform])

/-- A cabin action that the cabin's state allows (R75, R76). -/
theorem after_serveCabinSet (h : Work line s false false t) (cabin action count : Byte) :
    Work line s false false (serveCabinSet cabin action count t).2 := by
  have reply {k : Nat} {o : Option State} (ho : ∀ u, o = some u → Work line s false false u) :
      Work line s false false (cabinSetReply k t o).2 := by
    cases o with
    | none => exact h
    | some u => exact ho u rfl
  refine ite_served h (ite_served ?_ (ite_served ?_ (ite_served ?_ (ite_served ?_ h)))) <;>
    refine reply fun u hu => ?_
  · simp only [cabinVerify] at hu
    split at hu <;> cases hu
    next hc => exact h.after_confirmCount _ (by simp [hc]) (by rw [hc]; rfl) (.inr rfl)
  · simp only [cabinCorrect] at hu
    split at hu <;> cases hu
    next hc =>
    exact h.after_confirmCount _ (by rcases hc with hc | hc <;> simp [hc])
      (by rcases hc with hc | hc <;> rw [hc] <;> rfl) (.inl rfl)
  · simp only [cabinTakeOut] at hu
    split at hu <;> cases hu
    next hc =>
    refine (after_cabinTakenOut (h.testsDue.withCabin ?_ ?_) _).retest
    · exact fun hg => Cabin.takenOut_good hg hc
    · exact fun hp => by cases hp
  · simp only [cabinReturn] at hu
    split at hu <;> cases hu
    next hc =>
    refine (after_cabinChanged (h.testsDue.withCabin ?_ ?_)).retest
    · exact fun hg => Cabin.returned_good hg hc.1
    · exact fun hp => by cases hp

theorem after_serveHoldPlace (h : Work line s false false t) (code : Byte) :
    Work line s false false (serveHoldPlace code t).2 := by
  unfold serveHoldPlace
  split
  · exact h
  · exact h.after_causeReport (reportable_console _)

theorem after_serveHoldRelease (h : Work line s false false t) (code : Byte) :
    Work line s false false (serveHoldRelease code t).2 := by
  have remove (src : HoldSource) (ho : src ≠ .wind ∧ src ≠ .position) :
      Work line s false false (removeEntry src t) := h.clean (.remove src ho)
  unfold serveHoldRelease
  split
  · exact h
  · split
    · exact h
    · next e he =>
      split
      · exact h
      · exact h
      · exact h
      · split
        · next hl =>
          have h' := h.testsDue.dirty (.releasePosition e he hl)
          exact (ite h'.after_cabinChanged h').retest
        · exact h
      · exact remove _ (by decide)
      · next hw _ _ hp _ => exact ite_served h (remove _ ⟨hw, hp⟩)

theorem after_serveSnapshotTake (h : Work line s false false t) :
    Work line s false false (serveSnapshotTake t).2 := by
  unfold serveSnapshotTake
  split
  · exact h
  · next hu =>
    split
    · exact h
    · have h' := h.clean (.snapTaken hu)
      exact h'

/-- The run accepted and its first step begun; with a wait it keeps a place of the console queue and is
answered later (R141). -/
theorem after_serveProfileRun (h : Work false t false false t) (tag n repeats wait : Byte)
    (hq : t.charge < 16) : Work false t false false (serveProfileRun tag n repeats wait t).2 ∨
      (serveProfileRun tag n repeats wait t).1 = none ∧
        Work true t false false (serveProfileRun tag n repeats wait t).2 := by
  unfold serveProfileRun
  split
  · exact .inl h
  · next hr =>
    by_cases hw : wait = 1
    · subst hw
      refine .inr ⟨rfl, after_beginStep (Work.outer (t := t) .refl
        (.beginWaiting tag n.toNat repeats.toNat hr hq) ?_ (.inr ?_) (.inl rfl)) rfl⟩
      · exact tests_congr rfl rfl rfl rfl
      · exact ⟨rfl, rfl, rfl⟩
    · have hw' : wait.toNat ≠ 1 := fun hx => hw (BitVec.eq_of_toNat_eq hx)
      exact .inl (after_beginStep (h.act (.beginRun tag n.toNat repeats.toNat wait.toNat hr hw')
        (.inr rfl)) rfl)

/-- A request of any kind with any arguments: only an accepted PROFILE RUN that waits takes a place. -/
theorem of_serveKind (hp : t.modeRec.restartPending = false) (hq : t.charge < 16) (k : RequestKind)
    (tag : Byte) (args : List Byte) : Work false t false false (serveKind k tag args t).2 ∨
      (serveKind k tag args t).1 = none ∧ Work true t false false (serveKind k tag args t).2 := by
  have h : Work false t false false t := .refl
  have none0 {f : State → Served} (hf : Work false t false false (f t).2) :
      Work false t false false (serve0 f args t).2 := by
    unfold serve0; split
    · exact hf
    · exact h
  have one {f : Byte → State → Served} (hf : ∀ a, Work false t false false (f a t).2) :
      Work false t false false (serve1 f args t).2 := by
    unfold serve1; split
    · exact hf _
    · exact h
  have two {f : Byte → Byte → State → Served} (hf : ∀ a b, Work false t false false (f a b t).2) :
      Work false t false false (serve2 f args t).2 := by
    unfold serve2; split
    · exact hf ..
    · exact h
  have three {f : Byte → Byte → Byte → State → Served}
      (hf : ∀ a b c, Work false t false false (f a b c t).2) :
      Work false t false false (serve3 f args t).2 := by
    unfold serve3; split
    · exact hf ..
    · exact h
  have rest {f : Byte → Byte → List Byte → State → Served}
      (hf : ∀ a b d, Work false t false false (f a b d t).2) :
      Work false t false false (serveRest f args t).2 := by
    unfold serveRest; split
    · exact hf ..
    · exact h
  cases k with
  | profileRun =>
    simp only [serveKind, serve3]
    split
    · exact h.after_serveProfileRun tag _ _ _ hq
    · exact .inl h
  | statusRead => exact .inl (none0 h.note)
  | modeSet => exact .inl (one (h.after_serveModeSet hp))
  | restart => exact .inl (none0 h.after_serveRestart)
  | tableWrite => exact .inl (rest h.after_serveTableWrite)
  | tableRead => exact .inl (three fun _ _ _ => h)
  | cabinRead => exact .inl (two fun _ _ => ite_served h h)
  | cabinSet => exact .inl (three h.after_serveCabinSet)
  | holdPlace => exact .inl (one h.after_serveHoldPlace)
  | holdRelease => exact .inl (one h.after_serveHoldRelease)
  | holdList => exact .inl (none0 h)
  | snapshotTake => exact .inl (none0 h.after_serveSnapshotTake)
  | profileStop => exact .inl (none0 (ite_served (h.after_endRun _) h))
  | profileStatus => exact .inl (none0 h)
  | windRead => exact .inl (none0 h)
  | traceTake =>
    refine .inl (one fun _ => ite_served h (ite_served h ?_))
    exact h.act (.traceTaken _) (.inr rfl)
  | pollNow => exact .inl (none0 h.after_requestCycle)
  | pollResults => exact .inl (none0 h)

/-- Frames placed in the console queue where there are places for them. -/
theorem queued (h : Work true s due mid t) (q : List Frame)
    (hq : q.length + (if t.waitTag.isSome then 1 else 0) ≤ max 16 t.charge) :
    Work true s due mid { t with consoleQueue := q } :=
  h.outer (.console q hq) rfl (.inr ⟨rfl, rfl, rfl⟩) (.inl rfl)

/-- A request taken where the responder may take one: what it does, and its reply in the 3 places that
are free (R172). -/
theorem after_takeRequest (h : Work true s false false t) (hm : t.mayTake = true) (r : Request) :
    Work true s false false (takeRequest r t) := by
  obtain ⟨hpend, hfree⟩ := Bool.and_eq_true_iff.mp hm
  have hp : t.modeRec.restartPending = false := by simpa using hpend
  have hq : t.charge ≤ 13 := by
    have hplaces : 3 ≤ t.freePlaces := of_decide_eq_true hfree
    unfold State.freePlaces at hplaces
    unfold State.charge
    omega
  have hserve : Work false t false false (serveRequest r t).2 ∨
      (serveRequest r t).1 = none ∧ Work true t false false (serveRequest r t).2 := by
    unfold serveRequest
    split
    · exact .inl .refl
    · exact of_serveKind hp (by omega) ..
  unfold takeRequest placeReply
  rcases hserve with hw | ⟨hnone, hw⟩
  · have hu := h.trans hw
    split
    · next st data _ =>
      have hlen := (replyParts_length_le r.code r.tag st data).2
      refine hu.queued _ ?_
      have hc := hw.charge_eq rfl
      unfold State.charge at hc hq
      simp only [List.length_append]
      omega
    · exact hu
  · rw [hnone]
    exact h.trans hw

theorem withRequests (h : Work line s due mid t) {rs : List Request}
    (hl : rs.length ≤ max 2 t.requests.length) : Work line s due mid { t with requests := rs } :=
  h.clean (.requests rs hl)

theorem after_takeRequests (h : Work true s false false t) (n : Nat) :
    Work true s false false (takeRequests n t) := by
  induction n generalizing t with
  | zero => exact h
  | succ n ih =>
    unfold takeRequests
    split
    · exact h
    · next r rest hr =>
      split
      · next hm =>
        have h' : Work true s false false { t with requests := rest } :=
          h.withRequests (by rw [hr, List.length_cons]; omega)
        exact ih (h'.after_takeRequest hm r)
      · exact h

theorem after_receiveRequest (h : Work true s false false t) (r : Request) :
    Work true s false false (receiveRequest r t) := by
  unfold receiveRequest
  split
  · exact (h.withRequests (by simp; omega)).after_takeRequests _
  · exact h.after_latch _

/-! ### Frames of the lines -/

theorem places_of_hasRoom (h : t.hasRoom = true) :
    t.consoleQueue.length + 1 + (if t.waitTag.isSome then 1 else 0) ≤ 16 := by
  simp only [State.hasRoom, decide_eq_true_eq] at h
  split at h
  · next hw => rw [if_pos hw]; omega
  · next hw => rw [if_neg hw]; omega

theorem after_queueOrFull (h : Work true s due mid t) (f : Frame) :
    Work true s due mid (queueOrFull f t) := by
  unfold queueOrFull
  split
  · next hr => exact h.queued _ (by have := places_of_hasRoom hr; simp; omega)
  · exact h.after_latch _

theorem after_takeFeedback (h : Work true s due false t) (f : FeedbackFields) :
    Work true s false false (takeFeedback f t) := by
  have h' := h.after_feedbackTurns f
  unfold takeFeedback forwardFeedback
  split
  · next hr =>
    have hroom := places_of_hasRoom hr
    split
    · exact h'.queued _ (by simp; omega)
    · have hn : Work true s false false { feedbackTurns f t with
          freeCount := (feedbackTurns f t).freeCount + 1 } := h'.note
      refine hn.queued _ ?_
      split
      · simp only [List.length_append, List.length_take, List.length_drop, List.length_singleton]
        omega
      · simp only [List.length_append, List.length_singleton]
        omega
  · exact h'.after_latch _

theorem after_takeAux (h : Work true s due mid t) (l : Line) (f : Frame) :
    Work true s due mid (takeAux l f t) := by
  have aux : Work true s due mid (queueAux f t) := by
    unfold queueAux
    split
    · next hp => exact h.clean (.auxPlaced f hp)
    · exact h.after_latch _
  refine ite ?_ (h.after_latch _)
  split
  · exact aux
  · exact h.after_queueOrFull f

theorem after_takeSetpoint (h : Work line s due mid t) (v : Word16) :
    Work line s due mid (takeSetpoint v t) := by
  have h1 : Work line s due mid (storeSetpoint v t) := by
    unfold storeSetpoint
    refine after_latchIf ?_ _ _
    exact (h.note : Work line s due mid { t with expiries := if t.modeRec.mode = .service then
      { staleArmed := true, lossArmed := true } else t.expiries }).clean (.req _ rfl)
  have h2 : Work line s due mid (absenceReport .command (storeSetpoint v t)) := by
    unfold absenceReport
    split
    · exact ite h1 (h1.clean (.remove _ (by decide)))
    · exact h1
  unfold takeSetpoint armIfZero
  split
  · exact h2.clean (.req _ rfl)
  · exact h2

theorem after_deliver (h : Work true s false false t) (l : Line) (d : Delivery) :
    Work true s false false (deliver l d t) := by
  cases d with
  | setpoint v => exact h.after_takeSetpoint v
  | feedback f => exact h.after_takeFeedback f
  | request r => exact h.after_receiveRequest r
  | aux f => exact h.after_takeAux l f

theorem after_receiveFrame (h : Work true s false false t) (l : Line) (raw : RawFrame) :
    Work true s false false (receiveFrame l raw t) := by
  unfold receiveFrame
  split
  · exact h.after_fieldFrame raw
  · split
    · exact h.after_latch _
    · exact h.after_deliver l _

/-- Every command is work, or one of the two resets (R165, R167). -/
theorem of_exec {c : Instr} (h : Work true s false false t) (he : exec c t = .next u) :
    Work true s false false u ∨ u = powerOn t ∨ t.modeRec.restartPending = true ∧ u = restart t := by
  cases c with
  | resetn => cases he; exact .inr (.inl rfl)
  | setpoint v => cases he; exact .inl (h.after_takeSetpoint v)
  | feedback f => cases he; exact .inl (h.after_takeFeedback f)
  | auxFrame l kind payload => cases he; exact .inl (h.after_takeAux ..)
  | discardedFrame l raw => cases he; exact .inl (h.after_receiveFrame l raw)
  | answer raw => cases he; exact .inl (h.after_fieldFrame raw)
  | lateAnswer raw => cases he; exact .inl h.after_discardFieldFrame
  | unsolicitedFrame raw => cases he; exact .inl h.after_discardFieldFrame
  | replyWaitExpiry => exact .inl (h.after_execReplyWaitExpiry he)
  | lateWindowEnd => exact .inl (h.after_execLateWindowEnd he)
  | settlingFrameOverrun => exact .inl (h.after_execSettlingFrameOverrun he)
  | poll => exact .inl (h.after_execPoll he)
  | pollTimerExpiry => exact .inl (h.after_execPollTimerExpiry he)
  | drivePeriodExpiry => cases he; exact .inl (h.act .order (.inr rfl))
  | staleExpiry =>
    cases he
    refine .inl (ite ?_ h)
    exact (h.note : Work true s false false { t with
      expiries := { t.expiries with staleArmed := false } }).clean (.req _ rfl)
  | lossExpiry =>
    cases he
    refine .inl (ite ?_ h)
    exact after_causeReport h.note reportable_command
  | feedbackTimeout => cases he; exact .inl (ite h.after_feedbackSilent h)
  | statusPeriodExpiry =>
    cases he
    have h' : Work true s false false
        { t with timers := { t.timers with status := t.after t.ride.statusPeriod } } := h.note
    refine .inl ?_
    split
    · next hr => exact h'.queued _ (by have := places_of_hasRoom hr; simp; omega)
    · exact h'
  | dwellTimerExpiry =>
    cases he
    refine .inl ?_
    split
    · next hr => exact h.after_stepMet hr.1
    · exact h
  | durationTimerExpiry => cases he; exact .inl (ite (h.after_endRun .timeout) h)
  | restartTakesEffect =>
    cases he
    split
    · next hp => exact .inr (.inr ⟨hp, rfl⟩)
    · exact .inl h
  | consoleFrameSent =>
    cases he
    unfold consoleFrameSent
    split
    · exact .inl h
    · next f rest hq =>
      split
      · next hp => exact .inr (.inr ⟨(Bool.and_eq_true_iff.mp hp).1, rfl⟩)
      · refine .inl (after_takeRequests (h.queued rest ?_) _)
        simp only [State.charge, hq, List.length_cons]
        omega
  | driveFrameSent => cases he; exact .inl (h.clean .driveSent)
  | entrySettled => exact .inl (h.after_execEntrySettled he)
  | _ => cases he; exact .inl (h.after_receiveRequest _)

end Work

/-- What a step can do: work of an event, or a reset of the state with the queue's rest. -/
theorem step_work (h : step s = .next t) : Work true s false false t ∨
    ∃ u, Work true s false false u ∧
      (t = powerOn u ∨ u.modeRec.restartPending = true ∧ t = restart u) := by
  have run {c : Instr} {u : State} (hu : Work true s false false u) (he : exec c u = .next t) :
      Work true s false false t ∨ ∃ u, Work true s false false u ∧
        (t = powerOn u ∨ u.modeRec.restartPending = true ∧ t = restart u) :=
    (hu.of_exec he).imp_right fun hr => ⟨u, hu, hr⟩
  have h0 : Work true s false false s := .refl
  unfold step at h
  split at h
  · exact run h0.note h
  · split at h
    · next c u hd =>
      unfold nextDue at hd
      split at hd <;> cases hd
      · exact run h0 h
      · exact run h0.note h
    · cases h
      exact .inl h0.note

end Sys2Proof.Machine


/-! ## Tables, modes and cabins through every step (R157, R161, R48, R46, R65) -/

namespace Sys2Proof.Machine

set_option Elab.async false

variable {s t : State}

/-! ### Tables and modes -/

/-- Checks 1 to 10 read the tables, and of the MAST table the addresses alone (R162). -/
theorem tableChecks_congr (hr : t.ride = s.ride) (hz : t.zone = s.zone)
    (hw : t.windTable = s.windTable) (he : t.pollEntries = s.pollEntries)
    (hm : t.masts.map (fun m => m.address) = s.masts.map (fun m => m.address))
    (hp : t.profiles = s.profiles) : t.tableChecks = s.tableChecks := by
  have haddr (l : List Mast) : (l.filter fun m => m.address != 0).map (fun m => m.address) =
      (l.map fun m => m.address).filter fun a => a != 0 := by
    rw [List.filter_map]
    rfl
  have hcheck (n : Nat) : pollCheck t.walked t.masts n = pollCheck s.walked s.masts n := by
    simp only [pollCheck, haddr, hm, State.walked, he]
  simp only [State.tableChecks, State.commitChecks, hcheck, hr, hz, hw, hp, List.take_succ_cons,
    List.take_zero]

theorem TableInv.congr (h : TableInv s) (hc : t.tableChecks = s.tableChecks)
    (hm : t.modeRec = s.modeRec := by simp) : TableInv t := by
  unfold TableInv
  rwa [hm, hc]

/-- A change that leaves the tables. -/
theorem TableInv.sameTables (h : TableInv s) (hm : t.modeRec = s.modeRec := by simp)
    (hr : t.ride = s.ride := by simp) (hz : t.zone = s.zone := by simp)
    (hw : t.windTable = s.windTable := by simp) (he : t.pollEntries = s.pollEntries := by simp)
    (ha : t.masts = s.masts := by simp) (hp : t.profiles = s.profiles := by simp) : TableInv t :=
  h.congr (tableChecks_congr hr hz hw he (by rw [ha]) hp) hm

/-- While the tables are being written they are UNCHECKED. -/
theorem TableInv.edited (h : TableInv s) (e : s.Editable) (hm : t.modeRec = s.modeRec := by simp) :
    TableInv t := by
  obtain ⟨hs, hc⟩ := e
  obtain ⟨-, -, h3⟩ := h
  unfold TableInv
  rw [hm]
  simp [hs, hc]

theorem all_of_firstFailure {k : Nat} {l : List Bool} (h : firstFailure k l = none) :
    l.all id = true := by
  induction l generalizing k with
  | nil => rfl
  | cons c l ih =>
    unfold firstFailure at h
    split at h
    · next hc => simp [hc, ih h]
    · cases h

theorem tableChecks_of_commit (h : TableInv s) (hf : s.commitFailure = none) :
    s.tableChecks.all id = true := by
  unfold State.commitFailure at hf
  split at hf
  · next hc => exact h.2.1 hc
  · have hall := List.all_eq_true.mp (all_of_firstFailure hf)
    exact List.all_eq_true.mpr fun c hc => hall c (List.mem_of_mem_take hc)

theorem Act.keeps_table (h : TableInv s) (a : Act s t) : TableInv t := by
  cases a with
  | retrack r x ride =>
    rcases ride with rfl | ⟨he, -⟩
    · exact h.sameTables
    · exact h.edited he
  | masts ms _ addresses =>
    rcases addresses with ha | he
    · exact h.congr (tableChecks_congr rfl rfl rfl rfl ha rfl) rfl
    · exact h.edited he rfl
  | zone _ he => exact h.edited he rfl
  | profiles _ he => exact h.edited he rfl
  | windTable _ he => exact h.edited he rfl
  | uncheck hs =>
    exact ⟨fun hm => absurd (hs.symm.trans hm) (by decide), fun hc => (by cases hc), h.2.2⟩
  | commit passes pending =>
    have hchecks := tableChecks_of_commit h passes
    exact ⟨fun _ => rfl, fun _ => hchecks,
      fun hp => absurd (pending.symm.trans hp) (by decide)⟩
  | toSetup may => exact ⟨fun hm => by (cases hm), h.2.1, fun _ => rfl⟩
  | restartMark hs => exact ⟨h.1, h.2.1, fun _ => hs⟩
  | _ => exact h.sameTables

theorem OuterAct.keeps_table (h : TableInv s) (a : OuterAct s t) : TableInv t := by
  cases a with
  | entries _ he => exact h.edited he rfl
  | _ => exact h.sameTables

/-! ### Cabins -/

theorem CabinInv.congr (h : CabinInv s) (hc : t.cabins = s.cabins := by simp)
    (hm : t.modeRec = s.modeRec := by simp) (ht : t.tracker = s.tracker := by simp) : CabinInv t := by
  unfold CabinInv State.occupied
  rwa [hc, hm, ht]

theorem CabinInv.of_kept (h : CabinInv s) (k : CabinsKept s t.cabins)
    (hm : t.modeRec = s.modeRec := by simp) (ht : t.tracker = s.tracker := by simp) : CabinInv t := by
  obtain ⟨hlen, hgood, hocc⟩ := h
  refine ⟨k.length hlen, k.good hgood, fun ho => ?_⟩
  rw [hm, ht]
  rcases k.occupied ho with ho | ⟨hs, hl⟩
  · exact hocc ho
  · exact ⟨hs, .inl hl⟩

theorem CabinsKept.same : CabinsKept s s.cabins := ⟨id, id, .inl⟩

/-- An entry bar on some of the cabins in BOARDING (R62). -/
theorem CabinsKept.barred (p : Prop) [Decidable p] : CabinsKept s (s.cabins.map fun c =>
    if p ∧ c.state = .boarding then { c with entryBarred := true } else c) := by
  by_cases hp : p
  · simp only [hp, true_and]
    exact .map (fun c _ h => Cabin.barred_good h) fun c _ hc => by split at hc <;> exact hc
  · simp only [hp, false_and, if_false, List.map_id']
    exact .same

/-- A cause report bars cabins at most. -/
theorem causeReport_cabinsKept (src : HoldSource) (k : Nat) (cls : HoldClass) (sub : Option Nat)
    (s : State) : CabinsKept s (causeReport src k cls sub s).cabins := by
  cases h : s.entry src with
  | none =>
    rw [causeReport_new h, addEntry_eq]
    split <;> exact .barred _
  | some old =>
    rw [causeReport_old h]
    simp only [stopEffectsIf_frame, putEntry_frame]
    exact .same

theorem CabinInv.report (h : CabinInv s) (src : HoldSource) (k : Nat) (cls : HoldClass)
    (sub : Option Nat) : CabinInv (causeReport src k cls sub s) :=
  h.of_kept (causeReport_cabinsKept ..)

theorem CabinInv.reportWind (h : CabinInv s) : CabinInv (reportWind s) := by
  unfold Machine.reportWind
  split
  · exact h.congr
  · exact h.congr
  · exact h.report ..
  · exact h.report ..

theorem CabinInv.reportMasts (h : CabinInv s) : CabinInv (reportMasts s) := by
  unfold Machine.reportMasts
  split
  · exact h.report ..
  · split
    · exact h.report ..
    · exact h.congr

/-- A conversion leaves no cabin on the platform (R46). -/
theorem CabinInv.offPlatform (hl : s.cabins.length = 64) (hg : ∀ c ∈ s.cabins, c.good = true) :
    CabinInv s.offPlatform := by
  refine ⟨CabinsKept.converted.length hl, CabinsKept.converted.good hg, fun ho => ?_⟩
  simp only [State.occupied, State.offPlatform, List.any_map, List.any_eq_true, Function.comp,
    Cabin.converted_offPlatform, Bool.false_eq_true, and_false, exists_false] at ho

/-- A tracker that leaves LOCKED and COASTING converts the cabins of the platform (R46). -/
theorem CabinInv.retracked (h : CabinInv s) (r : RideTable) (x : Tracker) :
    CabinInv (State.retracked { s with ride := r } x) := by
  obtain ⟨hl, hg, ho⟩ := h
  have conv (k : Nat) (cls : HoldClass) :
      CabinInv (causeReport .position k cls none { s with ride := r, tracker := x }).offPlatform :=
    have kept := causeReport_cabinsKept .position k cls none { s with ride := r, tracker := x }
    .offPlatform (kept.length hl) (kept.good hg)
  have tracking (hx : x.state = .locked ∨ x.state = .coasting) :
      s.occupied = true → s.modeRec.mode = .service ∧
        (s.tracker.state = .locked ∨ s.tracker.state = .coasting) →
        s.modeRec.mode = .service ∧ (x.state = .locked ∨ x.state = .coasting) := fun _ hs => ⟨hs.1, hx⟩
  unfold State.retracked
  split
  · next hx =>
    refine ⟨hl, hg, fun hocc => ?_⟩
    simp only at hx ⊢
    rw [hx]
    exact ho hocc
  · split
    · exact conv ..
    · next hx =>
      have h' : CabinInv { s with ride := r, tracker := x } :=
        ⟨hl, hg, fun hocc => ⟨(ho hocc).1, .inr hx⟩⟩
      exact h'.report ..
    · next hx =>
      have h' : CabinInv { s with ride := r, tracker := x } :=
        ⟨hl, hg, fun hocc => ⟨(ho hocc).1, .inl hx⟩⟩
      exact h'.congr
    · exact conv ..

theorem Act.keeps_cabin (h : CabinInv s) (a : Act s t) : CabinInv t := by
  cases a with
  | report src cause cls subject => exact h.report ..
  | cabins cs kept => exact h.of_kept kept
  | retrack r x => exact h.retracked r x
  | releasePosition e => exact .offPlatform h.1 h.2.1
  | windLevel =>
    have h' : CabinInv { s with wind := s.windAfter } := h
    exact h'.reportWind
  | mastsCause => exact h.reportMasts
  | commit =>
    obtain ⟨hl, hg, ho⟩ := h
    exact ⟨hl, hg, fun hocc => ⟨rfl, (ho hocc).2⟩⟩
  | toSetup may =>
    obtain ⟨hl, hg, -⟩ := h
    simp only [State.mayReturnToSetup, Bool.and_eq_true, Bool.not_eq_true'] at may
    exact ⟨hl, hg, fun hocc => by simpa [may.1.2] using (show s.occupied = true from hocc)⟩
  | uncheck | windTable | restartMark => exact h
  | _ => exact h.congr

theorem OuterAct.keeps_cabin (h : CabinInv s) (a : OuterAct s t) : CabinInv t := by
  cases a with
  | beginWaiting => exact h.congr
  | console | poll | entries => exact h

/-! ### The resets -/

theorem powerOn_cabinInv (s : State) : CabinInv (powerOn s) := by
  refine ⟨rfl, fun c hc => ?_, fun ho => ?_⟩
  · rw [List.eq_of_mem_replicate hc]
    rfl
  · exact absurd ho (by simp [State.occupied, powerOn, State.reset, Cabin.notLoaded,
      CabinState.onPlatform])

/-- A restart takes effect in SETUP, where no cabin is on the platform (R50, R166). -/
theorem restart_cabinInv (h : CabinInv s) (ht : TableInv s) (hp : s.modeRec.restartPending = true) :
    CabinInv (restart s) := by
  obtain ⟨hl, hg, ho⟩ := h
  have hfree : ¬ s.occupied = true := fun hocc =>
    absurd ((ht.2.2 hp).symm.trans (ho hocc).1) (by decide)
  have hoff {c : Cabin} (hc : c ∈ s.cabins) : c.state.onPlatform = false := by
    by_contra hx
    exact hfree (List.any_eq_true.mpr ⟨c, hc, by simpa using hx⟩)
  refine ⟨by simpa [restart] using hl, fun x hx => ?_, fun hocc => ?_⟩
  · obtain ⟨c, hc, rfl⟩ := List.mem_map.mp hx
    exact Cabin.restarted_good (hg c hc) (hoff hc)
  · refine absurd ?_ hfree
    simpa [State.occupied, restart, Cabin.restarted] using hocc

theorem work_keeps_cabin_table {line due mid : Bool} (w : Work line s due mid t)
    (h : CabinInv s ∧ TableInv s) : CabinInv t ∧ TableInv t :=
  w.keeps (P := fun u => CabinInv u ∧ TableInv u) (fun h a => ⟨a.keeps_cabin h.1, a.keeps_table h.2⟩)
    (fun h a => ⟨a.keeps_cabin h.1, a.keeps_table h.2⟩) h

/-- Settles O9, by what each change of an event keeps of the cabin records and the tables. -/
theorem cabinLawKept : Obligations.CabinLawKept := by
  intro s t hc ht hstep
  rcases step_work hstep with w | ⟨u, w, rfl | ⟨hp, rfl⟩⟩
  · exact (work_keeps_cabin_table w ⟨hc, ht⟩).1
  · exact powerOn_cabinInv u
  · obtain ⟨hc', ht'⟩ := work_keeps_cabin_table w ⟨hc, ht⟩
    exact restart_cabinInv hc' ht' hp

end Sys2Proof.Machine


/-! ## Queues, orders, runs and snapshots through every step (R6, R11, R133, R139, R172 to R176) -/

namespace Sys2Proof.Machine

set_option Elab.async false

variable {s t : State}

/-! ### Queues -/

/-- The law of the drive line's queue (R176). -/
def DriveQueue.Law (q : DriveQueue) : Prop :=
  q.aux.length ≤ 3 ∧ (q.sending = .order → q.order.isSome = true) ∧ (q.sending = .aux → q.aux ≠ [])

theorem queueInv_iff : QueueInv s ↔ s.charge ≤ 16 ∧ s.requests.length ≤ 2 ∧ s.driveQueue.Law := Iff.rfl

namespace DriveQueue

variable {q : DriveQueue}

theorem started_law (hl : q.aux.length ≤ 3) (h : q.sending ≠ .free → q.Law) : q.started.Law := by
  unfold started
  split
  · unfold Law
    cases ho : q.order with
    | some f => simp [hl]
    | none => cases ha : q.aux <;> simp_all
  · next hs => exact h (fun hf => hs hf)

theorem withOrder_law (h : q.Law) (f : Frame) : (q.withOrder f).Law :=
  started_law h.1 fun _ => ⟨h.1, fun _ => rfl, h.2.2⟩

theorem withAux_law (h : q.Law) (f : Frame) (hp : q.aux.length < 3) :
    (started { q with aux := q.aux ++ [f] }).Law := by
  have hl : (q.aux ++ [f]).length ≤ 3 := by simpa using hp
  exact started_law hl fun _ => ⟨hl, h.2.1, fun _ => by simp⟩

theorem sent_law (h : q.Law) : q.sent.Law := by
  unfold sent
  split
  · exact started_law h.1 fun _ => h
  · exact started_law h.1 fun hs => absurd rfl hs
  · have hl : (q.aux.drop 1).length ≤ 3 := by
      rw [List.length_drop]
      exact (Nat.sub_le ..).trans h.1
    exact started_law hl fun hs => absurd rfl hs

end DriveQueue

theorem QueueInv.congr (h : QueueInv s) (hc : t.charge = s.charge)
    (hr : t.requests = s.requests := by simp) (hd : t.driveQueue = s.driveQueue := by simp) :
    QueueInv t := by
  rw [queueInv_iff] at h ⊢
  rwa [hc, hr, hd]

theorem Act.keeps_queue (h : QueueInv s) (a : Act s t) : QueueInv t := by
  have hc := a.charge_eq
  have hd : s.driveQueue.Law := (queueInv_iff.mp h).2.2
  cases a with
  | requests rs length => exact ⟨h.1, length.trans (max_le le_rfl h.2.1), hd⟩
  | order => exact ⟨h.1, h.2.1, DriveQueue.withOrder_law hd _⟩
  | auxPlaced f place => exact ⟨h.1, h.2.1, DriveQueue.withAux_law hd f place⟩
  | driveSent => exact ⟨h.1, h.2.1, DriveQueue.sent_law hd⟩
  | commit | toSetup | windTable | uncheck => exact h
  | _ => exact h.congr hc

theorem OuterAct.keeps_queue (h : QueueInv s) (a : OuterAct s t) : QueueInv t := by
  cases a with
  | console q places =>
    obtain ⟨hq, hr, hd⟩ := queueInv_iff.mp h
    exact queueInv_iff.mpr ⟨places.trans (by omega), hr, hd⟩
  | beginWaiting tag n repeats accepted place =>
    obtain ⟨-, hr, hd⟩ := queueInv_iff.mp h
    refine queueInv_iff.mpr ⟨?_, by simpa using hr, by simpa using hd⟩
    have : s.consoleQueue.length < 16 := by unfold State.charge at place; omega
    simpa [State.charge, acceptRun] using this
  | poll | entries => exact h

/-! ### The drive gate -/

theorem SpeedInv.congr (h : SpeedInv s) (ho : t.out = s.out := by simp) (hr : t.ride = s.ride := by simp)
    (hm : t.modeRec = s.modeRec := by simp) : SpeedInv t := by
  unfold SpeedInv
  rwa [ho, hr, hm]

/-- An order's V keeps to the limits: it moves toward a target within the ceilings (R7, R8, R10). -/
theorem nextV_bounds (h : SpeedInv s) : -(1000 * (s.ride.reverseLimit : Int)) ≤ s.nextV ∧
    s.nextV ≤ 1000 * (s.ride.maxSpeed : Int) := by
  obtain ⟨-, hlo, hhi, -⟩ := h
  have hf := (forwardCeiling_isLeast s).2 s.ride.maxSpeed (by simp)
  have hr : s.reverseCeiling ≤ s.ride.reverseLimit := by
    have hle := (reverseCeiling_isLeast s).2
    split at hle
    · exact (hle 0 (by simp)).trans (Nat.zero_le _)
    · exact hle _ (by simp)
  have ht : -(s.reverseCeiling : Int) ≤ s.target ∧ s.target ≤ s.forwardCeiling := by
    unfold State.target clamp
    omega
  obtain ⟨-, hmin, hmax⟩ := moveV_between s.fb.brake s.out.v (targetV s.out.v s.target)
    (s.rate (targetV s.out.v s.target) * s.ride.period)
  have hvt : -(1000 * (s.ride.reverseLimit : Int)) ≤ targetV s.out.v s.target ∧
      targetV s.out.v s.target ≤ 1000 * (s.ride.maxSpeed : Int) := by
    unfold targetV
    split <;> omega
  unfold State.nextV
  omega

theorem driveOrder_speedInv (h : SpeedInv s) : SpeedInv (driveOrder s) := by
  have hb := nextV_bounds h
  cases hm : s.modeRec.mode with
  | setup =>
    unfold SpeedInv
    rw [driveOrder_out, orderRecord_setup hm]
    refine ⟨rfl, ?_, ?_, fun _ => rfl⟩
    · simp
    · simp
  | service =>
    unfold SpeedInv
    rw [driveOrder_out, orderRecord_service hm]
    exact ⟨rfl, hb.1, hb.2, fun hs => absurd (hm.symm.trans hs) (by decide)⟩

theorem Act.keeps_speed (h : SpeedInv s) (a : Act s t) : SpeedInv t := by
  obtain ⟨hround, hlo, hhi, hsetup⟩ := h
  cases a with
  | order => exact driveOrder_speedInv ⟨hround, hlo, hhi, hsetup⟩
  | retrack r x ride =>
    rcases ride with rfl | ⟨⟨hs, -⟩, -⟩
    · exact SpeedInv.congr ⟨hround, hlo, hhi, hsetup⟩
    · have hv := hsetup hs
      have h' : SpeedInv { s with ride := r } :=
        ⟨hround, by simp only [hv]; omega, by simp only [hv]; omega, hsetup⟩
      exact h'.congr
  | commit => exact ⟨hround, hlo, hhi, fun hm => by cases hm⟩
  | toSetup may =>
    simp only [State.mayReturnToSetup, Bool.and_eq_true, decide_eq_true_eq] at may
    obtain ⟨⟨⟨hzero, -⟩, -⟩, -⟩ := may
    exact ⟨hround, hlo, hhi, fun _ => hzero⟩
  | uncheck | windTable | restartMark => exact ⟨hround, hlo, hhi, hsetup⟩
  | _ => exact SpeedInv.congr ⟨hround, hlo, hhi, hsetup⟩

theorem OuterAct.keeps_speed (h : SpeedInv s) (a : OuterAct s t) : SpeedInv t := by
  cases a with
  | beginWaiting => exact h.congr
  | console | poll | entries => exact h

/-! ### What a cause report does to the run and the snapshots (R126) -/

/-- A state that differs from another in neither the run nor the snapshots. -/
def RunSame (s t : State) : Prop :=
  t.run = s.run ∧ t.req = s.req ∧ t.waitTag = s.waitTag ∧ t.snaps = s.snaps ∧ t.modeRec = s.modeRec

/-- A report either brings no STOP into the list, or its entry has the effects of one. -/
theorem causeReport_cases (src : HoldSource) (k : Nat) (cls : HoldClass) (sub : Option Nat)
    (s : State) : ∃ u e, RunSame s u ∧
      ((causeReport src k cls sub s = u ∧ (u.hasStop = true → s.hasStop = true)) ∨
        causeReport src k cls sub s = u.stopped e) := by
  cases h : s.entry src with
  | none =>
    rw [causeReport_new h, addEntry_eq]
    refine ⟨s.withEntry ⟨src, cls, k, sub, s.ms, latchedForm src k, presentFlag src s.causes⟩,
      ⟨src, cls, k, sub, s.ms, latchedForm src k, presentFlag src s.causes⟩, ⟨rfl, rfl, rfl, rfl, rfl⟩, ?_⟩
    split
    · exact .inr rfl
    · next hc =>
      refine .inl ⟨rfl, fun hs => ?_⟩
      simpa [State.hasStop, State.withEntry, hc] using hs
  | some old =>
    rw [causeReport_old h]
    refine ⟨putEntry (reportedEntry old k cls sub) s, reportedEntry old k cls sub,
      ⟨rfl, rfl, rfl, rfl, rfl⟩, ?_⟩
    rw [stopEffectsIf, stopEffects_eq]
    split
    · exact .inr rfl
    · next hc =>
      refine .inl ⟨rfl, fun hs => ?_⟩
      simp only [Bool.and_eq_true, bne_iff_ne, beq_iff_eq, not_and] at hc
      obtain ⟨x, hx, hstop⟩ := List.any_eq_true.mp hs
      obtain ⟨y, hy, rfl⟩ := List.mem_map.mp hx
      refine List.any_eq_true.mpr ?_
      split at hstop
      · by_cases ho : old.cls = .stop
        · exact ⟨old, (entry_source h).2, by simp [ho]⟩
        · exact absurd (beq_iff_eq.mp hstop) (hc ho)
      · exact ⟨y, hy, hstop⟩

/-! ### Runs -/

theorem RunInv.congr (h : RunInv s) (hq : t.req = s.req := by simp) (hr : t.run = s.run := by simp)
    (hw : t.waitTag = s.waitTag := by simp) (hm : t.modeRec = s.modeRec := by simp)
    (hh : t.hasStop = true → s.hasStop = true := by simp [State.hasStop]) : RunInv t := by
  obtain ⟨h1, h2, h3, h4, h5⟩ := h
  unfold RunInv
  rw [hq, hr, hw, hm]
  refine ⟨h1, fun hrun => ⟨(h2 hrun).1, ?_⟩, h3, h4, h5⟩
  exact Bool.eq_false_iff.mpr fun hs => Bool.eq_false_iff.mp (h2 hrun).2 (hh hs)

theorem RunInv.ended (hr : t.run.running = false) (hs : t.req.source = .console)
    (hd : t.run.durationTimer = none) (hw : t.run.dwellTimer = none) (ht : t.waitTag = none) :
    RunInv t := by
  simp [RunInv, hr, hs, hd, hw, ht]

/-- A STOP ends the run (R126, R150). -/
theorem RunInv.stopped (h : RunInv s) {u : State} (hu : RunSame s u) (e : HoldEntry) :
    RunInv (u.stopped e) := by
  obtain ⟨h1, h2, h3, h4, h5⟩ := h
  obtain ⟨hrun, hreq, hwait, -⟩ := hu
  unfold RunInv State.stopped
  rw [hrun, hreq, hwait]
  cases hr : s.run.running <;> simp_all

theorem RunInv.report (h : RunInv s) (src : HoldSource) (k : Nat) (cls : HoldClass)
    (sub : Option Nat) : RunInv (causeReport src k cls sub s) := by
  obtain ⟨u, e, hu, ⟨heq, hstop⟩ | heq⟩ := causeReport_cases src k cls sub s
  · obtain ⟨hr, hq, hw, -, hm⟩ := hu
    rw [heq]
    exact h.congr hq hr hw hm hstop
  · rw [heq]
    exact h.stopped hu e

theorem RunInv.removed (h : RunInv s) (src : HoldSource) : RunInv (removeEntry src s) := by
  refine h.congr (hh := fun hs => ?_)
  obtain ⟨e, he, hstop⟩ := List.any_eq_true.mp hs
  exact List.any_eq_true.mpr ⟨e, (List.mem_filter.mp he).1, hstop⟩

theorem RunInv.absent (h : RunInv s) (src : HoldSource) : RunInv (absenceReport src s) := by
  unfold absenceReport
  split
  · split
    · exact h
    · exact h.removed src
  · exact h

theorem RunInv.retracked (h : RunInv s) (x : Tracker) : RunInv (s.retracked x) := by
  have h' : RunInv { s with tracker := x } := h
  unfold State.retracked
  split
  · exact h'
  · split
    · exact h'.report .position 1 .creep none
    · exact h'.report ..
    · exact h'.absent _
    · exact h'.report .position 3 .stop none

theorem RunInv.begun {u : State} (hr : u.run.running = true) (hq : u.req.source = .profile)
    (hm : u.modeRec.mode = .service) (hs : u.hasStop = false) : RunInv (startStep u) := by
  have hs' : (startStep u).hasStop = false := by simpa [State.hasStop] using hs
  simp [RunInv, hr, hq, hm, hs']

/-- An accepted PROFILE RUN finds SERVICE and no STOP entry (R140). -/
theorem runRefusal_none {n wait : Nat} (h : s.runRefusal n wait = none) :
    s.modeRec.mode = .service ∧ s.run.running = false ∧ s.hasStop = false := by
  unfold State.runRefusal at h
  split at h
  · cases h
  · split at h
    · cases h
    · next hm =>
      split at h
      · cases h
      · next hr =>
        split at h
        · cases h
        · next hs =>
          rw [not_or] at hs
          exact ⟨not_not.mp hm, by simpa using hr, by simpa using hs.1⟩

theorem acceptRun_runInv {tag : Byte} {n repeats wait : Nat} (h : s.runRefusal n wait = none) :
    RunInv (startStep (acceptRun tag n repeats wait s)) := by
  obtain ⟨hm, -, hs⟩ := runRefusal_none h
  exact .begun rfl rfl hm hs

theorem Act.keeps_run (h : RunInv s) (a : Act s t) : RunInv t := by
  cases a with
  | req r source =>
    unfold RunInv
    rwa [source]
  | run r running duration dwell =>
    unfold RunInv
    rwa [running, duration, dwell]
  | startStep running =>
    obtain ⟨h1, h2, -⟩ := h
    exact .begun running (h1.mpr running) (h2 running).1 (h2 running).2
  | endRun e =>
    rw [endRun_eq]
    exact .ended rfl rfl rfl rfl rfl
  | beginRun tag n repeats wait accepted => exact acceptRun_runInv accepted
  | retest => exact h.congr (hh := fun hs => by simpa [State.hasStop, Function.comp_def] using hs)
  | report src cause cls subject => exact h.report ..
  | remove src => exact h.removed src
  | retrack r x =>
    have h' : RunInv { s with ride := r } := h
    exact h'.retracked x
  | releasePosition e =>
    refine h.congr (hh := fun hs => ?_)
    obtain ⟨x, hx, hstop⟩ := List.any_eq_true.mp hs
    obtain ⟨y, hy, rfl⟩ := List.mem_map.mp hx
    split at hstop
    · exact absurd hstop (by simp [creepForm])
    · exact List.any_eq_true.mpr ⟨y, hy, hstop⟩
  | windLevel =>
    have h' : RunInv { s with wind := s.windAfter } := h
    unfold reportWind
    split
    · exact h'.absent _
    · exact h'.absent _
    · exact h'.report ..
    · exact h'.report ..
  | mastsCause =>
    unfold reportMasts
    split
    · exact h.report ..
    · split
      · exact h.report ..
      · exact h.absent _
  | order =>
    have hrun : (driveOrder s).run.running = s.run.running ∧
        (driveOrder s).run.durationTimer = s.run.durationTimer ∧
        (driveOrder s).run.dwellTimer = s.run.dwellTimer := by
      simp only [driveOrder]
      split <;> exact ⟨rfl, rfl, rfl⟩
    unfold RunInv
    rw [hrun.1, hrun.2.1, hrun.2.2]
    exact h
  | commit =>
    obtain ⟨h1, h2, h3, h4, h5⟩ := h
    exact ⟨h1, fun hr => ⟨rfl, (h2 hr).2⟩, h3, h4, h5⟩
  | toSetup may =>
    obtain ⟨h1, h2, h3, h4, h5⟩ := h
    simp only [State.mayReturnToSetup, Bool.and_eq_true, Bool.not_eq_true'] at may
    exact ⟨h1, fun hr => absurd (may.2.symm.trans hr) (by decide), h3, h4, h5⟩
  | uncheck | windTable | restartMark => exact h
  | _ => exact h.congr

theorem OuterAct.keeps_run (h : RunInv s) (a : OuterAct s t) : RunInv t := by
  cases a with
  | beginWaiting tag n repeats accepted => exact acceptRun_runInv accepted
  | console | poll | entries => exact h

/-! ### Snapshots -/

/-- The snapshot indices with the slots that hold one (R133). -/
def SlotLaw (slot0 slot1 : Bool) (w r : BitVec 2) : Prop :=
  (w - r).toNat ≤ 2 ∧ (1 ≤ (w - r).toNat → (if r.getLsbD 0 then slot1 else slot0) = true) ∧
  ((w - r).toNat = 2 → (if (r + 1).getLsbD 0 then slot1 else slot0) = true)

theorem snapInv_iff : SnapInv s ↔
    SlotLaw s.snaps.slot0.isSome s.snaps.slot1.isSome s.snaps.w s.snaps.r := by
  simp only [SnapInv, SlotLaw, SnapshotSlots.unread, SnapshotSlots.slot, apply_ite Option.isSome]

/-- A capture with room takes the next slot (R133). -/
theorem SlotLaw.captured : ∀ {a b : Bool} {w r : BitVec 2}, SlotLaw a b w r → (w - r).toNat < 2 →
    SlotLaw (!w.getLsbD 0 || a) (w.getLsbD 0 || b) (w + 1) r := by
  unfold SlotLaw
  decide

/-- A capture without room takes the place of the newer snapshot (R134). -/
theorem SlotLaw.superseded : ∀ {a b : Bool} {w r : BitVec 2}, SlotLaw a b w r →
    SlotLaw (!(w - 1).getLsbD 0 || a) ((w - 1).getLsbD 0 || b) w r := by
  unfold SlotLaw
  decide

theorem SlotLaw.taken : ∀ {a b : Bool} {w r : BitVec 2}, SlotLaw a b w r → (w - r).toNat ≠ 0 →
    SlotLaw a b w (r + 1) := by
  unfold SlotLaw
  decide

theorem SnapInv.stopped (h : SnapInv s) {u : State} (hu : RunSame s u) (e : HoldEntry) :
    SnapInv (u.stopped e) := by
  obtain ⟨-, -, -, hsnap, -⟩ := hu
  rw [snapInv_iff] at h ⊢
  simp only [State.stopped, hsnap]
  by_cases hfull : 2 ≤ (s.snaps.w - s.snaps.r).toNat
  · have h' := h.superseded
    simp only [hfull, decide_true, if_true]
    cases hb : (s.snaps.w - 1).getLsbD 0 <;> rw [hb] at h' <;> exact h'
  · have h' := h.captured (Nat.lt_of_not_le hfull)
    simp only [hfull, decide_false, Bool.false_eq_true, if_false]
    cases hb : s.snaps.w.getLsbD 0 <;> rw [hb] at h' <;> exact h'

theorem SnapInv.congr (h : SnapInv s) (hs : t.snaps = s.snaps := by simp) : SnapInv t := by
  unfold SnapInv
  rwa [hs]

theorem SnapInv.report (h : SnapInv s) (src : HoldSource) (k : Nat) (cls : HoldClass)
    (sub : Option Nat) : SnapInv (causeReport src k cls sub s) := by
  obtain ⟨u, e, hu, ⟨heq, -⟩ | heq⟩ := causeReport_cases src k cls sub s
  · obtain ⟨-, -, -, hsnap, -⟩ := hu
    rw [heq]
    exact h.congr hsnap
  · rw [heq]
    exact h.stopped hu e

theorem SnapInv.retracked (h : SnapInv s) (x : Tracker) : SnapInv (s.retracked x) := by
  have h' : SnapInv { s with tracker := x } := h
  unfold State.retracked
  split
  · exact h'
  · split
    · exact h'.report .position 1 .creep none
    · exact h'.report ..
    · exact h'.congr
    · exact h'.report .position 3 .stop none

theorem Act.keeps_snap (h : SnapInv s) (a : Act s t) : SnapInv t := by
  cases a with
  | report src cause cls subject => exact h.report ..
  | retrack r x =>
    have h' : SnapInv { s with ride := r } := h
    exact h'.retracked x
  | windLevel =>
    have h' : SnapInv { s with wind := s.windAfter } := h
    unfold reportWind
    split
    · exact h'.congr
    · exact h'.congr
    · exact h'.report ..
    · exact h'.report ..
  | mastsCause =>
    unfold reportMasts
    split
    · exact h.report ..
    · split
      · exact h.report ..
      · exact h.congr
  | snapTaken unread => exact snapInv_iff.mpr ((snapInv_iff.mp h).taken unread)
  | commit | toSetup | uncheck | windTable => exact h
  | _ => exact h.congr

theorem OuterAct.keeps_snap (h : SnapInv s) (a : OuterAct s t) : SnapInv t := by
  cases a with
  | beginWaiting => exact h.congr
  | console | poll | entries => exact h

end Sys2Proof.Machine


/-! ## The hold list through every step (R115, R116, R124, R45, R105) -/

namespace Sys2Proof.Machine

set_option Elab.async false

variable {s t : State} {src src' : HoldSource}

/-! ### Entries removed -/

theorem entry_removeEntry_same (src : HoldSource) : (removeEntry src s).entry src = none := by
  rw [entry_eq_none_iff]
  intro e he
  simpa using (List.mem_filter.mp he).2

theorem entry_removeEntry_other (h : src ≠ src') : (removeEntry src s).entry src' = s.entry src' := by
  simp only [State.entry, removeEntry_holds, List.find?_filter]
  congr 1
  funext e
  by_cases he : e.source = src'
  · simp [he, h.symm]
  · simp [he]

/-- An absence report of a source without a latched entry leaves it none. -/
theorem entry_absenceReport_same (h : ∀ e, s.entry src = some e → e.latched = false) :
    (absenceReport src s).entry src = none := by
  unfold absenceReport
  split
  · next e he =>
    rw [h e he]
    exact entry_removeEntry_same src
  · next he => exact he

theorem entry_absenceReport_other (h : src ≠ src') :
    (absenceReport src s).entry src' = s.entry src' := by
  unfold absenceReport
  split
  · split
    · rfl
    · exact entry_removeEntry_other h
  · rfl

/-! ### The list in the forms of R116 -/

/-- At most one entry per source, each in a form of R116 with the flag of its cause. -/
def HoldLaw (s : State) : Prop :=
  (s.holds.map fun e => e.source).Nodup ∧ ∀ e ∈ s.holds, e.formed s.causes = true

/-- The POSITION entry is the one that the tracker state calls for (R45). -/
def PositionLaw (s : State) : Prop :=
  (s.entry .position).map (fun e => e.cause) = s.tracker.state.holdCause

/-- The WIND entry is the one that the wind level calls for (R105). -/
def WindHoldLaw (s : State) : Prop :=
  (s.entry .wind).map (fun e => e.cause) = s.wind.level.holdCause

theorem holdInv_iff : HoldInv s ↔ HoldLaw s ∧ s.causes = s.tests ∧ PositionLaw s ∧ WindHoldLaw s := by
  simp only [HoldInv, HoldLaw, PositionLaw, WindHoldLaw, and_assoc]

theorem HoldLaw.congr (h : HoldLaw s) (hh : t.holds = s.holds := by simp)
    (hc : t.causes = s.causes := by simp) : HoldLaw t := by
  unfold HoldLaw
  rwa [hh, hc]

theorem HoldLaw.formed {e : HoldEntry} (h : HoldLaw s) (he : s.entry src = some e) :
    e.source = src ∧ e.formed s.causes = true := by
  obtain ⟨hs, hmem⟩ := entry_source he
  exact ⟨hs, h.2 e hmem⟩

/-- A WIND, MASTS or COMMAND entry is automatic. -/
theorem HoldEntry.formed_automatic {c : CauseStates} {e : HoldEntry} (h : e.formed c = true)
    (hs : e.source = .wind ∨ e.source = .masts ∨ e.source = .command) : e.latched = false := by
  cases e
  rcases hs with hs | hs | hs <;> subst hs <;> simp_all [HoldEntry.formed]

/-- A report in a form of R116 over an entry in one of them. -/
theorem formed_reportedEntry {c : CauseStates} {old : HoldEntry} {k : Nat} {cls : HoldClass}
    {sub : Option Nat} (ho : old.formed c = true) (hs : old.source = src)
    (hr : Reportable src k cls sub) (hp : src = .position → old.latched = false) :
    (reportedEntry old k cls sub).formed c = true := by
  have hnew := hr c old.time
  cases old
  subst hs
  unfold reportedEntry HoldEntry.formed at *
  rename_i source _ _ _ _ _ _
  cases source <;> simp_all [latchedForm, presentFlag, HoldClass.higher]

theorem HoldLaw.report (h : HoldLaw s) {k : Nat} {cls : HoldClass} {sub : Option Nat}
    (hr : Reportable src k cls sub)
    (hp : src = .position → ∀ e, s.entry src = some e → e.latched = false) :
    HoldLaw (causeReport src k cls sub s) := by
  obtain ⟨hn, hf⟩ := h
  have hcauses : (causeReport src k cls sub s).causes = s.causes := by simp
  refine ⟨?_, ?_⟩
  · rw [sources_causeReport]
    cases he : s.entry src with
    | some old => simpa using hn
    | none =>
      have hnot : src ∉ s.holds.map fun e => e.source := by simpa using entry_eq_none_iff.mp he
      simpa [List.nodup_append] using ⟨hn, by simpa using hnot⟩
  · rw [hcauses]
    cases he : s.entry src with
    | none =>
      rw [causeReport_new he, addEntry_holds]
      intro e hmem
      rcases List.mem_append.mp hmem with hmem | hmem
      · exact hf e hmem
      · rw [List.mem_singleton.mp hmem]
        exact hr s.causes s.ms
    | some old =>
      obtain ⟨hs, hmem⟩ := entry_source he
      have hnew := formed_reportedEntry (hf old hmem) hs hr fun hx => hp hx old he
      rw [causeReport_old he, stopEffectsIf_holds, putEntry_holds]
      intro e he
      obtain ⟨x, hx, rfl⟩ := List.mem_map.mp he
      split
      · exact hnew
      · exact hf x hx

theorem HoldLaw.removed (h : HoldLaw s) (src : HoldSource) : HoldLaw (removeEntry src s) :=
  ⟨h.1.sublist (List.filter_sublist.map _), fun e he => h.2 e (List.mem_filter.mp he).1⟩

theorem HoldLaw.absent (h : HoldLaw s) (src : HoldSource) : HoldLaw (absenceReport src s) := by
  unfold absenceReport
  split
  · split
    · exact h
    · exact h.removed src
  · exact h

theorem HoldLaw.retested (h : HoldLaw s) : HoldLaw (retest s) := by
  obtain ⟨hn, hf⟩ := h
  refine ⟨by simpa [Function.comp_def] using hn, fun x hx => ?_⟩
  obtain ⟨e, he, rfl⟩ := List.mem_map.mp hx
  have := hf e he
  simp only [HoldEntry.formed, Bool.and_eq_true] at this ⊢
  exact ⟨by simp, this.2⟩

/-! ### The POSITION entry -/

theorem reportable_searching : Reportable .position 1 .creep none := fun _ _ => rfl

theorem reportable_coasting : Reportable .position 2 .creep none := fun _ _ => rfl

theorem reportable_lost : Reportable .position 3 .stop none := fun _ _ => rfl

/-- Only a LOST tracker has a latched POSITION entry. -/
theorem HoldLaw.position_unlatched (h : HoldLaw s) (hp : PositionLaw s)
    (hl : s.tracker.state ≠ .lost) {e : HoldEntry} (he : s.entry .position = some e) :
    e.latched = false := by
  obtain ⟨hs, hf⟩ := h.formed he
  have hform := (HoldEntry.formed_position hf hs).2.2
  have hc : e.cause ≠ 3 := by
    rw [PositionLaw, he] at hp
    cases hst : s.tracker.state <;> simp_all [TrackerState.holdCause]
  rw [if_neg hc] at hform
  exact hform.1

theorem reportedEntry_cause (old : HoldEntry) (k : Nat) (cls : HoldClass) (sub : Option Nat) :
    (reportedEntry old k cls sub).cause = k := by
  unfold reportedEntry
  split <;> rfl

/-- After a report the entry of its source carries the reported cause. -/
theorem cause_causeReport (src : HoldSource) (k : Nat) (cls : HoldClass) (sub : Option Nat)
    (s : State) : ((causeReport src k cls sub s).entry src).map (fun e => e.cause) = some k := by
  rw [entry_causeReport_same]
  cases s.entry src with
  | none => rfl
  | some old => simp [reportedEntry_cause]

/-- The hold list after a new tracker record: its forms, the POSITION entry of the new tracker state,
and the entries of the other sources as they were. -/
theorem HoldLaw.retracked (h : HoldLaw s) (hp : PositionLaw s) {x : Tracker}
    (hl : s.tracker.state = .lost → x.state = .lost) :
    HoldLaw (s.retracked x) ∧ PositionLaw (s.retracked x) := by
  have h' : HoldLaw { s with tracker := x } := h
  by_cases hx : x.state = s.tracker.state
  · have heq : s.retracked x = { s with tracker := x } := if_pos hx
    rw [heq]
    refine ⟨h', ?_⟩
    unfold PositionLaw
    rw [hx]
    exact hp
  · have hauto (e : HoldEntry) (he : s.entry .position = some e) : e.latched = false :=
      h.position_unlatched hp (fun hlost => hx ((hl hlost).trans hlost.symm)) he
    have hx' : (s.retracked x).tracker = x := by simp
    unfold PositionLaw
    rw [hx']
    unfold State.retracked
    rw [if_neg hx]
    cases x.state with
    | searching => exact ⟨h'.report reportable_searching fun _ => hauto, cause_causeReport ..⟩
    | coasting => exact ⟨h'.report reportable_coasting fun _ => hauto, cause_causeReport ..⟩
    | lost => exact ⟨h'.report reportable_lost fun _ => hauto, cause_causeReport ..⟩
    | locked =>
      have hnone : (absenceReport .position { s with tracker := x }).entry .position = none :=
        entry_absenceReport_same hauto
      exact ⟨h'.absent _, congrArg (Option.map fun e => e.cause) hnone⟩

theorem entry_retracked_other (x : Tracker) (hs : .position ≠ src) :
    (s.retracked x).entry src = s.entry src := by
  have hreport (k : Nat) (cls : HoldClass) :
      (causeReport .position k cls none { s with tracker := x }).entry src = s.entry src :=
    entry_causeReport_other hs ..
  unfold State.retracked
  split
  · rfl
  · split
    · exact hreport ..
    · exact hreport ..
    · exact entry_absenceReport_other hs
    · exact hreport ..

/-- A LOST POSITION entry in its CREEP form, with the tracker SEARCHING (R130). -/
theorem HoldLaw.positionReleased (h : HoldLaw s) {e : HoldEntry} (he : s.entry .position = some e) :
    HoldLaw (s.positionReleased e) ∧ PositionLaw (s.positionReleased e) := by
  obtain ⟨hs, hf⟩ := h.formed he
  obtain ⟨-, hsub, -⟩ := HoldEntry.formed_position hf hs
  have hform : (creepForm e).formed s.causes = true := by
    simp [creepForm, HoldEntry.formed, hs, hsub, presentFlag, within]
  obtain ⟨hn, hall⟩ := h
  refine ⟨⟨?_, ?_⟩, ?_⟩
  · have hmap : (s.positionReleased e).holds.map (fun x => x.source) =
        s.holds.map fun x => x.source := by
      simp only [State.positionReleased, State.offPlatform, putEntry_holds, List.map_map]
      exact List.map_congr_left fun x _ => putEntry_keeps_source (creepForm e) x
    rw [hmap]
    exact hn
  · intro x hx
    obtain ⟨y, hy, rfl⟩ := List.mem_map.mp hx
    split
    · exact hform
    · exact hall y hy
  · have hput : (s.positionReleased e).entry (creepForm e).source = some (creepForm e) := by
      have hsource : (creepForm e).source = .position := hs
      exact entry_putEntry_same (hsource ▸ he)
    have hpos : (s.positionReleased e).entry .position = some (creepForm e) :=
      (congrArg (s.positionReleased e).entry hs).symm.trans hput
    unfold PositionLaw
    rw [hpos]
    rfl

/-! ### The WIND and the MASTS entry -/

theorem reportable_wind : Reportable .wind 2 .slow none ∧ Reportable .wind 3 .stop none :=
  ⟨fun _ _ => rfl, fun _ _ => rfl⟩

theorem HoldLaw.reportWind (h : HoldLaw s) : HoldLaw (reportWind s) ∧ WindHoldLaw (reportWind s) := by
  have hauto (e : HoldEntry) (he : s.entry .wind = some e) : e.latched = false := by
    obtain ⟨hs, hf⟩ := h.formed he
    exact HoldEntry.formed_automatic hf (.inl hs)
  have hlevel : (Machine.reportWind s).wind.level = s.wind.level := by simp
  unfold WindHoldLaw
  rw [hlevel]
  unfold Machine.reportWind
  cases s.wind.level with
  | calm => exact ⟨h.absent _, by simp only [entry_absenceReport_same hauto]; rfl⟩
  | watch => exact ⟨h.absent _, by simp only [entry_absenceReport_same hauto]; rfl⟩
  | restrict => exact ⟨h.report reportable_wind.1 nofun, cause_causeReport ..⟩
  | hold => exact ⟨h.report reportable_wind.2 nofun, cause_causeReport ..⟩

theorem entry_reportWind_other (hs : .wind ≠ src) : (reportWind s).entry src = s.entry src := by
  unfold reportWind
  split
  · exact entry_absenceReport_other hs
  · exact entry_absenceReport_other hs
  · exact entry_causeReport_other hs ..
  · exact entry_causeReport_other hs ..

theorem minFresh_le (h : s.windTable.inRange = true) : s.windTable.minFresh ≤ 4 := by
  simp only [WindTable.inRange, within, Bool.and_eq_true, decide_eq_true_eq] at h
  exact h.2.2

/-- Too few FRESH masts are fewer than 4 (R101, R111). -/
theorem HoldLaw.reportMasts (h : HoldLaw s) (hw : s.windTable.inRange = true) :
    HoldLaw (reportMasts s) := by
  have hmin := minFresh_le hw
  unfold Machine.reportMasts
  split
  · exact h.report (fun _ _ => rfl) nofun
  · split
    · next h0 hlt =>
      refine h.report (fun c time => ?_) nofun
      simp [HoldEntry.formed, latchedForm, presentFlag, within]
      omega
    · exact h.absent _

theorem entry_reportMasts_other (hs : .masts ≠ src) : (reportMasts s).entry src = s.entry src := by
  unfold reportMasts
  split
  · exact entry_causeReport_other hs ..
  · split
    · exact entry_causeReport_other hs ..
    · exact entry_absenceReport_other hs

/-! ### Every change -/

theorem PositionLaw.congr (h : PositionLaw s) (hh : t.holds = s.holds := by simp)
    (ht : t.tracker = s.tracker := by simp) : PositionLaw t := by
  unfold PositionLaw
  rwa [entry_congr hh, ht]

theorem PositionLaw.sameEntry (h : PositionLaw s) (he : t.entry .position = s.entry .position)
    (ht : t.tracker = s.tracker := by simp) : PositionLaw t := by
  unfold PositionLaw
  rwa [he, ht]

theorem WindHoldLaw.congr (h : WindHoldLaw s) (hh : t.holds = s.holds := by simp)
    (hw : t.wind = s.wind := by simp) : WindHoldLaw t := by
  unfold WindHoldLaw
  rwa [entry_congr hh, hw]

theorem WindHoldLaw.sameEntry (h : WindHoldLaw s) (he : t.entry .wind = s.entry .wind)
    (hw : t.wind = s.wind := by simp) : WindHoldLaw t := by
  unfold WindHoldLaw
  rwa [he, hw]

/-- A test report leaves the cause of every entry. -/
theorem cause_retest (src : HoldSource) :
    ((retest s).entry src).map (fun e => e.cause) = (s.entry src).map fun e => e.cause := by
  rw [entry_retest, Option.map_map]
  rfl

theorem Act.keeps_holdLaw (h : HoldLaw s) (hp : PositionLaw s) (hw : s.windTable.inRange = true)
    (a : Act s t) : HoldLaw t := by
  cases a with
  | retest => exact h.retested
  | report src cause cls subject other formed => exact h.report formed fun hx => absurd hx other.2
  | remove src => exact h.removed src
  | retrack r x ride lost =>
    have h' : HoldLaw { s with ride := r } := h
    exact (h'.retracked hp lost).1
  | releasePosition e stands => exact (h.positionReleased stands).1
  | windLevel =>
    have h' : HoldLaw { s with wind := s.windAfter } := h
    exact h'.reportWind.1
  | mastsCause => exact h.reportMasts hw
  | order | uncheck | commit | toSetup | windTable => exact h
  | _ => exact h.congr

theorem OuterAct.keeps_holdLaw (h : HoldLaw s) (a : OuterAct s t) : HoldLaw t := by
  cases a with
  | beginWaiting => exact h.congr
  | console | poll | entries => exact h

theorem Act.keeps_position (h : HoldLaw s) (hp : PositionLaw s) (a : Act s t) : PositionLaw t := by
  cases a with
  | retest => exact (cause_retest .position).trans hp
  | report src cause cls subject other => exact hp.sameEntry (entry_causeReport_other other.2 ..)
  | remove src other => exact hp.sameEntry (entry_removeEntry_other other.2)
  | retrack r x ride lost =>
    have h' : HoldLaw { s with ride := r } := h
    exact (h'.retracked hp lost).2
  | releasePosition e stands => exact (h.positionReleased stands).2
  | windLevel =>
    have hp' : PositionLaw { s with wind := s.windAfter } := hp
    exact hp'.sameEntry (entry_reportWind_other (by decide))
  | mastsCause => exact hp.sameEntry (entry_reportMasts_other (by decide))
  | order | uncheck | commit | toSetup | windTable => exact hp
  | _ => exact hp.congr

theorem OuterAct.keeps_position (hp : PositionLaw s) (a : OuterAct s t) : PositionLaw t := by
  cases a with
  | beginWaiting => exact hp.congr
  | console | poll | entries => exact hp

theorem Act.keeps_windHold (h : HoldLaw s) (hw : WindHoldLaw s) (a : Act s t) : WindHoldLaw t := by
  cases a with
  | retest => exact (cause_retest .wind).trans hw
  | report src cause cls subject other => exact hw.sameEntry (entry_causeReport_other other.1 ..)
  | remove src other => exact hw.sameEntry (entry_removeEntry_other other.1)
  | retrack r x =>
    have hw' : WindHoldLaw { s with ride := r } := hw
    exact hw'.sameEntry (entry_retracked_other x (by decide))
  | releasePosition e stands =>
    have hs : (creepForm e).source ≠ .wind := fun hx => by
      have := hx.symm.trans (entry_source stands).1
      cases this
    exact hw.sameEntry (entry_putEntry_other hs)
  | windLevel =>
    have h' : HoldLaw { s with wind := s.windAfter } := h
    exact h'.reportWind.2
  | mastsCause => exact hw.sameEntry (entry_reportMasts_other (by decide))
  | order | uncheck | commit | toSetup | windTable => exact hw
  | _ => exact hw.congr

theorem OuterAct.keeps_windHold (hw : WindHoldLaw s) (a : OuterAct s t) : WindHoldLaw t := by
  cases a with
  | beginWaiting => exact hw.congr
  | console | poll | entries => exact hw

/-! ### The cause-present states (R74, R124) -/

/-- The cause-present states are written by a test report alone. -/
theorem Act.causes_eq (a : Act s t) : t.causes = s.causes ∨ t.causes = t.tests := by
  cases a with
  | retest => exact .inr rfl
  | order | uncheck | commit | toSetup | windTable => exact .inl rfl
  | _ => exact .inl (by simp)

theorem OuterAct.causes_eq (a : OuterAct s t) : t.causes = s.causes := by
  cases a with
  | beginWaiting => simp
  | console | poll | entries => rfl

/-- At the end of an event the cause-present states are the tests as they stand. -/
theorem Work.keeps_causes {line due mid : Bool} (w : Work line s due mid t) (hd : due = false)
    (h : s.causes = s.tests) : t.causes = t.tests := by
  induction w with
  | refl => exact h
  | act _ a ht ih =>
    rcases a.causes_eq with hc | hc
    · rw [hc, ih hd, ht.resolve_left (by simp [hd])]
    · exact hc
  | outer _ a ht _ _ ih => rw [a.causes_eq, ih hd, ht]
  | testsDue => cases hd
  | retest => rfl
  | midway _ ih => exact ih hd
  | arrived _ _ ih => exact ih hd

end Sys2Proof.Machine


/-! ## The tracker, the wind monitor, the poller and the tables' shape through every step (R27, R28, R77,
R79, R93, R97 to R104, R168) -/

namespace Sys2Proof.Machine

set_option Elab.async false

variable {s t : State} {line due mid : Bool}

/-! ### The tracker -/

theorem TrackerInv.congr (h : TrackerInv s) (ht : t.tracker = s.tracker := by simp)
    (hr : t.ride = s.ride := by simp) : TrackerInv t := by
  rw [trackerInv_iff] at h ⊢
  rwa [ht, hr]

theorem Act.keeps_tracker (h : TrackerInv s) (a : Act s t) : TrackerInv t := by
  cases a with
  | retrack r x _ _ law =>
    have ht : (State.retracked { s with ride := r } x).tracker = x := by simp
    have hr : (State.retracked { s with ride := r } x).ride = r := by simp
    rw [trackerInv_iff, ht, hr]
    exact law h
  | releasePosition e => exact Tracker.searchAnew_law
  | order | uncheck | commit | toSetup | windTable => exact h
  | _ => exact h.congr

theorem OuterAct.keeps_tracker (h : TrackerInv s) (a : OuterAct s t) : TrackerInv t := by
  cases a with
  | beginWaiting => exact h.congr
  | console | poll | entries => exact h

/-! ### The wind monitor -/

/-- The law of the wind record (R97 to R104). -/
def WindRecord.Law (w : WindRecord) : Prop :=
  w.govMean ≤ 1023 ∧ w.govGust ≤ 1023 ∧ w.freshCount ≤ 4 ∧ w.up ≤ 16 ∧ w.down ≤ 4800 ∧
  (w.up = 0 ↔ w.runMin = none)

theorem windInv_iff : WindInv s ↔ s.windTable.inRange = true ∧ s.masts.length = 4 ∧
    (∀ m ∈ s.masts, m.good s.windTable.gustLength = true) ∧ s.wind.Law := Iff.rfl

theorem foldl_max_le {l : List Nat} {a b : Nat} (ha : a ≤ b) (h : ∀ x ∈ l, x ≤ b) :
    l.foldl max a ≤ b := by
  induction l generalizing a with
  | nil => exact ha
  | cons x l ih =>
    obtain ⟨hx, hl⟩ := List.forall_mem_cons.mp h
    exact ih (max_le ha hx) hl

theorem Mast.mean_le {m : Mast} {g : Nat} (h : m.good g = true) : m.mean ≤ 1023 := by
  have hacc := (good_iff.mp h).1
  unfold mean
  split <;> omega

theorem Mast.gust_le {m : Mast} {g : Nat} (h : m.good g = true) : m.gust ≤ 1023 :=
  have ⟨_, _, hwindow, _⟩ := good_iff.mp h
  foldl_max_le (Nat.zero_le _) hwindow

namespace WindRecord

variable {w : WindRecord}

theorem rise_law {x : WindTable} (hx : x.inRange = true) (h : w.Law) (target : WindLevel) :
    (w.rise x target).Law := by
  simp only [WindTable.inRange, within, Bool.and_eq_true, decide_eq_true_eq] at hx
  obtain ⟨h1, h2, h3, -⟩ := h
  unfold rise
  simp only
  split
  · exact ⟨h1, h2, h3, Nat.zero_le _, Nat.zero_le _, by simp⟩
  · exact ⟨h1, h2, h3, by simp only; omega, Nat.zero_le _, by simp⟩

theorem settle_law {x : WindTable} (hx : x.inRange = true) (h : w.Law) : (w.settle x).Law := by
  simp only [WindTable.inRange, within, Bool.and_eq_true, decide_eq_true_eq] at hx
  obtain ⟨h1, h2, h3, -⟩ := h
  have idle (l : WindLevel) (n : Nat) (hn : n ≤ 4800) :
      ({ w with level := l, up := 0, runMin := none, down := n } : WindRecord).Law :=
    ⟨h1, h2, h3, Nat.zero_le _, hn, by simp⟩
  unfold settle
  split
  · exact idle _ _ (Nat.zero_le _)
  · split
    · split
      · exact idle _ _ (Nat.zero_le _)
      · exact idle _ _ (by omega)
    · exact idle _ _ (Nat.zero_le _)

theorem stepLevel_law {x : WindTable} (hx : x.inRange = true) (h : w.Law) : (w.stepLevel x).Law := by
  unfold stepLevel
  split
  · exact rise_law hx h _
  · exact settle_law hx h

end WindRecord

theorem windAfter_law (h : WindInv s) : s.windAfter.Law := by
  obtain ⟨hx, hlen, hgood, hw⟩ := windInv_iff.mp h
  have hcount {m : Mast} (hm : m ∈ s.counting) : m.good s.windTable.gustLength = true :=
    hgood m (List.mem_filter.mp hm).1
  have hfresh : s.counting.length ≤ 4 := hlen ▸ List.length_filter_le ..
  obtain ⟨h1, h2, -, h4, h5, h6⟩ := hw
  unfold State.windAfter
  split
  · exact ⟨h1, h2, Nat.zero_le _, h4, h5, h6⟩
  · refine WindRecord.stepLevel_law hx ⟨?_, ?_, hfresh, h4, h5, h6⟩
    · exact foldl_max_le (Nat.zero_le _) (List.forall_mem_map.mpr fun m hm => Mast.mean_le (hcount hm))
    · exact foldl_max_le (Nat.zero_le _) (List.forall_mem_map.mpr fun m hm => Mast.gust_le (hcount hm))

theorem WindInv.congr (h : WindInv s) (ht : t.windTable = s.windTable := by simp)
    (hm : t.masts = s.masts := by simp) (hw : t.wind = s.wind := by simp) : WindInv t := by
  rw [windInv_iff] at h ⊢
  rwa [ht, hm, hw]

/-- A window cut to a gust window length. -/
theorem Mast.cut_good {m : Mast} {g : Nat} (h : m.good g = true) (g' : Nat) :
    ({ m with window := m.window.take g' } : Mast).good g' = true := by
  rw [good_iff] at h ⊢
  obtain ⟨hacc, -, hwin, hclear⟩ := h
  refine ⟨hacc, by simp, fun x hx => hwin x (List.mem_of_mem_take hx), hclear.imp_right ?_⟩
  rintro ⟨h1, h2, h3⟩
  exact ⟨h1, by simp [h2], h3⟩

theorem Act.keeps_wind (h : WindInv s) (a : Act s t) : WindInv t := by
  obtain ⟨hx, hlen, hgood, hw⟩ := windInv_iff.mp h
  cases a with
  | masts ms kept => exact windInv_iff.mpr ⟨hx, kept.length hlen, kept.good hx hgood, hw⟩
  | windLevel =>
    have h' : WindInv { s with wind := s.windAfter } :=
      windInv_iff.mpr ⟨hx, hlen, hgood, windAfter_law h⟩
    exact h'.congr
  | windTable w _ range =>
    refine windInv_iff.mpr ⟨range, by simpa [storeWind] using hlen, fun x hx => ?_, hw⟩
    obtain ⟨m, hm, rfl⟩ := List.mem_map.mp hx
    exact Mast.cut_good (hgood m hm) _
  | order | uncheck | commit | toSetup => exact h
  | _ => exact h.congr

theorem OuterAct.keeps_wind (h : WindInv s) (a : OuterAct s t) : WindInv t := by
  cases a with
  | beginWaiting => exact h.congr
  | console | poll | entries => exact h

/-! ### The element counts of the tables -/

theorem ShapeInv.congr (h : ShapeInv s) (h1 : t.passList = s.passList := by simp)
    (h2 : t.profiles = s.profiles := by simp) (h3 : t.ride = s.ride := by simp)
    (h4 : t.zone = s.zone := by simp) : ShapeInv t := by
  unfold ShapeInv
  rwa [h1, h2, h3, h4]

theorem Act.keeps_shape (h : ShapeInv s) (a : Act s t) : ShapeInv t := by
  obtain ⟨h1, h2, h3, h4, h5⟩ := h
  cases a with
  | retrack r x ride =>
    have h' : ShapeInv { s with ride := r } :=
      ⟨h1, h2, h3, ride.elim (fun he => he ▸ h4) fun hr => .inr hr.2, h5⟩
    exact h'.congr
  | zone z _ range => exact ⟨h1, h2, h3, h4, range⟩
  | passList l length => exact ⟨length h1, h2, h3, h4, h5⟩
  | profiles ps _ shape => exact ⟨h1, (shape h2 h3).1, (shape h2 h3).2, h4, h5⟩
  | order | uncheck | commit | toSetup | windTable => exact ⟨h1, h2, h3, h4, h5⟩
  | _ => exact ShapeInv.congr ⟨h1, h2, h3, h4, h5⟩

theorem OuterAct.keeps_shape (h : ShapeInv s) (a : OuterAct s t) : ShapeInv t := by
  cases a with
  | beginWaiting => exact h.congr
  | console | poll | entries => exact h

/-- The poll list and the result records have 16 elements each (R77, R78). -/
def PollShape (s : State) : Prop := s.pollEntries.length = 16 ∧ s.results.length = 16

theorem PollShape.congr (h : PollShape s) (he : t.pollEntries = s.pollEntries := by simp)
    (hr : t.results = s.results := by simp) : PollShape t := by
  unfold PollShape
  rwa [he, hr]

theorem Act.keeps_pollShape (h : PollShape s) (a : Act s t) : PollShape t := by
  cases a with
  | results rs length => exact ⟨h.1, length h.2⟩
  | order | uncheck | commit | toSetup | windTable => exact h
  | _ => exact h.congr

theorem OuterAct.keeps_pollShape (h : PollShape s) (a : OuterAct s t) : PollShape t := by
  cases a with
  | beginWaiting => exact h.congr
  | entries es _ length => exact ⟨length h.1, h.2⟩
  | console | poll => exact h

/-! ### The poller and the receive buffers -/

/-- The receive buffers of the console and the drive line are empty between commands (log entry 11). -/
def LinesEmpty (s : State) : Prop := s.rx.console = .empty ∧ s.rx.drive = .empty

theorem poll_line_iff : PollInv s ∧ LineInv s ↔ PollLaw s ∧ PollShape s ∧ LinesEmpty s := by
  unfold PollInv LineInv PollLaw PollShape LinesEmpty
  tauto

theorem Act.keeps_lines (h : LinesEmpty s) (a : Act s t) : LinesEmpty t := by
  unfold LinesEmpty
  rwa [a.poll_frame.2.1]

theorem OuterAct.keeps_lines (h : LinesEmpty s) (a : OuterAct s t) : LinesEmpty t := by
  cases a with
  | beginWaiting tag n repeats =>
    have hrx : (startStep (acceptRun tag n repeats 1 s)).rx = s.rx := by simp
    unfold LinesEmpty
    rwa [hrx]
  | console | poll | entries => exact h

end Sys2Proof.Machine


/-! ## The wind trace through every step (R106 to R110) -/

namespace Sys2Proof.Machine

set_option Elab.async false

variable {s t : State}

/-! ### Replay in parts -/

theorem replay_append (v : Option Int) (l l' : List TraceEntry) :
    replay v (l ++ l') = replay (replay v l) l' := by
  induction l generalizing v with
  | nil => rfl
  | cons e l ih => cases e <;> simp only [List.cons_append, replay, ih]

theorem replays_append (v : Option Int) (l l' : List TraceEntry) :
    replays v (l ++ l') = (replays v l && replays (replay v l) l') := by
  induction l generalizing v with
  | nil => simp [replays, replay]
  | cons e l ih => cases e <;> simp only [List.cons_append, replays, replay, ih, Bool.and_assoc]

/-! ### Entries removed from the front (R109) -/

/-- The boundary value agrees with the value replay has reached, once it has reached one. -/
def BoundaryAt (boundary : Option Nat) (v : Option Int) : Prop :=
  ∀ x : Int, v = some x → boundary.map (fun n : Nat => (n : Int)) = some x

theorem BoundaryAt.step {b : Option Nat} {v : Option Int} {e : TraceEntry} {es : List TraceEntry}
    (h : BoundaryAt b v) (hr : replays v (e :: es) = true) :
    BoundaryAt (e.boundaryAfter b) (replay v [e]) := by
  cases e with
  | full x => exact fun y hy => hy
  | level l => exact h
  | gap => exact h
  | delta ds =>
    cases v with
    | none => simp [replays] at hr
    | some x =>
      simp only [replays, Bool.and_eq_true, decide_eq_true_eq] at hr
      obtain ⟨⟨-, hlo, -⟩, -⟩ := hr
      have hb := h x rfl
      rw [Option.map_eq_some_iff] at hb
      obtain ⟨n, hn, rfl⟩ := hb
      rintro y hy
      simp only [replay, Option.map_some, Option.some.injEq] at hy
      subst hn hy
      simp [TraceEntry.boundaryAfter, TraceEntry.endValue, hlo]

/-- A trace from which entries have been taken, before it is repaired. -/
theorem dropMany_spec {n : Nat} {x : WindTrace} {v : Option Int} (hb : BoundaryAt x.boundary v)
    (hr : replays v x.entries = true) : ∃ w, BoundaryAt (x.dropMany n).boundary w ∧
      replays w (x.dropMany n).entries = true ∧
      replay w (x.dropMany n).entries = replay v x.entries := by
  induction n generalizing x v with
  | zero => exact ⟨v, hb, hr, rfl⟩
  | succ n ih =>
    unfold WindTrace.dropMany WindTrace.dropOldest
    cases hx : x.entries with
    | nil =>
      have := ih hb hr
      rwa [hx] at this
    | cons e es =>
      rw [hx] at hr
      have hsplit := replays_append v [e] es
      rw [List.singleton_append, hr] at hsplit
      have hes : replays (replay v [e]) es = true := (Bool.and_eq_true_iff.mp hsplit.symm).2
      obtain ⟨w, h1, h2, h3⟩ := ih (x := { x with entries := es
                                                  boundary := e.boundaryAfter x.boundary })
        (hb.step hr) hes
      refine ⟨w, h1, h2, h3.trans ?_⟩
      rw [← replay_append]
      rfl

theorem dropMany_frame (n : Nat) (x : WindTrace) : (x.dropMany n).last = x.last ∧
    (x.dropMany n).gapMark = x.gapMark ∧ (x.dropMany n).entries = x.entries.drop n := by
  induction n generalizing x with
  | zero => exact ⟨rfl, rfl, rfl⟩
  | succ n ih =>
    unfold WindTrace.dropMany WindTrace.dropOldest
    cases hx : x.entries with
    | nil => simpa [hx] using ih x
    | cons e es => simpa using ih { x with entries := es, boundary := e.boundaryAfter x.boundary }

theorem convertOldest_length (b : Option Nat) (es : List TraceEntry) :
    (convertOldest b es).length = es.length := by
  induction es with
  | nil => rfl
  | cons e es ih => cases e <;> simp [convertOldest, ih]

/-- The trace that remains, with its oldest value-bearing entry made FULL, replays from its start to the
same value, if it holds one. -/
theorem convertOldest_spec {b : Option Nat} {v : Option Int} {es : List TraceEntry}
    (hb : BoundaryAt b v) (hr : replays v es = true) :
    replays none (convertOldest b es) = true ∧ replay none (convertOldest b es) =
      if es.any TraceEntry.bearsValue then replay v es else none := by
  induction es with
  | nil => exact ⟨rfl, rfl⟩
  | cons e es ih =>
    cases e with
    | full x => exact ⟨hr, rfl⟩
    | level l => exact ih hr
    | gap => exact ih hr
    | delta ds =>
      cases v with
      | none => simp [replays] at hr
      | some x =>
        have hb' := hb x rfl
        rw [Option.map_eq_some_iff] at hb'
        obtain ⟨n, rfl, rfl⟩ := hb'
        simp only [replays, Bool.and_eq_true, decide_eq_true_eq] at hr
        obtain ⟨⟨-, hlo, hhi⟩, hes⟩ := hr
        have hval : (((n : Int) + ds.sum).toNat : Int) = n + ds.sum := Int.toNat_of_nonneg hlo
        simp only [convertOldest, Option.getD_some, replays, replay, hval, Bool.and_eq_true,
          decide_eq_true_eq, List.any_cons, TraceEntry.bearsValue, Bool.true_or, if_true]
        exact ⟨⟨by omega, hes⟩, rfl⟩

/-! ### The law of a trace -/

/-- The law of the wind trace (R106), for a bound on its entries. -/
def WindTrace.Law (x : WindTrace) (bound : Nat) : Prop :=
  x.entries.length ≤ bound ∧ replays none x.entries = true ∧
  (∀ v ∈ x.last, replay none x.entries = some (v : Int)) ∧ (x.gapMark = true → x.last = none)

theorem traceInv_iff : TraceInv s ↔ s.trace.Law 1024 := Iff.rfl

namespace WindTrace

variable {x : WindTrace} {n : Nat}

theorem repaired_dropMany_law (h : x.Law n) (k : Nat) : ((x.dropMany k).repaired).Law (n - k) := by
  obtain ⟨hlen, hr, hlast, hgap⟩ := h
  obtain ⟨w, hb, hrw, hw⟩ := dropMany_spec (n := k) (v := none) (x := x) (by intro y hy; cases hy) hr
  obtain ⟨hdlast, hdgap, hdrop⟩ := dropMany_frame k x
  obtain ⟨hr', hv'⟩ := convertOldest_spec hb hrw
  refine ⟨?_, hr', fun v hv => ?_, fun hg => ?_⟩
  · rw [repaired, convertOldest_length, hdrop, List.length_drop]
    omega
  · rw [repaired, hdlast] at hv
    simp only [Option.mem_def] at hv
    split at hv
    · next hany =>
      simp only [repaired, hv', hany, if_true, hw]
      exact hlast v hv
    · cases hv
  · simp only [repaired, hdgap, hdlast] at hg ⊢
    rw [hgap hg]
    exact ite_self _

/-- A trace made ready for another entry has a place for it (R109). -/
theorem trimmed_law (h : x.Law 1024) : x.trimmed.Law 1023 := by
  unfold trimmed
  split
  · exact repaired_dropMany_law h 1
  · next hl =>
    unfold traceLimit at hl
    exact ⟨by omega, h.2⟩

/-- An entry appended to a trace with a place for it. -/
theorem Law.append (h : x.Law 1023) {e : TraceEntry} (he : replays (replay none x.entries) [e] = true)
    (last : Option Nat) (gap : Bool)
    (hl : ∀ v ∈ last, replay (replay none x.entries) [e] = some (v : Int))
    (hg : gap = true → last = none) :
    ({ x with entries := x.entries ++ [e], last := last, gapMark := gap } : WindTrace).Law 1024 := by
  obtain ⟨hlen, hr, -⟩ := h
  refine ⟨by simpa using Nat.lt_succ_of_le hlen, ?_, fun v hv => ?_, hg⟩
  · rw [replays_append, hr, he]
    rfl
  · rw [replay_append]
    exact hl v hv

/-- A delta joined to the newest DELTA (R107). -/
theorem joinDelta_spec {d : Int} (hd : d.natAbs ≤ 7) {es es' : List TraceEntry}
    (hj : joinDelta d es = some es') {v : Option Int} (hr : replays v es = true) {y : Int}
    (hy : replay v es = some y) (hlo : 0 ≤ y + d) (hhi : y + d ≤ 1023) :
    es'.length = es.length ∧ replays v es' = true ∧ replay v es' = some (y + d) := by
  induction es generalizing es' v with
  | nil => cases hj
  | cons e es ih =>
    cases es with
    | nil =>
      cases e with
      | full x => cases hj
      | level l => cases hj
      | gap => cases hj
      | delta ds =>
        unfold joinDelta at hj
        split at hj
        · next hlen =>
          cases hj
          cases v with
          | none => cases hy
          | some x =>
            simp only [replay, Option.map_some, Option.some.injEq] at hy
            simp only [replays, Bool.and_eq_true, decide_eq_true_eq, List.all_eq_true] at hr
            obtain ⟨⟨⟨-, hall⟩, -⟩, -⟩ := hr
            have hsum : x + (ds ++ [d]).sum = y + d := by simp [← hy]; ring
            refine ⟨rfl, ?_, by simp only [replay, Option.map_some, hsum]⟩
            simp only [replays, hsum, Bool.and_eq_true, decide_eq_true_eq, List.all_eq_true,
              List.mem_append, List.mem_singleton, List.length_append, List.length_singleton]
            refine ⟨⟨⟨⟨by omega, by omega⟩, ?_⟩, hlo, hhi⟩, trivial⟩
            rintro z (hz | rfl)
            · exact hall z hz
            · exact hd
        · cases hj
    | cons e' es =>
      rw [joinDelta] at hj
      · obtain ⟨r, hr', rfl⟩ := Option.map_eq_some_iff.mp hj
        have hsplit := replays_append v [e] (e' :: es)
        rw [List.singleton_append, hr] at hsplit
        obtain ⟨he, hes⟩ := Bool.and_eq_true_iff.mp hsplit.symm
        have hyes : replay (replay v [e]) (e' :: es) = some y := by
          rw [← replay_append]
          exact hy
        obtain ⟨h1, h2, h3⟩ := ih hr' hes hyes
        refine ⟨by simp [h1], ?_, ?_⟩
        · have := replays_append v [e] r
          rwa [he, h2] at this
        · rw [← h3, ← replay_append]
          rfl
      all_goals simp

/-- The sample of a cycle end appended (R107). -/
theorem sample_law (h : x.Law 1024) {v : Nat} (hv : v ≤ 1023) :
    (x.sample v).Law 1024 ∧ (x.sample v).gapMark = false := by
  unfold sample
  split
  · next es hj =>
    refine ⟨?_, rfl⟩
    unfold joined at hj
    split at hj
    · cases hj
    · next l hl =>
      obtain ⟨hlen, hr, hlast, -⟩ := h
      split at hj
      · next hd =>
        obtain ⟨h1, h2, h3⟩ := joinDelta_spec hd hj hr (hlast l hl) (by omega) (by omega)
        refine ⟨h1 ▸ hlen, h2, ?_, nofun⟩
        rintro w hw
        cases hw
        rw [h3]
        congr 1
        omega
      · cases hj
  · refine ⟨?_, rfl⟩
    have ht := trimmed_law h
    have ⟨_, _, hlast, _⟩ := ht
    have hfull : replays (replay none x.trimmed.entries) [.full v] = true := by simp [replays, hv]
    have hent : replays (replay none x.trimmed.entries) [sampleEntry x.trimmed.last v] = true ∧
        replay (replay none x.trimmed.entries) [sampleEntry x.trimmed.last v] = some (v : Int) := by
      unfold sampleEntry
      split
      · exact ⟨hfull, rfl⟩
      · next l hl =>
        split
        · next hd =>
          rw [hlast l hl]
          have hsum : (l : Int) + [(v : Int) - l].sum = v := by simp
          simp only [replays, replay, Option.map_some, hsum]
          simp [hd, hv]
        · exact ⟨hfull, rfl⟩
    refine ht.append hent.1 (some v) false ?_ nofun
    rintro w hw
    cases hw
    exact hent.2

theorem append_level_law (h : x.Law 1024) (l : WindLevel) : (x.append (.level l)).Law 1024 :=
  have ht := trimmed_law h
  have ⟨_, _, hlast, hgap⟩ := ht
  ht.append rfl x.trimmed.last x.trimmed.gapMark hlast hgap

theorem cycleEnd_law (h : x.Law 1024) {v : Nat} (hv : v ≤ 1023) (old new : WindLevel) :
    (x.cycleEnd v old new).Law 1024 := by
  have hs := (sample_law h hv).1
  unfold cycleEnd
  split
  · exact hs
  · exact append_level_law hs new

theorem gapEnd_law (h : x.Law 1024) : x.gapEnd.Law 1024 := by
  unfold gapEnd
  split
  · exact h
  · exact (trimmed_law h).append rfl none true nofun fun _ => rfl

end WindTrace

/-! ### Every change -/

theorem TraceInv.congr (h : TraceInv s) (ht : t.trace = s.trace := by simp) : TraceInv t := by
  rw [traceInv_iff] at h ⊢
  rwa [ht]

theorem Act.keeps_trace (h : TraceInv s) (hw : WindInv s) (a : Act s t) : TraceInv t := by
  rw [traceInv_iff] at h
  cases a with
  | traceEnd old =>
    obtain ⟨-, -, -, -, hg, -⟩ := windInv_iff.mp hw
    rw [traceInv_iff]
    unfold appendTrace
    split
    · simp only [latchIf_frame]
      exact WindTrace.gapEnd_law h
    · simp only [latchIf_frame]
      exact WindTrace.cycleEnd_law h hg ..
  | traceTaken k =>
    obtain ⟨hlen, hrest⟩ := WindTrace.repaired_dropMany_law h k
    exact ⟨hlen.trans (Nat.sub_le ..), hrest⟩
  | order | uncheck | commit | toSetup | windTable => exact h
  | _ => exact TraceInv.congr h

theorem OuterAct.keeps_trace (h : TraceInv s) (a : OuterAct s t) : TraceInv t := by
  cases a with
  | beginWaiting => exact TraceInv.congr h
  | console | poll | entries => exact h

end Sys2Proof.Machine


/-! ## The whole invariant through every step (Safety) -/

namespace Sys2Proof.Machine

set_option Elab.async false

variable {s t : State} {line due mid : Bool}

/-! ### The work of an event -/

/-- What every change inside an event keeps: the invariant, but for the cause-present states, which may
wait for their tests, and for the poller between two of its phases. -/
structure Held (s : State) : Prop where
  queue : QueueInv s
  table : TableInv s
  speed : SpeedInv s
  run : RunInv s
  hold : HoldLaw s
  position : PositionLaw s
  windHold : WindHoldLaw s
  snap : SnapInv s
  tracker : TrackerInv s
  cabin : CabinInv s
  wind : WindInv s
  trace : TraceInv s
  shape : ShapeInv s
  pollShape : PollShape s
  lines : LinesEmpty s

theorem inv_iff : Inv s ↔ Held s ∧ s.causes = s.tests ∧ PollLaw s := by
  constructor
  · intro h
    obtain ⟨hhold, hcauses, hpos, hwind⟩ := holdInv_iff.mp h.hold
    obtain ⟨hpoll, hshape, hlines⟩ := poll_line_iff.mp ⟨h.poll, h.line⟩
    exact ⟨⟨h.queue, h.table, h.speed, h.run, hhold, hpos, hwind, h.snap, h.tracker, h.cabin, h.wind,
      h.trace, h.shape, hshape, hlines⟩, hcauses, hpoll⟩
  · rintro ⟨h, hcauses, hpoll⟩
    obtain ⟨hp, hl⟩ := poll_line_iff.mpr ⟨hpoll, h.pollShape, h.lines⟩
    exact ⟨h.queue, h.table, h.speed, h.run,
      holdInv_iff.mpr ⟨h.hold, hcauses, h.position, h.windHold⟩, h.snap, h.tracker, h.cabin, h.wind,
      h.trace, hp, hl, h.shape⟩

theorem Act.keeps_held (h : Held s) (a : Act s t) : Held t where
  queue := a.keeps_queue h.queue
  table := a.keeps_table h.table
  speed := a.keeps_speed h.speed
  run := a.keeps_run h.run
  hold := a.keeps_holdLaw h.hold h.position h.wind.1
  position := a.keeps_position h.hold h.position
  windHold := a.keeps_windHold h.hold h.windHold
  snap := a.keeps_snap h.snap
  tracker := a.keeps_tracker h.tracker
  cabin := a.keeps_cabin h.cabin
  wind := a.keeps_wind h.wind
  trace := a.keeps_trace h.trace h.wind
  shape := a.keeps_shape h.shape
  pollShape := a.keeps_pollShape h.pollShape
  lines := a.keeps_lines h.lines

theorem OuterAct.keeps_held (h : Held s) (a : OuterAct s t) : Held t where
  queue := a.keeps_queue h.queue
  table := a.keeps_table h.table
  speed := a.keeps_speed h.speed
  run := a.keeps_run h.run
  hold := a.keeps_holdLaw h.hold
  position := a.keeps_position h.position
  windHold := a.keeps_windHold h.windHold
  snap := a.keeps_snap h.snap
  tracker := a.keeps_tracker h.tracker
  cabin := a.keeps_cabin h.cabin
  wind := a.keeps_wind h.wind
  trace := a.keeps_trace h.trace
  shape := a.keeps_shape h.shape
  pollShape := a.keeps_pollShape h.pollShape
  lines := a.keeps_lines h.lines

theorem Work.keeps_inv (w : Work line s false false t) (h : Inv s) : Inv t := by
  obtain ⟨hheld, hcauses, hpoll⟩ := inv_iff.mp h
  exact inv_iff.mpr ⟨w.keeps (fun h a => a.keeps_held h) (fun h a => a.keeps_held h) hheld,
    w.keeps_causes rfl hcauses, w.keeps_pollLaw rfl hpoll⟩

/-! ### The resets (R165, R167) -/

/-- The records that power-on and a restart both leave at their reset values (R165, R167). -/
def ResetRecords (t : State) : Prop :=
  t.consoleQueue = [] ∧ t.requests = [] ∧ t.waitTag = none ∧ t.driveQueue = DriveQueue.initial ∧
  t.out = OutputRecord.initial ∧ t.req.source = .console ∧ t.run = RunRecord.initial ∧
  (∃ time, t.holds = resetHolds time) ∧ t.snaps = SnapshotSlots.initial ∧
  t.tracker = Tracker.initial ∧ t.wind = WindRecord.initial ∧ t.trace = WindTrace.initial ∧
  t.results = List.replicate 16 ResultRecord.initial ∧ t.rx.console = .empty ∧ t.rx.drive = .empty ∧
  t.poller = Poller.initial

theorem powerOn_resetRecords (s : State) : ResetRecords (powerOn s) :=
  ⟨rfl, rfl, rfl, rfl, rfl, rfl, rfl, ⟨0, rfl⟩, rfl, rfl, rfl, rfl, rfl, rfl, rfl, rfl⟩

theorem restart_resetRecords (s : State) : ResetRecords (restart s) :=
  ⟨rfl, rfl, rfl, rfl, rfl, rfl, rfl, ⟨s.ms, rfl⟩, rfl, rfl, rfl, rfl, rfl, rfl, rfl, rfl⟩

/-- The two entries of a reset are in a form of R116. -/
theorem resetHolds_law (time : Word32) (c : CauseStates) :
    ((resetHolds time).map fun e => e.source).Nodup ∧
      ∀ e ∈ resetHolds time, e.formed c = true := by
  constructor
  · have hsources : (resetHolds time).map (fun e => e.source) = [.position, .masts] := rfl
    rw [hsources]
    decide
  · intro e he
    simp only [resetHolds, List.mem_cons, List.not_mem_nil, or_false] at he
    rcases he with rfl | rfl <;> rfl

/-- The invariant after a reset, from what it keeps of the tables and the cabins. -/
theorem inv_of_reset (h : ResetRecords t) (hcauses : t.causes = t.tests) (table : TableInv t)
    (cabin : CabinInv t) (shape : ShapeInv t) (entries : t.pollEntries.length = 16)
    (range : t.windTable.inRange = true) (masts : t.masts.length = 4)
    (good : ∀ m ∈ t.masts, m.good t.windTable.gustLength = true) : Inv t := by
  obtain ⟨hcq, hreq, hwait, hdq, hout, hsrc, hrun, ⟨time, hholds⟩, hsnap, htr, hwind, htrace, hres,
    hcon, hdrv, hpoll⟩ := h
  have hlaw : HoldLaw t := by
    unfold HoldLaw
    rw [hholds]
    exact resetHolds_law time _
  have hpos : PositionLaw t := by
    unfold PositionLaw State.entry
    rw [hholds, htr]
    rfl
  have hwh : WindHoldLaw t := by
    unfold WindHoldLaw State.entry
    rw [hholds, hwind]
    rfl
  refine inv_iff.mpr ⟨⟨?_, table, ?_, ?_, hlaw, hpos, hwh, ?_, ?_, cabin, ?_, ?_, shape,
    ⟨entries, by rw [hres]; rfl⟩, ⟨hcon, hdrv⟩⟩, hcauses, ?_⟩
  · simp [QueueInv, hcq, hreq, hwait, hdq, DriveQueue.initial]
  · simp [SpeedInv, hout, OutputRecord.initial, roundSetpoint]
  · exact .ended (by rw [hrun]; rfl) hsrc (by rw [hrun]; rfl) (by rw [hrun]; rfl) hwait
  · simp [SnapInv, hsnap, SnapshotSlots.initial, SnapshotSlots.unread]
  · rw [trackerInv_iff, htr]
    exact Tracker.law_of_cleared rfl rfl rfl rfl rfl (.inl rfl)
  · rw [windInv_iff, hwind]
    exact ⟨range, masts, good, by decide, by decide, by decide, by decide, by decide, by decide⟩
  · rw [traceInv_iff, htrace]
    exact ⟨by decide, rfl, nofun, nofun⟩
  · simp [PollLaw, hpoll, Poller.initial]

theorem powerOn_inv (s : State) : Inv (powerOn s) := by
  refine inv_of_reset (powerOn_resetRecords s) rfl ⟨nofun, nofun, nofun⟩ (powerOn_cabinInv s)
    ⟨rfl, rfl, fun p hp => ?_, .inl rfl, rfl⟩ rfl rfl rfl fun m hm => ?_
  · rw [List.eq_of_mem_replicate hp]
    rfl
  · rw [List.eq_of_mem_replicate hm]
    rfl

theorem restart_inv (h : Inv s) (hp : s.modeRec.restartPending = true) : Inv (restart s) := by
  have hchecks : (restart s).tableChecks = s.tableChecks :=
    tableChecks_congr rfl rfl rfl rfl (List.map_map ..) rfl
  obtain ⟨hrange, hlen, -⟩ := windInv_iff.mp h.wind
  obtain ⟨-, -, -, hentries, -⟩ := h.poll
  refine inv_of_reset (restart_resetRecords s) rfl ⟨h.table.1, fun hc => ?_, nofun⟩
    (restart_cabinInv h.cabin h.table hp) h.shape hentries hrange ?_ fun x hx => ?_
  · rw [hchecks]
    exact h.table.2.1 hc
  · exact (List.length_map _).trans hlen
  · obtain ⟨m, -, rfl⟩ := List.mem_map.mp hx
    rfl

/-- Settles O5: a step is a chain of changes that each keep the invariant, or a reset. -/
theorem everyStepKeepsInvariant : Obligations.EveryStepKeepsInvariant := by
  intro s t h hstep
  rcases step_work hstep with w | ⟨u, w, rfl | ⟨hp, rfl⟩⟩
  · exact w.keeps_inv h
  · exact powerOn_inv u
  · exact restart_inv (w.keeps_inv h) hp

end Sys2Proof.Machine


/-! ## The platform pass: its crossings (R60 to R64) -/

namespace Sys2Proof.Machine

set_option Elab.async false

variable {s : State} {k : Nat} {c : Cabin}

/-! ### A cabin and its record -/

theorem cabin_eq_of_getElem? (h : s.cabins[k]? = some c) : s.cabin k = c := by
  simp [State.cabin, List.getD_eq_getElem?_getD, h]

theorem modifyCabin_cabins_of_getElem? (h : s.cabins[k]? = some c) (f : Cabin → Cabin) :
    (modifyCabin k f s).cabins = s.cabins.set k (f c) := by
  simp [List.modify_eq_set_getElem?, h]

theorem cabins_set_self (h : s.cabins[k]? = some c) : s.cabins.set k c = s.cabins := by
  obtain ⟨hk, rfl⟩ := List.getElem?_eq_some_iff.mp h
  exact List.set_getElem_self hk

/-! ### The start of a pass (R60, R61) -/

theorem crossAStart_cabins (h : s.cabins[k]? = some c) :
    (crossAStart k s).cabins = s.cabins.set k (if s.mayAlight k then
      { c with state := .alighting, door := .notReported, hasValid := false, zoneCount := 0,
               entryBarred := false } else c) := by
  unfold crossAStart
  split
  · simp only [cabinChanged_frame, modifyCabin_cabins_of_getElem? h]
  · exact (cabins_set_self h).symm

/-- The five conditions of R60. -/
theorem mayAlight_iff (s : State) (k : Nat) : s.mayAlight k = true ↔
    (s.cabin k).inService = true ∧ (s.cabin k).withheld = none ∧ s.tracker.state = .locked ∧
      s.modeRec.mode = .service ∧ ((s.cabin k).state = .empty ∨ (s.cabin k).state = .loaded ∨
        (s.cabin k).state = .unverified) := by
  simp [State.mayAlight, and_assoc, or_assoc]

theorem crossBStart_cabins (h : s.cabins[k]? = some c) :
    (crossBStart k s).cabins = s.cabins.set k (if c.state = .alighting then
      c.leaveAlightZone s.entryBar s.ms else c) := by
  unfold crossBStart
  rw [cabin_eq_of_getElem? h]
  split
  · simp only [cabinChanged_frame, latchIf_frame, modifyCabin_cabins_of_getElem? h]
  · exact (cabins_set_self h).symm

/-- The entry bar of R62. -/
theorem entryBar_eq (s : State) :
    s.entryBar = decide (s.holds ≠ [] ∨ s.boardStation.freshness ≠ .fresh) := by
  unfold State.entryBar
  rw [Bool.decide_or]
  congr 1
  · cases s.holds <;> rfl
  · cases s.boardStation.freshness <;> rfl

/-- Settles O28, by the record each of the two crossings leaves. -/
theorem platformZonesEntered : Obligations.PlatformZonesEntered := by
  intro s k c h
  constructor
  · have ha := crossAStart_cabins h
    simp only [mayAlight_iff, cabin_eq_of_getElem? h] at ha
    exact ha
  · have hb := crossBStart_cabins h
    rw [← ite_not, entryBar_eq] at hb
    exact hb

/-! ### The lock point (R63) -/

/-- A report at STOP leaves its entry at STOP, whatever stood before. -/
theorem reportedEntry_stop (old : HoldEntry) (k : Nat) (sub : Option Nat) :
    (reportedEntry old k .stop sub).cls = .stop ∧ (reportedEntry old k .stop sub).cause = k ∧
      (reportedEntry old k .stop sub).subject = sub := by
  unfold reportedEntry
  split
  · exact ⟨higher_stop _, rfl, rfl⟩
  · exact ⟨rfl, rfl, rfl⟩

/-- The entry that a DOOR cause leaves. -/
theorem entry_doorCause (cause k : Nat) (s : State) : ∃ e, (doorCause cause k s).entry .door = some e ∧
    e.cls = .stop ∧ e.cause = cause ∧ e.subject = some k := by
  refine ⟨_, entry_causeReport_same cause .stop (some k), ?_⟩
  cases s.entry .door with
  | none => exact ⟨rfl, rfl, rfl⟩
  | some old => exact reportedEntry_stop old cause (some k)

theorem hasStop_doorCause (cause k : Nat) (s : State) : (doorCause cause k s).hasStop = true := by
  obtain ⟨e, he, hs, -⟩ := entry_doorCause cause k s
  exact List.any_eq_true.mpr ⟨e, (entry_source he).2, by simp [hs]⟩

/-- Settles O30, by the DOOR report that the lock point makes. -/
theorem lateLockStops : Obligations.LateLockStops := by
  intro s k c h
  have hlock : takeCrossing k .lock s =
      if c.state = .boarding ∧ c.door ≠ .locked then doorCause 1 k s else s := by
    rw [← cabin_eq_of_getElem? h]
    rfl
  rw [hlock]
  refine ⟨fun hc => if_neg ?_, fun hb hd => ?_⟩
  · rintro ⟨hb, hd⟩
    exact hc.elim (· hb) hd
  · rw [if_pos ⟨hb, hd⟩]
    obtain ⟨e, he, hs, hcause, hsub⟩ := entry_doorCause 1 k s
    refine ⟨by simp [he, hs, hcause, hsub], fun hn => ⟨?_, ?_⟩⟩
    · exact (congrArg State.holds (causeReport_new hn)).trans (addEntry_holds _ s)
    · exact causeReport_new_stop_stops hn 1 (some k)

/-! ### The end of a pass (R59, R64) -/

/-- A DOOR cause bars no cabin when none is in BOARDING. -/
theorem doorCause_cabins (hn : ∀ x ∈ s.cabins, x.state ≠ .boarding) (cause k : Nat) :
    (doorCause cause k s).cabins = s.cabins := by
  have hbar (p : Prop) [Decidable p] : (s.cabins.map fun x =>
      if p ∧ x.state = .boarding then { x with entryBarred := true } else x) = s.cabins := by
    conv_rhs => rw [← List.map_id s.cabins]
    exact List.map_congr_left fun x hx => if_neg fun hb => hn x hx hb.2
  unfold doorCause
  cases he : s.entry .door with
  | none =>
    rw [causeReport_new_stop he]
    exact hbar (s.holds = [])
  | some old =>
    rw [causeReport_old he]
    simp

/-- The record at the end of a pass is not in BOARDING. -/
theorem leaveBoardZone_state (c : Cabin) (ms : Word32) : (c.leaveBoardZone ms).state ≠ .boarding := by
  unfold Cabin.leaveBoardZone confirmedState
  simp only
  split
  · simp only
    split <;> simp
  · simp

/-- A pass ends with the record of R64, and a DOOR entry for an unlocked exit. -/
theorem passEnd_eq (h : s.cabins[k]? = some c)
    (hn : ∀ x ∈ s.cabins.set k (c.leaveBoardZone s.ms), x.state ≠ .boarding) :
    (passEnd k s).cabins = s.cabins.set k (c.leaveBoardZone s.ms) ∧
      (c.door ≠ .locked → ∃ u, passEnd k s = doorCause 2 k u) := by
  unfold passEnd
  simp only [cabin_eq_of_getElem? h]
  have hcabins (b : Bool) : (cabinChanged (latchIf b .countSaturated
      (modifyCabin k (fun x => x.leaveBoardZone s.ms) s))).cabins =
      s.cabins.set k (c.leaveBoardZone s.ms) := by
    simp only [cabinChanged_frame, latchIf_frame, modifyCabin_cabins_of_getElem? h]
  split
  · next hd => exact ⟨hcabins _, fun hne => absurd hd hne⟩
  · refine ⟨?_, fun _ => ⟨_, rfl⟩⟩
    rw [doorCause_cabins (by rwa [hcabins]), hcabins]

/-- Settles O29, by the record and the DOOR report of a pass's end. -/
theorem passEndsAtBoardEnd : Obligations.PassEndsAtBoardEnd := by
  intro s k c h honly
  have hk := (List.getElem?_eq_some_iff.mp h).1
  have hfree := modifyCabin_cabins_of_getElem? h fun c => { c with withheld := none }
  have hget : (modifyCabin k (fun c => { c with withheld := none }) s).cabins[k]? =
      some { c with withheld := none } := by
    rw [hfree, List.getElem?_set_self hk]
  have hcross : takeCrossing k .bEnd s = if c.state = .boarding then
      passEnd k (modifyCabin k (fun c => { c with withheld := none }) s)
    else modifyCabin k (fun c => { c with withheld := none }) s := by
    rw [← cabin_eq_of_getElem? h]
    rfl
  have hset : (modifyCabin k (fun c => { c with withheld := none }) s).cabins.set k
      (Cabin.leaveBoardZone { c with withheld := none } s.ms) =
        s.cabins.set k (Cabin.leaveBoardZone { c with withheld := none } s.ms) := by
    rw [hfree, List.set_set]
  have hnone : ∀ x ∈ s.cabins.set k (Cabin.leaveBoardZone { c with withheld := none } s.ms),
      x.state ≠ .boarding := by
    intro x hx hb
    obtain ⟨j, hj⟩ := List.mem_iff_getElem?.mp hx
    by_cases hjk : k = j
    · rw [← hjk, List.getElem?_set_self hk] at hj
      cases hj
      exact leaveBoardZone_state _ _ hb
    · rw [List.getElem?_set_ne hjk] at hj
      exact hjk (honly j x hj hb).symm
  obtain ⟨hpass, hdoor⟩ := passEnd_eq hget (hset ▸ hnone)
  rw [hcross]
  refine ⟨?_, fun hb hd => ?_⟩
  · by_cases hb : c.state = .boarding
    · rw [if_pos hb, if_neg (not_not.mpr hb)]
      refine hpass.trans (hset.trans (congrArg (s.cabins.set k) ?_))
      have hconf : Cabin.confirmed { c with withheld := none } = true ↔
          c.door = .locked ∧ c.hasValid = true := by
        simp [Cabin.confirmed]
      unfold Cabin.leaveBoardZone
      simp only [hconf]
      split <;> rfl
    · rw [if_neg hb, if_pos hb, hfree]
  · rw [if_pos hb]
    obtain ⟨u, hu⟩ := hdoor hd
    obtain ⟨e, he, -, hcause, hsub⟩ := entry_doorCause 2 k u
    rw [hu]
    exact ⟨hasStop_doorCause 2 k u, by simp [he, hcause, hsub]⟩

end Sys2Proof.Machine


/-! ## The POLL of an entry (R66, R67, R68, R82) -/

namespace Sys2Proof.Machine

set_option Elab.async false

variable {s : State} {i : Nat}

/-- The platform station that an entry speaks for: the first of its kind in the walked list (R66). -/
def State.speaksFor (s : State) (i : Nat) : Option Station :=
  match (s.pollEntry i).kind with
  | .alight => if s.stationEntry .alight = some i then some .alight else none
  | .board => if s.stationEntry .board = some i then some .board else none
  | _ => none

theorem speaksFor_iff (p : Station) :
    s.speaksFor i = some p ↔ (s.pollEntry i).kind = p.kind ∧ s.stationEntry p = some i := by
  unfold State.speaksFor
  cases p <;> cases (s.pollEntry i).kind <;> simp [Station.kind]

/-- The cabin that the POLL of an entry shows, and its lamp argument (R67). -/
def State.shownBy (s : State) (i : Nat) : Option Nat := (s.speaksFor i).bind s.zoneCabin

def State.lampOf (s : State) (i : Nat) : Bool :=
  (s.speaksFor i).any fun p => s.barredLamp p (s.zoneCabin p)

theorem shownBy_of_speaksFor {p : Station} (h : s.speaksFor i = some p) :
    s.shownBy i = s.zoneCabin p := by
  rw [State.shownBy, h, Option.bind_some]

theorem showCabin_eq : showCabin i s = match s.speaksFor i with
    | some p => writeStation p { s.station p with shown := s.zoneCabin p } s
    | none => s := by
  unfold showCabin State.speaksFor
  cases (s.pollEntry i).kind
  case alight => simp only; split <;> rfl
  case board => simp only; split <;> rfl
  all_goals rfl

/-- The station records after a POLL: the one it speaks for shows its cabin. -/
theorem showCabin_stations (p : Station) : (showCabin i s).station p =
    if s.speaksFor i = some p then { s.station p with shown := s.zoneCabin p } else s.station p := by
  rw [showCabin_eq]
  cases h : s.speaksFor i with
  | none => simp
  | some q =>
    by_cases hp : p = q
    · simp [hp]
    · have hq : q ≠ p := fun hx => hp hx.symm
      simp [hp, hq]

theorem showCabin_rest : showCabin i s = { s with
    alightStation := (showCabin i s).alightStation
    boardStation := (showCabin i s).boardStation } := by
  rw [showCabin_eq]
  split
  · next p _ => cases p <;> rfl
  · rfl

theorem showCabin_poller : (showCabin i s).poller = s.poller := by
  rw [showCabin_rest]

theorem pollFrame_eq : s.pollFrame i = ⟨0x50, byte (s.addressOf i),
    match (s.pollEntry i).kind with
    | .alight => [byte ((s.shownBy i).getD 255), flag (s.doorRelease (s.shownBy i)), 0]
    | .board =>
      [byte ((s.shownBy i).getD 255), flag (s.doorRelease (s.shownBy i)), flag (s.lampOf i)]
    | _ => []⟩ := by
  simp only [State.pollFrame, State.shownBy, State.lampOf, State.speaksFor]
  cases (s.pollEntry i).kind
  case alight => by_cases h : s.stationEntry .alight = some i <;> simp only [h, if_true, if_false] <;> rfl
  case board => by_cases h : s.stationEntry .board = some i <;> simp only [h, if_true, if_false] <;> rfl
  all_goals rfl

/-- The door release of R68. -/
theorem doorRelease_iff (k : Nat) : s.doorRelease (some k) = true ↔ s.modeRec.mode = .service ∧
    s.tracker.state = .locked ∧ s.fb.state = .present ∧
    (∃ v, s.fb.speed = some v ∧ v.natAbs ≤ s.ride.doorSpeedLimit) ∧ (s.cabin k).withheld = none := by
  have hspeed : s.doorSpeedOk = true ↔
      ∃ v, s.fb.speed = some v ∧ v.natAbs ≤ s.ride.doorSpeedLimit := by
    unfold State.doorSpeedOk
    cases s.fb.speed <;> simp
  simp only [State.doorRelease, Bool.and_eq_true, beq_iff_eq, hspeed, Option.isNone_iff_eq_none,
    and_assoc]

/-- A POLL that shows no cabin lights no lamp. -/
theorem lampOf_none (h : s.shownBy i = none) : s.lampOf i = false := by
  unfold State.lampOf
  cases hp : s.speaksFor i with
  | none => rfl
  | some p =>
    rw [shownBy_of_speaksFor hp] at h
    simp only [Option.any_some, h]
    cases p <;> rfl

theorem sendPoll_poller : (sendPoll i s).poller = { s.poller with
    phase := .replyWait, lastPoll := some (s.pollFrame i)
    timer := some (s.after s.pollParams.replyTimeout) } := by
  rw [← showCabin_poller (s := s) (i := i)]
  rfl

theorem execPoll_sends (hp : s.poller.phase = .toPoll) (hi : s.poller.inFlight = some i)
    (hr : s.rx.field = .empty) : exec .poll s = .next (sendPoll i s) := by
  have hexec : exec .poll s = execPoll s := rfl
  rw [hexec]
  simp only [execPoll, hp, hi, hr, if_true]

/-- Settles O33, by the station that the entry in flight speaks for. -/
theorem pollCarriesArguments : Obligations.PollCarriesArguments := by
  intro s i hp hi hr
  have hstation (p : Station) : (sendPoll i s).station p =
      if s.speaksFor i = some p then { s.station p with shown := s.zoneCabin p }
      else s.station p := showCabin_stations p
  have speaks {p : Station} (hk : (s.pollEntry i).kind = p.kind) (he : s.stationEntry p = some i) :
      s.speaksFor i = some p := (speaksFor_iff p).mpr ⟨hk, he⟩
  have shows {p : Station} (h : s.speaksFor i = some p) : s.shownBy i = s.zoneCabin p ∧
      (sendPoll i s).station p = { s.station p with shown := s.shownBy i } := by
    rw [hstation, if_pos h, shownBy_of_speaksFor h]
    exact ⟨rfl, rfl⟩
  have silent (hk : (s.pollEntry i).kind = .alight ∧ s.stationEntry .alight ≠ some i ∨
      (s.pollEntry i).kind = .board ∧ s.stationEntry .board ≠ some i) : s.shownBy i = none := by
    unfold State.shownBy State.speaksFor
    rcases hk with ⟨hk, he⟩ | ⟨hk, he⟩ <;> simp [hk, he]
  have keeps {p : Station} (hk : (s.pollEntry i).kind ≠ p.kind) :
      (sendPoll i s).station p = s.station p := by
    rw [hstation, if_neg fun h => hk ((speaksFor_iff p).mp h).1]
  refine ⟨s.shownBy i, s.doorRelease (s.shownBy i), s.lampOf i, sendPoll i s, execPoll_sends hp hi hr,
    fun hn => ⟨by rw [hn]; rfl, lampOf_none hn⟩, fun k hk => hk ▸ doorRelease_iff k, ?_,
    fun hk he => shows (p := .alight) (speaks hk he), fun hk he => ?_, fun hk he => silent (.inl ⟨hk, he⟩),
    fun hk he => silent (.inr ⟨hk, he⟩), ?_, keeps (p := .alight), keeps (p := .board)⟩
  · rw [sendPoll_poller, pollFrame_eq]
    rfl
  · have hs := speaks (p := .board) hk he
    refine ⟨(shows hs).1, (shows hs).2, fun k hshown => ?_⟩
    rw [shownBy_of_speaksFor hs] at hshown
    rw [State.lampOf, hs, Option.any_some, hshown]
    rfl
  · exact congrArg (fun u : State => { u with poller := (sendPoll i s).poller }) showCabin_rest

end Sys2Proof.Machine


/-! ## The reply timeout and a station going STALE (R62, R72, R83, R85 to R88) -/

namespace Sys2Proof.Machine

set_option Elab.async false

variable {s : State} {src : HoldSource}

/-! ### Reports at STOP of a source whose entries are latched STOPs (R116) -/

/-- A DOOR or PLATFORM entry is a latched STOP with the flag of its test. -/
theorem HoldEntry.formed_latchedStop {c : CauseStates} {e : HoldEntry} (h : e.formed c = true)
    (hs : e.source = .door ∨ e.source = .platform) :
    e.cls = .stop ∧ e.latched = true ∧ e.present = presentFlag e.source c := by
  cases e
  rcases hs with hs | hs <;> subst hs <;> simp_all [HoldEntry.formed]

/-- The entry that a report of a DOOR or PLATFORM cause leaves, whatever stood before. -/
theorem entry_causeReport_latchedStop (hs : src = .door ∨ src = .platform)
    (hf : ∀ e, s.entry src = some e → e.formed s.causes = true) (k : Nat) (sub : Option Nat) :
    (causeReport src k .stop sub s).entry src = some ⟨src, .stop, k, sub,
      ((s.entry src).map fun e => e.time).getD s.ms, true, presentFlag src s.causes⟩ := by
  rw [entry_causeReport_same]
  cases he : s.entry src with
  | none => rcases hs with rfl | rfl <;> rfl
  | some old =>
    have hsrc := (entry_source he).1
    obtain ⟨-, hlatched, hpresent⟩ := HoldEntry.formed_latchedStop (hf old he) (hsrc ▸ hs)
    simp only [reportedEntry, hlatched, if_true, hpresent, higher_stop, hsrc, Option.map_some,
      Option.getD_some]

/-- A report at STOP bars the cabins in BOARDING when the list was empty. -/
theorem causeReport_stop_cabins (k : Nat) (sub : Option Nat) :
    (causeReport src k .stop sub s).cabins = if s.holds = [] then s.cabins.map fun c =>
      if c.state = .boarding then { c with entryBarred := true } else c else s.cabins := by
  cases he : s.entry src with
  | none =>
    rw [causeReport_new_stop he]
    split
    · next h => simp [State.stopped, State.withEntry, h]
    · next h => simp [State.stopped, State.withEntry, h]
  | some old =>
    have hne : s.holds ≠ [] := List.ne_nil_of_mem (entry_source he).2
    rw [causeReport_old he, if_neg hne]
    simp

theorem causeReport_holds_ne_nil (k : Nat) (c : HoldClass) (sub : Option Nat) :
    (causeReport src k c sub s).holds ≠ [] := by
  intro h
  have := entry_causeReport_same (s := s) (src := src) k c sub
  rw [State.entry, h] at this
  cases this

/-- A STOP disarms and ends the run, also where that has been done (R126). -/
theorem causeReport_keeps_stopped (h : s.req.armed = false ∧ s.run.running = false) (k : Nat)
    (sub : Option Nat) : (causeReport src k .stop sub s).req.armed = false ∧
      (causeReport src k .stop sub s).run.running = false := by
  obtain ⟨u, e, ⟨hrun, hreq, -⟩, ⟨heq, -⟩ | heq⟩ := causeReport_cases src k .stop sub s
  · rw [heq, hrun, hreq]
    exact h
  · rw [heq]
    exact stopped_stops e u

/-! ### A platform station going STALE (R72) -/

/-- The state after the reports of a station going STALE, from a hold list in the forms of R116. -/
theorem stationStale_entries (hf : ∀ e ∈ s.holds, e.formed s.causes = true) (p : Station) :
    (stationStale p s).entry .platform = some ⟨.platform, .stop, 2, s.stationAddress p,
      ((s.entry .platform).map fun e => e.time).getD s.ms, true, presentFlag .platform s.causes⟩ ∧
    (stationStale p s).entry .door = (match s.zoneCabin p with
      | some k => some ⟨.door, .stop, 4, some k,
          ((s.entry .door).map fun e => e.time).getD s.ms, true, presentFlag .door s.causes⟩
      | none => s.entry .door) ∧
    ∀ src, src ≠ .door → src ≠ .platform → (stationStale p s).entry src = s.entry src := by
  have formed (src : HoldSource) (e : HoldEntry) (he : s.entry src = some e) :
      e.formed s.causes = true := hf e (entry_source he).2
  have hplat := entry_causeReport_latchedStop (.inr rfl) (formed .platform) 2 (s.stationAddress p)
  have hother (src : HoldSource) (hs : .platform ≠ src) :
      (platformCause 2 p s).entry src = s.entry src := entry_causeReport_other hs ..
  have hcauses : (platformCause 2 p s).causes = s.causes := by simp
  have hms : (platformCause 2 p s).ms = s.ms := by simp
  unfold stationStale
  cases s.zoneCabin p with
  | none => exact ⟨hplat, hother .door (by decide), fun src _ hs => hother src hs.symm⟩
  | some k =>
    have hdoor := entry_causeReport_latchedStop (s := platformCause 2 p s) (.inl rfl)
      (fun e he => by
        rw [hother .door (by decide)] at he
        rw [hcauses]
        exact formed .door e he) 4 (some k)
    rw [hother .door (by decide), hcauses, hms] at hdoor
    refine ⟨(entry_causeReport_other (by decide) ..).trans hplat, hdoor, fun src hd hs => ?_⟩
    exact (entry_causeReport_other hd.symm ..).trans (hother src hs.symm)

/-- The sources of the hold list after a station goes STALE. -/
theorem stationStale_sources (p : Station) :
    (stationStale p s).holds.map (fun e => e.source) = s.holds.map (fun e => e.source) ++
      (if s.entry .platform = none then [.platform] else []) ++
      (if (s.zoneCabin p).isSome ∧ s.entry .door = none then [.door] else []) := by
  have new (o : Option HoldEntry) (x : HoldSource) :
      (if o.isSome then [] else [x]) = if o = none then [x] else [] := by cases o <;> rfl
  have hplat : (platformCause 2 p s).holds.map (fun e => e.source) =
      s.holds.map (fun e => e.source) ++ (if s.entry .platform = none then [.platform] else []) := by
    rw [← new]
    exact sources_causeReport ..
  have hdoor : (platformCause 2 p s).entry .door = s.entry .door :=
    entry_causeReport_other (by decide) ..
  unfold stationStale
  cases s.zoneCabin p with
  | none => simpa using hplat
  | some k =>
    have h := sources_causeReport (s := platformCause 2 p s) (src := .door) 4 .stop (some k)
    rw [hplat, hdoor, new] at h
    simpa [doorCause] using h

/-- The cabins barred when a station goes STALE: those of an empty list's first entry (R62). -/
theorem stationStale_cabins (p : Station) :
    (stationStale p s).cabins = if s.holds = [] then s.cabins.map fun c =>
      if c.state = .boarding then { c with entryBarred := true } else c else s.cabins := by
  have hplat : (platformCause 2 p s).cabins = _ := causeReport_stop_cabins 2 (s.stationAddress p)
  unfold stationStale
  cases s.zoneCabin p with
  | none => exact hplat
  | some k =>
    have hdoor : (doorCause 4 k (platformCause 2 p s)).cabins = _ := causeReport_stop_cabins 4 (some k)
    have hne : (platformCause 2 p s).holds ≠ [] :=
      causeReport_holds_ne_nil 2 .stop (s.stationAddress p)
    simp only
    rw [hdoor, if_neg hne, hplat]

theorem stationStale_tests (p : Station) : (stationStale p s).tests = s.tests := by
  unfold stationStale
  cases s.zoneCabin p with
  | none => exact causeReport_tests ..
  | some k => exact (causeReport_tests ..).trans (causeReport_tests ..)

/-- A new entry has the effects of a STOP, and without one the run and the snapshots stay. -/
theorem stationStale_stops (hf : ∀ e ∈ s.holds, e.formed s.causes = true) (p : Station) :
    (s.entry .platform = none ∨ (s.zoneCabin p).isSome ∧ s.entry .door = none →
      (stationStale p s).req.armed = false ∧ (stationStale p s).run.running = false) ∧
    (s.entry .platform ≠ none → ((s.zoneCabin p).isSome → s.entry .door ≠ none) →
      (stationStale p s).req = s.req ∧ (stationStale p s).run = s.run ∧
        (stationStale p s).snaps = s.snaps) := by
  have hdoor : (platformCause 2 p s).entry .door = s.entry .door :=
    entry_causeReport_other (by decide) ..
  have old {src : HoldSource} {e : HoldEntry} (he : s.entry src = some e)
      (hs : src = .door ∨ src = .platform) : e.cls = .stop := by
    obtain ⟨hsrc, hmem⟩ := entry_source he
    exact (HoldEntry.formed_latchedStop (hf e hmem) (hsrc ▸ hs)).1
  refine ⟨fun hnew => ?_, fun hp hd => ?_⟩
  · have hstop (h : s.entry .platform = none) : (platformCause 2 p s).req.armed = false ∧
        (platformCause 2 p s).run.running = false := causeReport_new_stop_stops h ..
    unfold stationStale
    cases hz : s.zoneCabin p with
    | none => exact hstop (hnew.resolve_right (by simp [hz]))
    | some k =>
      rcases hnew with hnew | ⟨-, hnew⟩
      · exact causeReport_keeps_stopped (hstop hnew) ..
      · exact causeReport_new_stop_stops (hdoor.trans hnew) ..
  · obtain ⟨e, he⟩ := Option.ne_none_iff_exists'.mp hp
    have hplat : platformCause 2 p s = putEntry (reportedEntry e 2 .stop (s.stationAddress p)) s :=
      causeReport_old_stop he (old he (.inr rfl)) ..
    unfold stationStale
    cases hz : s.zoneCabin p with
    | none => exact hplat ▸ ⟨rfl, rfl, rfl⟩
    | some k =>
      obtain ⟨d, hd⟩ := Option.ne_none_iff_exists'.mp (hd (by simp [hz]))
      have hd' : doorCause 4 k (platformCause 2 p s) =
          putEntry (reportedEntry d 4 .stop (some k)) (platformCause 2 p s) :=
        causeReport_old_stop (hdoor.trans hd) (old hd (.inl rfl)) ..
      simp only
      rw [hd', hplat]
      exact ⟨rfl, rfl, rfl⟩

/-! ### The reply timeout -/

theorem stepped_noAnswer (r : ResultRecord) (p : PollParams) :
    (r.stepped p .noAnswer).last = .noAnswer ∧
      ((r.stepped p .noAnswer).freshness ≠ r.freshness →
        (r.stepped p .noAnswer).freshness = .stale) := by
  unfold ResultRecord.stepped
  rw [if_neg (by decide)]
  cases hf : r.freshness
  case stale => exact ⟨rfl, fun h => absurd rfl h⟩
  all_goals
    simp only
    split
    · exact ⟨rfl, fun _ => rfl⟩
    · exact ⟨rfl, fun h => absurd rfl h⟩

theorem recordResult_eq {i : Nat} {r : ResultRecord} (h : s.results[i]? = some r) (x : PollResult) :
    recordResult i x s = if (r.stepped s.pollParams x).freshness = r.freshness then
        { s with results := s.results.set i (r.stepped s.pollParams x) }
      else reportFreshness i (r.stepped s.pollParams x).freshness
        { s with results := s.results.set i (r.stepped s.pollParams x) } := by
  have hr : s.result i = r := by simp [State.result, List.getD_eq_getElem?_getD, h]
  simp only [recordResult, hr]

theorem execReplyWaitExpiry_eq {i : Nat} (hp : s.poller.phase = .replyWait)
    (hi : s.poller.inFlight = some i) : exec .replyWaitExpiry s = .next (recordResult i .noAnswer
      { s with poller := { s.poller with phase := .lateWindow, timer := s.extended } }) := by
  have hexec : exec .replyWaitExpiry s = execReplyWaitExpiry s := rfl
  rw [hexec]
  simp only [execReplyWaitExpiry, hp, hi]

theorem reportFreshness_frame_poll (i : Nat) (f : Freshness) (s : State) :
    (reportFreshness i f s).poller = s.poller ∧ (reportFreshness i f s).results = s.results := by
  simp

/-- A change of freshness of an entry that no block consumes (R88). -/
theorem reportFreshness_unheard {i : Nat} {f : Freshness} (hm : (s.pollEntry i).kind ≠ .mast)
    (hs : ∀ p : Station, s.stationEntry p ≠ some i) : reportFreshness i f s = s := by
  unfold reportFreshness
  cases hk : (s.pollEntry i).kind
  case mast => exact absurd hk hm
  case alight => exact if_neg (hs .alight)
  case board => exact if_neg (hs .board)
  all_goals rfl

theorem reportFreshness_station {i : Nat} {f : Freshness} {p : Station}
    (hk : (s.pollEntry i).kind = p.kind) (he : s.stationEntry p = some i) :
    reportFreshness i f s = stationFreshness p f s := by
  unfold reportFreshness
  cases p <;> simp [hk, he, Station.kind]

/-- The records a mast entry is the source of (R78, R93). -/
theorem mastSourceOf_eq_some (a i : Nat) (es : List PollEntry) : mastSourceOf a es = some i ↔
    a ≠ 0 ∧ (walkedList es).findIdx? (fun d => d.kind == .mast && d.address == a) = some i := by
  unfold mastSourceOf
  split
  · next h => simp [h]
  · next h => simp [h]

theorem reportFreshness_mast {i : Nat} {f : Freshness} (hk : (s.pollEntry i).kind = .mast) :
    reportFreshness i f s = { s with masts := s.masts.map fun m =>
      if ¬(m.address ≠ 0 ∧ s.walked.findIdx?
          (fun d : PollEntry => d.kind == .mast && d.address == m.address) = some i) ∨ m.freshness = f
      then m
      else if m.freshness = .fresh then
        { m with freshness := f, seeded := false, acc := 0, window := [] }
      else { m with freshness := f } } := by
  unfold reportFreshness
  rw [hk]
  simp only [mastFreshness, mastSourceOf_eq_some, Mast.withFreshness, State.walked]
  congr 2
  funext m
  by_cases h : m.address ≠ 0 ∧ (walkedList s.pollEntries).findIdx?
      (fun d : PollEntry => d.kind == .mast && d.address == m.address) = some i
  · simp only [eq_true h, not_true, false_or, if_true]
  · simp only [eq_false h, not_false_eq_true, true_or, if_true, if_false]

/-! ### A station's record going STALE -/

theorem cabinIn_map {st : CabinState} {f : Cabin → Cabin} (hf : ∀ c, (f c).state = c.state) (k : Nat)
    (l : List Cabin) : cabinIn st k (l.map f) = cabinIn st k l := by
  induction l generalizing k with
  | nil => rfl
  | cons c l ih => simp only [List.map_cons, cabinIn, hf, ih]

theorem barBoarding_zoneCabin (p : Station) : (barBoarding s).zoneCabin p = s.zoneCabin p :=
  cabinIn_map (fun c => by split <;> rfl) 0 s.cabins

theorem barBoarding_tests : (barBoarding s).tests = s.tests := by
  refine tests_congr_doorTest fun a b => ?_
  rw [barBoarding_cabins, List.any_map]
  congr 1
  funext c
  simp only [Function.comp]
  split <;> rfl

/-- Cabins barred twice are barred. -/
theorem barBoarding_barBoarding : barBoarding (barBoarding s) = barBoarding s := by
  simp only [barBoarding, List.map_map]
  congr 2
  funext c
  simp only [Function.comp]
  split <;> simp_all

/-- The state as a station's change to STALE is reported: its record written, and the cabin in BOARDING
barred if it is the board station (R62). -/
def State.staled (s : State) (p : Station) : State :=
  if p = .board then barBoarding (writeStation p { s.station p with freshness := .stale } s)
  else writeStation p { s.station p with freshness := .stale } s

theorem stationFreshness_stale {p : Station} (h : (s.station p).freshness ≠ .stale) :
    stationFreshness p .stale s = retest (stationStale p (s.staled p)) := by
  unfold stationFreshness
  rw [if_neg h]
  simp only [or_true, and_true, if_true, State.staled]

theorem staled_frame (p : Station) : (s.staled p).holds = s.holds ∧ (s.staled p).causes = s.causes ∧
    (s.staled p).ms = s.ms ∧ (s.staled p).zoneCabin p = s.zoneCabin p ∧
    (s.staled p).tests = (writeStation p { s.station p with freshness := .stale } s).tests ∧
    (s.staled p).stationAddress p = s.stationAddress p ∧
    (s.staled p).req = s.req ∧ (s.staled p).run = s.run ∧ (s.staled p).snaps = s.snaps ∧
    (s.staled p).cabins = if p = .board then (barBoarding s).cabins else s.cabins := by
  cases p with
  | alight => exact ⟨rfl, rfl, rfl, rfl, rfl, rfl, rfl, rfl, rfl, rfl⟩
  | board => exact ⟨rfl, rfl, rfl, barBoarding_zoneCabin _, barBoarding_tests, rfl, rfl, rfl, rfl, rfl⟩

/-- The records that a station going STALE leaves: its own is written, the others stay. -/
theorem stationStale_staled_frame (p : Station) :
    let w := writeStation p { s.station p with freshness := .stale } s
    (stationStale p (s.staled p)).alightStation = w.alightStation ∧
    (stationStale p (s.staled p)).boardStation = w.boardStation ∧
    (stationStale p (s.staled p)).poller = s.poller ∧
    (stationStale p (s.staled p)).results = s.results ∧
    (stationStale p (s.staled p)).tracker = s.tracker ∧
    (stationStale p (s.staled p)).masts = s.masts ∧ (stationStale p (s.staled p)).wind = s.wind ∧
    (stationStale p (s.staled p)).out = s.out ∧ (stationStale p (s.staled p)).rx = s.rx := by
  unfold State.staled
  split <;> simp

theorem staled_stale_cabins (p : Station) :
    (stationStale p (s.staled p)).cabins = if p = .board ∨ s.holds = [] then s.cabins.map fun c =>
      if c.state = .boarding then { c with entryBarred := true } else c else s.cabins := by
  obtain ⟨hholds, -, -, -, -, -, -, -, -, hcabins⟩ := staled_frame (s := s) p
  rw [stationStale_cabins, hholds, hcabins]
  have htwice := congrArg State.cabins (barBoarding_barBoarding (s := s))
  simp only [barBoarding_cabins] at htwice ⊢
  by_cases hb : p = .board
  · simp only [hb, if_true, true_or, htwice, ite_self]
  · simp only [hb, if_false, false_or]

/-- Settles O35, by the consumer of the entry's change of freshness. -/
theorem silenceIsNoAnswer : Obligations.SilenceIsNoAnswer := by
  intro s i r hphase hflight hr e r' poller noted source
  have hexec : exec .replyWaitExpiry s = .next (if r'.freshness = r.freshness then noted
      else reportFreshness i r'.freshness noted) := by
    rw [execReplyWaitExpiry_eq hphase hflight]
    exact congrArg _ (recordResult_eq (s := { s with poller := poller }) hr .noAnswer)
  obtain ⟨hlast, hstale⟩ := stepped_noAnswer r s.pollParams
  refine ⟨hlast, ⟨_, hexec, ?_⟩, fun heq => ?_, fun hne hk => ?_, fun hne hk hs => ?_,
    fun p hne hk he hfresh hi => ?_⟩
  · split
    · exact ⟨rfl, rfl⟩
    · exact reportFreshness_frame_poll ..
  · rw [hexec, if_pos heq]
  · rw [hexec, if_neg hne]
    exact congrArg _ (reportFreshness_mast (s := noted) hk)
  · rw [hexec, if_neg hne]
    exact congrArg _ (reportFreshness_unheard (s := noted) hk hs)
  · intro w flagged reported
    have hr' : r'.freshness = .stale := hstale hne
    have hnot : (noted.station p).freshness ≠ .stale := by
      have hst : (noted.station p).freshness = r.freshness := by cases p <;> exact hfresh
      rw [hst, ← hr']
      exact hne.symm
    have hform : ∀ x ∈ s.holds, x.formed s.causes = true := hi.2.1
    have hframe := staled_frame (s := noted) p
    obtain ⟨hholds, hcauses, hms, hzone, htests, hes, hreq, hrun, hsnaps, -⟩ := hframe
    have hform' : ∀ x ∈ (noted.staled p).holds, x.formed (noted.staled p).causes = true := by
      rw [hholds, hcauses]
      exact hform
    have hentry (src : HoldSource) : (noted.staled p).entry src = s.entry src := entry_congr hholds
    have haddr : (noted.staled p).stationAddress p = some e.address := by
      have hs : noted.stationAddress p = (s.stationEntry p).map s.addressOf := rfl
      rw [hes, hs, he]
      rfl
    obtain ⟨hplat, hdoor, hothers⟩ := stationStale_entries hform' p
    obtain ⟨hstops, hstays⟩ := stationStale_stops hform' p
    have hsources := stationStale_sources (s := noted.staled p) p
    have hv : (stationStale p (noted.staled p)).tests = w.tests := (stationStale_tests p).trans htests
    have hretest (src : HoldSource) : (retest (stationStale p (noted.staled p))).entry src =
        ((stationStale p (noted.staled p)).entry src).map flagged :=
      entry_of_holds_map (fun _ => rfl) (by rw [retest_holds, hv])
    rw [hentry, haddr, hms] at hplat
    rw [hzone, hentry, hms] at hdoor
    rw [hholds, hentry, hentry, hzone] at hsources
    rw [hentry, hentry, hzone] at hstops hstays
    rw [hreq, hrun, hsnaps] at hstays
    obtain ⟨halight, hboard, hpoller, hresults, htracker, hmasts, hwind, hout, hrx⟩ :=
      stationStale_staled_frame (s := noted) p
    refine ⟨retest (stationStale p (noted.staled p)), ?_, hr', hpoller, hresults, halight, hboard, hv,
      htracker, hmasts, hwind, hout, hrx, staled_stale_cabins p, ?_, ?_, fun src hd hp => ?_, ?_,
      hstops, hstays⟩
    · rw [hexec, if_neg hne, hr', reportFreshness_station (s := noted) hk he, stationFreshness_stale hnot]
    · rw [hretest, hplat]
      rfl
    · rw [hretest, hdoor]
      have hz : noted.zoneCabin p = s.zoneCabin p := rfl
      rw [hz]
      cases s.zoneCabin p <;> rfl
    · rw [hretest, hothers src hd hp, hentry]
    · rw [retest_holds, List.map_map]
      exact hsources

end Sys2Proof.Machine


/-! ## CABIN SET (R75, R76) -/

namespace Sys2Proof.Machine

set_option Elab.async false

variable {s : State} {k : Nat} {c : Cabin}

/-! ### The profile unit does not look at the latched events -/

/-- The state with another latched event set. -/
def State.withLatched (s : State) (l : LatchedSet) : State := { s with latched := l }

variable (l : LatchedSet)

theorem endRun_withLatched (e : EndStatus) (s : State) :
    endRun e (s.withLatched l) = (endRun e s).withLatched l := by
  simp only [endRun_eq]
  rfl

theorem nextStep_withLatched (s : State) :
    nextStep (s.withLatched l) = (nextStep s).map fun t => t.withLatched l := by
  have hrun : (s.withLatched l).run = s.run := rfl
  have hsteps : (s.withLatched l).runSteps = s.runSteps := rfl
  simp only [nextStep, hrun, hsteps]
  split
  · rfl
  · split <;> rfl

theorem beginStep_withLatched (n : Nat) (s : State) :
    beginStep n (s.withLatched l) = (beginStep n s).withLatched l := by
  induction n generalizing s with
  | zero => rfl
  | succ n ih =>
    have hstart : startStep (s.withLatched l) = (startStep s).withLatched l := rfl
    have hfail (x : Step) (u : State) : (u.withLatched l).cabinAtFails x = u.cabinAtFails x := rfl
    have hempty (u : State) : (u.withLatched l).allEmpty = u.allEmpty := rfl
    have hstep (u : State) : (u.withLatched l).currentStep = u.currentStep := rfl
    simp only [beginStep, hstart, hfail, hempty, hstep]
    split
    · exact endRun_withLatched ..
    · split
      · rw [nextStep_withLatched]
        cases nextStep (startStep s) with
        | none => exact endRun_withLatched ..
        | some u => exact ih u
      · rfl

theorem stepMet_withLatched (s : State) : stepMet (s.withLatched l) = (stepMet s).withLatched l := by
  unfold stepMet
  rw [nextStep_withLatched]
  cases nextStep s with
  | none => exact endRun_withLatched ..
  | some u => exact beginStep_withLatched l s.stepFuel u

/-- A report of a cabin's change acts on the run alike, whatever is latched. -/
theorem cabinChanged_withLatched (s : State) :
    cabinChanged (s.withLatched l) = (cabinChanged s).withLatched l := by
  have hrun : (s.withLatched l).run = s.run := rfl
  have hempty : (s.withLatched l).allEmpty = s.allEmpty := rfl
  have hstep : (s.withLatched l).currentStep = s.currentStep := rfl
  simp only [cabinChanged, hrun, hempty, hstep, stepMet_withLatched]
  split <;> rfl

/-- A take-out of a cabin that the current step does not wait for. -/
theorem cabinTakenOut_other (h : s.currentStep.kind ≠ .cabinAt ∨ s.currentStep.param / 8 ≠ k) :
    cabinTakenOut k s = cabinChanged s := by
  unfold cabinTakenOut
  refine if_neg ?_
  simp only [Bool.and_eq_true, beq_iff_eq, not_and]
  exact fun hk => h.elim (fun hn => absurd hk.2 hn) id

/-! ### The record of an action -/

/-- The state with the record that an action gives a cabin, and COUNT_SATURATED latched for a count cut to
the capacity, before the change is reported. -/
def State.withRecord (s : State) (k : Nat) (d : Cabin) (latches : Bool) : State :=
  { s with
    cabins := s.cabins.set k d
    latched := if latches then { s.latched with countSaturated := true } else s.latched }

theorem modifyCabin_eq_withRecord (h : s.cabins[k]? = some c) (f : Cabin → Cabin) :
    modifyCabin k f s = s.withRecord k (f c) false := by
  rw [State.withRecord, ← modifyCabin_cabins_of_getElem? h]
  rfl

theorem confirmCount_eq (h : s.cabins[k]? = some c) (n : Nat) (f : Cabin → Cabin) :
    confirmCount k n f s = retest (cabinChanged (s.withRecord k
      { (f c).withCount n with state := confirmedState ((f c).withCount n).count }
      (decide (c.capacity < n)))) := by
  unfold confirmCount
  rw [cabin_eq_of_getElem? h, latchIf_eq, modifyCabin_eq_withRecord h]
  rfl

/-- The four rows of CABIN SET, served at once by a ready responder (R172). -/
theorem exec_cabinSet (hs : s.ready) (tag cabin count : Byte) :
    exec (.cabinSetVerify tag cabin count) s =
      .next (placeReply 0x11 tag (serveCabinSet cabin 1 count s)) ∧
    exec (.cabinSetCorrect tag cabin count) s =
      .next (placeReply 0x11 tag (serveCabinSet cabin 2 count s)) ∧
    exec (.cabinSetTakeOut tag cabin count) s =
      .next (placeReply 0x11 tag (serveCabinSet cabin 3 count s)) ∧
    exec (.cabinSetReturn tag cabin count) s =
      .next (placeReply 0x11 tag (serveCabinSet cabin 4 count s)) := by
  have serve (action : Byte) : arrive .cabinSet tag [cabin, action, count] s =
      .next (placeReply 0x11 tag (serveCabinSet cabin action count s)) := arrive_of_ready hs ..
  exact ⟨serve 1, serve 2, serve 3, serve 4⟩

/-- The reply of an action taken carries its cabin's record. -/
theorem cabinSet_replied {v : State} {d : Cabin} (hv : v.cabins[k]? = some d) (tag : Byte) :
    placeReply 0x11 tag (cabinSetReply k s (some v)) =
      v.queued [onePart 0x11 tag 0 [byte d.state.code, byte d.count, flag d.saturated]] := by
  rw [cabinSetReply, cabin_eq_of_getElem? hv]
  exact placeReply_served (by simp)

/-- The four actions for a cabin of the ride. -/
theorem serveCabinSet_actions {cabin : Byte} (count : Byte) (h : cabin.toNat < s.ride.n) :
    serveCabinSet cabin 1 count s =
      cabinSetReply cabin.toNat s (cabinVerify cabin.toNat count.toNat s) ∧
    serveCabinSet cabin 2 count s =
      cabinSetReply cabin.toNat s (cabinCorrect cabin.toNat count.toNat s) ∧
    serveCabinSet cabin 3 count s = cabinSetReply cabin.toNat s (cabinTakeOut cabin.toNat s) ∧
    serveCabinSet cabin 4 count s = cabinSetReply cabin.toNat s (cabinReturn cabin.toNat s) := by
  have hn : ¬ s.ride.n ≤ cabin.toNat := Nat.not_le.mpr h
  simp only [serveCabinSet, if_neg hn]
  exact ⟨rfl, rfl, rfl, rfl⟩

/-- Settles O53, by the record of each action and the report of its change. -/
theorem cabinSetServed : Obligations.CabinSetServed := by
  intro s tag cabin count c hs hc cut exceeds confirmed refused takes
  have hk := (List.getElem?_eq_some_iff.mp hc).1
  have hcab := cabin_eq_of_getElem? hc
  obtain ⟨verify, correct, takeOut, back⟩ := exec_cabinSet hs tag cabin count
  have takesOf {i : Instr} {d : Cabin} {latches : Bool} {v : State}
      (hexec : exec i s = .next (placeReply 0x11 tag (cabinSetReply cabin.toNat s (some (retest v)))))
      (hv : v = cabinChanged (s.withRecord cabin.toNat d latches) ∨
        d.state = .outOfService ∧ v = cabinTakenOut cabin.toNat (s.withRecord cabin.toNat d latches)) :
      takes i d latches := by
    have hframe : v.cabins = s.cabins.set cabin.toNat d ∧
        v.latched = (s.withRecord cabin.toNat d latches).latched ∧ v.tracker = s.tracker ∧
        v.out = s.out := by
      rcases hv with rfl | ⟨-, rfl⟩ <;> simp [State.withRecord]
    obtain ⟨hcabins, hlatched, htracker, hout⟩ := hframe
    have hget : (retest v).cabins[cabin.toNat]? = some d := by
      simp only [retest_frame, hcabins, List.getElem?_set_self hk]
    refine ⟨_, hexec.trans (congrArg _ (cabinSet_replied hget tag)), hcabins, fun hout => ?_, hlatched,
      ?_, rfl, htracker, hout, fun hr => ?_⟩
    · have hv' : v = cabinChanged (s.withRecord cabin.toNat d latches) := by
        rcases hv with hv | ⟨hd, hv⟩
        · exact hv
        · exact hv.trans (cabinTakenOut_other (hout hd))
      have htold := cabinChanged_withLatched (s.withRecord cabin.toNat d latches).latched
        { s with cabins := s.cabins.set cabin.toNat d }
      have heq : v = (cabinChanged { s with cabins := s.cabins.set cabin.toNat d }).withLatched
          (s.withRecord cabin.toNat d latches).latched := hv'.trans htold
      have hcab : (retest v).cabins = s.cabins.set cabin.toNat d := hcabins
      intro told
      have htold' : told = cabinChanged { s with cabins := s.cabins.set cabin.toNat d } := by
        rw [← hcab]
      rw [htold', heq]
      exact ⟨rfl, rfl, rfl⟩
    · simp
    · have hv' : v = s.withRecord cabin.toNat d latches := by
        have hidle : (s.withRecord cabin.toNat d latches).run.running = false := hr
        rcases hv with hv | ⟨-, hv⟩
        · exact hv.trans (cabinChanged_idle hidle)
        · exact hv.trans (cabinTakenOut_idle _ hidle)
      rw [hv']
      rfl
  have refuse {i : Instr} {r : Served} {st : Status} (hexec : exec i s = .next (placeReply 0x11 tag r))
      (hr : r = refusedWith st s) : refused i (byte st.code) := by
    rw [hr, placeReply_refused] at hexec
    exact hexec
  refine ⟨fun hn => ?_, fun hn => ?_⟩
  · have range (action : Byte) : serveCabinSet cabin action count s = refusedWith .range s := if_pos hn
    exact ⟨refuse verify (range 1), refuse correct (range 2), refuse takeOut (range 3),
      refuse back (range 4)⟩
  · obtain ⟨hverify, hcorrect, hout, hreturn⟩ := serveCabinSet_actions count hn
    have refusedAs {o : Option State} {action : Byte} (ho : o = none)
        (ha : serveCabinSet cabin action count s = cabinSetReply cabin.toNat s o) :
        serveCabinSet cabin action count s = refusedWith .state s := by
      rw [ha, ho]
      rfl
    have takenAs {i : Instr} {action : Byte} {o : Option State} {v : State}
        (hexec : exec i s = .next (placeReply 0x11 tag (serveCabinSet cabin action count s)))
        (ha : serveCabinSet cabin action count s = cabinSetReply cabin.toNat s o)
        (ho : o = some (retest v)) :
        exec i s = .next (placeReply 0x11 tag (cabinSetReply cabin.toNat s (some (retest v)))) := by
      rw [hexec, ha, ho]
    refine ⟨fun h => refuse verify (refusedAs (if_neg (hcab ▸ h)) hverify), fun h => ?_,
      fun h h' => refuse correct (refusedAs (if_neg ?_) hcorrect), fun h => ?_,
      fun h => refuse takeOut (refusedAs (if_neg (hcab ▸ h)) hout), fun h => ?_,
      fun h => refuse back (refusedAs (if_neg ?_) hreturn), fun h h' => ?_⟩
    · exact takesOf (takenAs verify hverify ((if_pos (hcab ▸ h)).trans
        (congrArg some (confirmCount_eq hc ..)))) (.inl rfl)
    · rw [hcab]
      exact fun hx => hx.elim h h'
    · exact takesOf (takenAs correct hcorrect ((if_pos (hcab ▸ h)).trans
        (congrArg some (confirmCount_eq hc ..)))) (.inl rfl)
    · refine takesOf (takenAs takeOut hout ((if_pos (hcab ▸ h)).trans (congrArg some ?_)))
        (.inr ⟨rfl, rfl⟩)
      rw [modifyCabin_eq_withRecord hc]
    · rw [hcab]
      exact fun hx => h.elim (fun hs => hs hx.1) hx.2
    · refine takesOf (takenAs back hreturn ((if_pos (hcab ▸ ⟨h, h'⟩)).trans (congrArg some ?_)))
        (.inl rfl)
      rw [modifyCabin_eq_withRecord hc]

end Sys2Proof.Machine


/-! ## The ride status record (R182 to R184) -/

namespace Sys2Proof.Machine

set_option Elab.async false

variable {s : State}

/-- The lowest-numbered cabin of a state (log entry 22). -/
theorem cabinIn_eq_findIdx? (st : CabinState) (k : Nat) (l : List Cabin) :
    cabinIn st k l = (l.findIdx? fun c => c.state == st).map (· + k) := by
  induction l generalizing k with
  | nil => rfl
  | cons c l ih =>
    rw [cabinIn, List.findIdx?_cons, ih]
    by_cases h : c.state = st
    · simp [h]
    · have hf (n : Nat) : n + (k + 1) = n + 1 + k := by omega
      simp [h, Option.map_map, Function.comp_def, hf]

theorem cabinIn_zero (st : CabinState) (l : List Cabin) :
    cabinIn st 0 l = l.findIdx? fun c => c.state == st := by
  simp [cabinIn_eq_findIdx?]

theorem higher_code (a b : HoldClass) : (a.higher b).code = max a.code b.code := by
  cases a <;> cases b <;> rfl

/-- The most severe class by its code, 0 for NONE (R122). -/
theorem mostSevere_code (s : State) : (s.mostSevere.map HoldClass.code).getD 0 =
    (s.holds.map fun e => e.cls.code).foldl max 0 := by
  have fold (a : Option HoldClass) (l : List HoldEntry) :
      ((l.foldl (fun a h => some (match a with | none => h.cls | some c => c.higher h.cls)) a).map
        HoldClass.code).getD 0 =
      (l.map fun e => e.cls.code).foldl max ((a.map HoldClass.code).getD 0) := by
    induction l generalizing a with
    | nil => rfl
    | cons e l ih =>
      rw [List.foldl_cons, ih, List.map_cons, List.foldl_cons]
      cases a with
      | none => simp
      | some c => simp [higher_code]
  exact fold none s.holds

/-- The flags of a list as a sum of their bits, the first at bit `k` (9.5). -/
def flagSum : Nat → List Bool → Nat
  | _, [] => 0
  | k, b :: bs => (if b then 2 ^ k else 0) + flagSum (k + 1) bs

theorem flagSum_eq (k : Nat) (bs : List Bool) : flagSum k bs = 2 ^ k * flagBits bs := by
  induction bs generalizing k with
  | nil => rfl
  | cons b bs ih =>
    rw [flagSum, flagBits, ih, Nat.pow_succ]
    cases b <;> simp <;> ring

theorem flagBits_eq_flagSum (bs : List Bool) : flagBits bs = flagSum 0 bs := by
  rw [flagSum_eq, pow_zero, one_mul]

/-- Settles O58: the model's record is the one spelled, and both of its carriers. -/
theorem statusRecordSent : Obligations.StatusRecordSent := by
  intro s l bit record
  have hlength : record.length = 33 := rfl
  have hrecord : s.statusRecord = record := by
    have hmode : byte s.modeRec.mode.code = if s.modeRec.mode = .setup then 1 else 2 := by
      cases s.modeRec.mode <;> rfl
    have hsource : byte s.req.source.code = if s.req.source = .console then 0 else 1 := by
      cases s.req.source <;> rfl
    have hfb : byte s.fb.state.code = match s.fb.state with
        | .absent => 0 | .present => 1 | .silent => 2 := by cases s.fb.state <;> rfl
    have hbrake : byte s.fb.brake.code = match s.fb.brake with
        | .applied => 0 | .released => 1 | .unknown => 2 := by cases s.fb.brake <;> rfl
    have htracker : byte s.tracker.state.code = match s.tracker.state with
        | .searching => 0 | .locked => 1 | .coasting => 2 | .lost => 3 := by
      cases s.tracker.state <;> rfl
    have hlevel : byte s.wind.level.code = match s.wind.level with
        | .calm => 0 | .watch => 1 | .restrict => 2 | .hold => 3 := by cases s.wind.level <;> rfl
    have hsevere := mostSevere_code s
    simp only [State.statusRecord, State.alightingCabin, State.boardingCabin, cabinIn_zero, orNone1,
      hmode, hsource, hfb, hbrake, htracker, hlevel, LatchedSet.bits, flagBits_eq_flagSum, flagSum,
      ← hsevere, record, bit, Nat.add_zero, Nat.add_assoc]
    cases s.mostSevere <;> rfl
  refine ⟨hlength, fun hs tag => ?_, ?_⟩
  · have hexec : exec (.statusRead tag) s =
        .next (placeReply 0x01 tag (served s.statusRecord { s with latched := LatchedSet.clear })) :=
      arrive_of_ready hs .statusRead tag []
    rw [hexec, hrecord, placeReply_served (by rw [hlength]; decide)]
  · have hexec : exec .statusPeriodExpiry s = execStatusPeriodExpiry s := rfl
    have hroom : s.hasRoom = true ↔ s.consoleQueue.length < if s.waitTag = none then 16 else 15 := by
      unfold State.hasRoom
      cases s.waitTag <;> simp
    rw [hexec, execStatusPeriodExpiry]
    simp only [State.statusFrame, hrecord]
    by_cases hr : s.consoleQueue.length < if s.waitTag = none then 16 else 15
    · rw [if_pos (hroom.mpr hr), if_pos hr]
      rfl
    · rw [if_neg (fun h => hr (hroom.mp h)), if_neg hr, List.append_nil]
      rfl

end Sys2Proof.Machine


/-! ## The read requests (R92, R114, R131, R154, R159, R173, R187) -/

namespace Sys2Proof.Machine

set_option Elab.async false

variable {s : State}

/-! ### The parts of a reply (R173) -/

/-- A reply of at most 165 bytes of data: as many parts as it needs, each with its 55 bytes, the last
marked. -/
theorem replyParts_spec (code tag : Byte) (st : Status) {data : List Byte} (h : data.length ≤ 165) :
    (replyParts code tag st data).length = max 1 ((data.length + 54) / 55) ∧
    ∀ (k : Nat) (f : Frame), (replyParts code tag st data)[k]? = some f → f = ⟨0x21, 0,
      [code, tag, byte k, flag (k + 1 == (replyParts code tag st data).length), byte st.code] ++
        (data.drop (55 * k)).take 55⟩ := by
  by_cases h1 : data.length ≤ 55
  · have hparts : replyParts code tag st data = [replyPart code tag 0 true st data] := if_pos h1
    rw [hparts]
    refine ⟨by simp; omega, fun k f hf => ?_⟩
    match k, hf with
    | 0, hf =>
      have hlast : (data.drop (55 * 0)).take 55 = data := List.take_of_length_le h1
      cases hf
      rw [hlast]
      rfl
  · by_cases h2 : data.length ≤ 110
    · have hparts : replyParts code tag st data = [replyPart code tag 0 false st (data.take 55),
          replyPart code tag 1 true st (data.drop 55)] := by
        have hd : (data.drop 55).length ≤ 55 := by simp; omega
        simp only [replyParts, replyPartsFrom, if_neg h1, if_pos hd]
      rw [hparts]
      refine ⟨by simp; omega, fun k f hf => ?_⟩
      match k, hf with
      | 0, hf => cases hf; rfl
      | 1, hf =>
        have hlast : (data.drop (55 * 1)).take 55 = data.drop 55 :=
          List.take_of_length_le (by rw [List.length_drop]; omega)
        cases hf
        rw [hlast]
        rfl
    · have hparts : replyParts code tag st data = [replyPart code tag 0 false st (data.take 55),
          replyPart code tag 1 false st ((data.drop 55).take 55),
          replyPart code tag 2 true st (data.drop 110)] := by
        have hd : ¬ (data.drop 55).length ≤ 55 := by simp; omega
        simp only [replyParts, replyPartsFrom, if_neg h1, if_neg hd, List.drop_drop]
      rw [hparts]
      refine ⟨by simp; omega, fun k f hf => ?_⟩
      match k, hf with
      | 0, hf => cases hf; rfl
      | 1, hf => cases hf; rfl
      | 2, hf =>
        have hlast : (data.drop (55 * 2)).take 55 = data.drop 110 :=
          List.take_of_length_le (by rw [List.length_drop]; omega)
        cases hf
        rw [hlast]
        rfl

/-! ### The bytes of the records -/

theorem flatten_length_le {α : Type} {l : List (List α)} {n m : Nat} (hn : l.length ≤ n)
    (hm : ∀ x ∈ l, x.length ≤ m) : l.flatten.length ≤ n * m := by
  rw [List.length_flatten]
  calc (l.map List.length).sum ≤ (l.map List.length).length * m :=
        List.sum_le_card_nsmul _ _ (List.forall_mem_map.mpr hm)
    _ ≤ n * m := Nat.mul_le_mul_right m (by simpa using hn)

theorem flatMap_length_le {α β : Type} {l : List α} {f : α → List β} {n m : Nat} (hn : l.length ≤ n)
    (hm : ∀ x ∈ l, (f x).length ≤ m) : (l.flatMap f).length ≤ n * m := by
  rw [List.flatMap_def]
  exact flatten_length_le (by simpa using hn) (List.forall_mem_map.mpr hm)

/-- A list with one entry per source has at most eight. -/
theorem holds_length_le (h : (s.holds.map fun e => e.source).Nodup) : s.holds.length ≤ 8 := by
  have hsub : (s.holds.map fun e => e.source) ⊆
      [.wind, .masts, .position, .command, .door, .platform, .drive, .console] := by
    intro x _
    cases x <;> simp
  simpa using (h.subperm hsub).length_le

theorem walked_length_le (s : State) : s.walked.length ≤ s.pollEntries.length := by
  unfold State.walked walkedList
  split
  · simp
  · simp

/-- The bytes of a read of at most 8 elements of a table (8.2). -/
theorem tableElements_length (hc : ∀ c ∈ s.cabins, c.tag.length = 8) (t : TableId) (b : Nat) {n : Nat}
    (hn : n ≤ 8) : ((((s.tableElements t).drop b).take n).flatten).length ≤ 112 := by
  have some8 {m : Nat} (hm : m ≤ 14) (h : ∀ x ∈ s.tableElements t, x.length ≤ m) :
      ((((s.tableElements t).drop b).take n).flatten).length ≤ 112 := by
    have hlen : (((s.tableElements t).drop b).take n).length ≤ 8 := (List.length_take_le ..).trans hn
    have hall (x : List Byte) (hx : x ∈ ((s.tableElements t).drop b).take n) : x.length ≤ m :=
      h x (List.mem_of_mem_drop (List.mem_of_mem_take hx))
    exact (flatten_length_le hlen hall).trans (by omega)
  have one {x : List Byte} (hx : s.tableElements t = [x]) (hl : x.length ≤ 112) :
      ((((s.tableElements t).drop b).take n).flatten).length ≤ 112 := by
    have hsub : (((s.tableElements t).drop b).take n).Sublist [x] :=
      hx ▸ (List.take_sublist ..).trans (List.drop_sublist ..)
    have := hsub.flatten.length_le
    simp only [List.flatten_cons, List.flatten_nil, List.append_nil] at this
    exact this.trans hl
  cases t with
  | ride => exact one rfl (by decide : 35 ≤ 112)
  | zone => exact one rfl (by decide : 22 ≤ 112)
  | wind => exact one rfl (by decide : 22 ≤ 112)
  | cabin =>
    refine some8 (m := 10) (by decide) (List.forall_mem_map.mpr fun c h => ?_)
    simp [cabinBytes, hc c h]
  | mast => exact some8 (m := 4) (by decide) (List.forall_mem_map.mpr fun _ _ => le_rfl)
  | poll =>
    refine some8 (m := 5) (by decide) (List.forall_mem_cons.mpr ⟨le_rfl, ?_⟩)
    exact List.forall_mem_map.mpr fun _ _ => (by decide : 3 ≤ 5)
  | pass => exact some8 (m := 4) (by decide) (List.forall_mem_map.mpr fun _ _ => le_rfl)
  | profile k => exact some8 (m := 14) le_rfl (List.forall_mem_map.mpr fun _ _ => le_rfl)

/-- The cabins of a CABIN READ in number order (R187). -/
theorem cabinsBytes_eq (k n : Nat) : s.cabinsBytes k n =
    (List.range n).flatMap fun j => cabinReadBytes (k + j) (s.cabin (k + j)) := by
  induction n generalizing k with
  | zero => rfl
  | succ n ih =>
    have hj (j : Nat) : k + 1 + j = k + (j + 1) := by omega
    rw [State.cabinsBytes, ih, List.range_succ_eq_map, List.flatMap_cons, List.flatMap_map]
    simp only [hj]
    rfl

theorem cabinReadBytes_length (k : Nat) (c : Cabin) : (cabinReadBytes k c).length = 14 := by
  unfold cabinReadBytes outcomeBytes
  split <;> rfl

/-- A cabin's bytes are the codes of its fields as R187 lists them. -/
theorem cabinReadBytes_eq (k : Nat) (c : Cabin) : cabinReadBytes k c =
    [byte k, match c.state with
      | .outOfService => 0 | .unverified => 1 | .empty => 2 | .loaded => 3 | .alighting => 4
      | .boarding => 5,
    byte c.count, byte c.capacity,
    byte ((if c.inService then 2 ^ 0 else 0) + (if c.saturated then 2 ^ 1 else 0) +
      (if c.withheld.isSome then 2 ^ 2 else 0) + (if c.entryBarred then 2 ^ 3 else 0) +
      (if c.unlockedExit then 2 ^ 4 else 0) + (if c.window.isOpen then 2 ^ 5 else 0) +
      (if c.hasValid then 2 ^ 6 else 0)),
    match c.withheld with | none => 0 | some .identity => 1 | some .position => 2] ++
    (match c.outcome with
      | .none => [0, 0] | .matched => [1, 0] | .mismatch shift => [2, byte shift]) ++
    [match c.door with
      | .none => 0 | .open => 1 | .closed => 2 | .locked => 3 | .fault => 4 | .notReported => 5
      | .notAtPlatform => 6,
    byte c.zoneCount] ++ be4 c.exitTime.toNat := by
  have hstate : byte c.state.code = match c.state with
      | .outOfService => 0 | .unverified => 1 | .empty => 2 | .loaded => 3 | .alighting => 4
      | .boarding => 5 := by cases c.state <;> rfl
  have hdoor : byte c.door.code = match c.door with
      | .none => 0 | .open => 1 | .closed => 2 | .locked => 3 | .fault => 4 | .notReported => 5
      | .notAtPlatform => 6 := by cases c.door <;> rfl
  have hwithheld : byte (withheldCode c.withheld) = match c.withheld with
      | none => 0 | some .identity => 1 | some .position => 2 := by
    rcases c.withheld with _ | (_ | _) <;> rfl
  have houtcome : outcomeBytes c.outcome = match c.outcome with
      | .none => [0, 0] | .matched => [1, 0] | .mismatch shift => [2, byte shift] := by
    cases c.outcome <;> rfl
  have hflags : cabinFlags c = (if c.inService then 2 ^ 0 else 0) +
      (if c.saturated then 2 ^ 1 else 0) + (if c.withheld.isSome then 2 ^ 2 else 0) +
      (if c.entryBarred then 2 ^ 3 else 0) + (if c.unlockedExit then 2 ^ 4 else 0) +
      (if c.window.isOpen then 2 ^ 5 else 0) + (if c.hasValid then 2 ^ 6 else 0) := by
    simp only [cabinFlags, flagBits_eq_flagSum, flagSum, Nat.add_zero, Nat.add_assoc]
  rw [cabinReadBytes, hstate, hdoor, hwithheld, houtcome, hflags]

/-! ### The requests -/

/-- The reply of a request served with OK and at most 165 bytes: its parts are queued, and nothing else
changes (R173). -/
theorem placeReply_served_parts (code tag : Byte) {data : List Byte} (h : data.length ≤ 165) :
    ∃ parts : List Frame, placeReply code tag (served data s) = s.queued parts ∧
      parts.length = max 1 ((data.length + 54) / 55) ∧ parts.length ≤ 3 ∧
      ∀ (k : Nat) (f : Frame), parts[k]? = some f → f = ⟨0x21, 0,
        [code, tag, byte k, flag (k + 1 == parts.length), 0] ++ (data.drop (55 * k)).take 55⟩ :=
  have hspec := replyParts_spec code tag .ok h
  ⟨replyParts code tag .ok data, rfl, hspec.1, (replyParts_length_le code tag .ok data).2, hspec.2⟩

theorem readTable_of_range {id first count : Byte} {t : TableId} (ht : tableOf id = some t)
    (h : first.toNat < t.elements ∧ 1 ≤ count.toNat ∧ count.toNat ≤ 8 ∧
      first.toNat + count.toNat ≤ t.elements) :
    s.readTable id first count = (.ok, [id, first, count, flag s.modeRec.checked] ++
      (((s.tableElements t).drop first.toNat).take count.toNat).flatten) := by
  simp only [State.readTable, ht, if_pos h]

theorem readTable_out_of_range {id first count : Byte} {t : TableId} (ht : tableOf id = some t)
    (h : t.elements ≤ first.toNat ∨ count = 0 ∨ 8 < count.toNat ∨
      t.elements < first.toNat + count.toNat) :
    s.readTable id first count = (.range, []) := by
  have hn : ¬ (first.toNat < t.elements ∧ 1 ≤ count.toNat ∧ count.toNat ≤ 8 ∧
      first.toNat + count.toNat ≤ t.elements) := by
    rintro ⟨h1, h2, h3, h4⟩
    rcases h with h | rfl | h | h
    · omega
    · exact absurd h2 (by decide)
    · omega
    · omega
  simp only [State.readTable, ht, if_neg hn]

theorem readTable_of_unknown {id first count : Byte} (ht : tableOf id = none) :
    s.readTable id first count = (.range, []) := by
  simp only [State.readTable, ht]

/-- Settles O59: each read is served with the data spelled, which fits in three parts under the
invariant, or refused with RANGE. -/
theorem readRequestsAnswered : Obligations.ReadRequestsAnswered := by
  intro s tag a b c hs inv reads entry mast result bit cabin riders unverified
  have read {i : Instr} {code : Byte} {data : List Byte}
      (hexec : exec i s = .next (placeReply code tag (served data s))) (hd : data.length ≤ 165) :
      reads i code data := by
    obtain ⟨parts, hparts, hspec⟩ := placeReply_served_parts (s := s) code tag hd
    exact ⟨parts, hexec.trans (congrArg _ hparts), hspec⟩
  have hholds : s.holds.length ≤ 8 := holds_length_le inv.hold.1
  obtain ⟨_, hmasts, _⟩ := inv.wind
  obtain ⟨_, _, _, hentries, _⟩ := inv.poll
  have hwalked : s.walked.length ≤ 16 := hentries ▸ walked_length_le s
  obtain ⟨_, hgood, _⟩ := inv.cabin
  have htags (x : Cabin) (hx : x ∈ s.cabins) : x.tag.length = 8 :=
    ((Cabin.good_iff x).mp (hgood x hx)).1
  have hcabin : ∀ (k : Nat) (x : Cabin), cabinReadBytes k x = cabin k x := cabinReadBytes_eq
  refine ⟨?_, ?_, ?_, ?_, fun t ht => ⟨fun h1 h2 h3 h4 => ?_, fun h => ?_⟩, fun ht => ?_,
    fun h1 h2 h3 => ⟨?_, fun k x => ?_⟩, fun h => ?_⟩
  · refine read (arrive_of_ready hs .holdList tag []) ?_
    have hlen : (s.holds.flatMap entry).length ≤ 8 * 10 := flatMap_length_le hholds fun _ _ => le_rfl
    rw [List.length_append]
    exact Nat.add_le_add (le_refl 4) hlen |>.trans (by decide)
  · have hmin : byte (match s.wind.runMin with | none => 255 | some l => l.code) =
        byte ((s.wind.runMin.map WindLevel.code).getD 255) := by cases s.wind.runMin <;> rfl
    have hlen : (s.masts.flatMap mast).length ≤ 4 * 12 :=
      flatMap_length_le hmasts.le fun _ _ => le_rfl
    refine read (hmin ▸ arrive_of_ready hs .windRead tag []) ?_
    simp only [List.length_append, be2_length, List.length_cons, List.length_nil]
    omega
  · have hzip : (List.zipWith pollResultBytes s.walked s.results).flatten =
        (s.walked.zip s.results).flatMap result := by
      rw [List.flatMap_def, ← List.map_uncurry_zip_eq_zipWith]
      rfl
    have hlen : ((s.walked.zip s.results).flatMap result).length ≤ 16 * 4 := by
      refine flatMap_length_le (by rw [List.length_zip]; omega) fun x _ => ?_
      simp only [result]
      split <;> exact le_rfl
    refine read (hzip ▸ arrive_of_ready hs .pollResults tag []) ?_
    rw [List.length_append]
    exact Nat.add_le_add (le_refl 4) hlen |>.trans (by decide)
  · have hend : byte (match s.run.lastEnd with | none => 1 | some e => e.code) =
        byte ((s.run.lastEnd.map EndStatus.code).getD 1) := by cases s.run.lastEnd <;> rfl
    exact read (hend ▸ arrive_of_ready hs .profileStatus tag []) (by decide : 10 ≤ 165)
  · have hserve := readTable_of_range (s := s) ht ⟨h1, h2, h3, h4⟩
    have hlen := tableElements_length htags t b.toNat h3
    refine read ((arrive_of_ready hs .tableRead tag [a, b, c]).trans ?_) ?_
    · simp only [serveKind, serve3, serveTableRead, hserve]
      rfl
    · rw [List.length_append]
      exact Nat.add_le_add (le_refl 4) hlen |>.trans (by decide)
  · refine (arrive_of_ready hs .tableRead tag [a, b, c]).trans ?_
    simp only [serveKind, serve3, serveTableRead, readTable_out_of_range ht h]
    rfl
  · refine (arrive_of_ready hs .tableRead tag [a, b, c]).trans ?_
    simp only [serveKind, serve3, serveTableRead, readTable_of_unknown ht]
    rfl
  · have hcabins : s.cabinsBytes a.toNat b.toNat = (List.range b.toNat).flatMap fun k =>
        cabin (a.toNat + k) (s.cabins.getD (a.toNat + k) Cabin.notLoaded) := by
      simp only [cabinsBytes_eq, hcabin]
      rfl
    have hlen : (s.cabinsBytes a.toNat b.toNat).length ≤ 8 * 14 := by
      rw [cabinsBytes_eq]
      exact flatMap_length_le (by simpa using h2) fun _ _ => (cabinReadBytes_length ..).le
    have hserve : serveCabinRead a b s = served ([a, b] ++ be2 s.riderTotal ++
        be2 s.unverifiedTotal ++ s.cabinsBytes a.toNat b.toNat) s := if_pos ⟨h1, h2, h3⟩
    rw [hcabins] at hserve hlen
    refine read ((arrive_of_ready hs .cabinRead tag [a, b]).trans ?_) ?_
    · simp only [serveKind, serve2, hserve]
      rfl
    · rw [List.length_append]
      exact Nat.add_le_add (le_refl 6) hlen |>.trans (by decide)
  · rw [← hcabin]
    exact cabinReadBytes_length k x
  · have hn : ¬ (1 ≤ b.toNat ∧ b.toNat ≤ 8 ∧ a.toNat + b.toNat ≤ 64) := by
      rintro ⟨h1, h2, h3⟩
      rcases h with rfl | h | h
      · exact absurd h1 (by decide)
      · omega
      · omega
    have hserve : serveCabinRead a b s = refusedWith .range s := if_neg hn
    refine (arrive_of_ready hs .cabinRead tag [a, b]).trans ?_
    simp only [serveKind, serve2, hserve]
    rfl

end Sys2Proof.Machine

/-! ## The walk of the poll list, and the cycles that start on it (R80 to R82) -/

namespace Sys2Proof.Machine

set_option Elab.async false

variable {s : State}

/-! ### The next set entry -/

theorem nextSet_eq_findIdx? (k : Nat) (es : List PollEntry) :
    nextSet k es = (es.findIdx? fun e => e.kind != .unset).map fun i => k + i := by
  induction es generalizing k with
  | nil => rfl
  | cons e es ih =>
    unfold nextSet
    by_cases h : e.kind = .unset
    · simp [h, ih, List.findIdx?_cons, Function.comp_def, Nat.add_assoc, Nat.add_comm 1]
    · simp [h, List.findIdx?_cons]

theorem walked_getElem {j : Nat} (h : j < s.walked.length) : s.walked[j] = s.pollEntry j :=
  (pollEntry_of_walked (List.getElem?_eq_getElem h)).symm

theorem nextEntry_eq_some {i j : Nat} (hij : i ≤ j) (hj : j < s.walked.length)
    (hset : (s.pollEntry j).kind ≠ .unset)
    (hpassed : ∀ l, i ≤ l → l < j → (s.pollEntry l).kind = .unset) : s.nextEntry i = some j := by
  have hfind : (s.walked.drop i).findIdx? (fun e => e.kind != .unset) = some (j - i) := by
    rw [List.findIdx?_eq_some_iff_getElem]
    refine ⟨by rw [List.length_drop]; omega, ?_, fun l hl => ?_⟩
    · simpa [List.getElem_drop, walked_getElem, Nat.add_sub_cancel' hij] using hset
    · simpa [List.getElem_drop, walked_getElem] using hpassed (i + l) (by omega) (by omega)
  rw [State.nextEntry, nextSet_eq_findIdx?, hfind, Option.map_some, Nat.add_sub_cancel' hij]

theorem nextEntry_eq_none {i : Nat}
    (h : ∀ l, i ≤ l → l < s.walked.length → (s.pollEntry l).kind = .unset) :
    s.nextEntry i = none := by
  rw [Option.eq_none_iff_forall_ne_some]
  intro j hj
  obtain ⟨hlt, hset⟩ := nextEntry_spec hj
  rw [State.nextEntry, nextSet_eq_findIdx?] at hj
  obtain ⟨l, -, rfl⟩ := Option.map_eq_some_iff.mp hj
  exact hset (h _ (Nat.le_add_right ..) hlt)

/-! ### A cycle started or asked for -/

theorem startCycle_of_empty (h : s.walked = []) : startCycle s = s := by
  simp [startCycle, h]

theorem startCycle_of_next {i : Nat} (h : s.nextEntry 0 = some i) :
    startCycle s = { s with poller := { s.poller with phase := .toPoll, inFlight := some i } } := by
  have hne : s.walked.isEmpty = false := by
    have := (nextEntry_spec h).1
    rw [List.isEmpty_eq_false_iff]
    exact List.ne_nil_of_length_pos (by omega)
  simp only [startCycle, hne, h, Bool.false_eq_true, if_false]

theorem inCycle_iff (p : Poller) : p.inCycle = true ↔ p.phase ≠ .idle := by
  simp [Poller.inCycle]

theorem requestCycle_of_inCycle (h : s.poller.phase ≠ .idle) :
    requestCycle s = { s with poller := { s.poller with pendingMark := true } } :=
  if_pos ((inCycle_iff _).mpr h)

theorem requestCycle_of_idle (h : s.poller.phase = .idle) : requestCycle s = startCycle s :=
  if_neg fun hc => (inCycle_iff _).mp hc h

/-- The poll timer restarts whatever the expiry finds. -/
theorem exec_pollTimerExpiry (s : State) :
    let t := { s with timers := { s.timers with poll := s.after s.pollParams.period } }
    exec .pollTimerExpiry s = .next (if s.poller.inCycle then latch .pollOverrun t else startCycle t) := by
  have hexec : exec .pollTimerExpiry s = execPollTimerExpiry s := rfl
  rw [hexec]
  unfold execPollTimerExpiry
  simp only
  split <;> rfl

/-- Settles O31, by the poller state the expiry finds. -/
theorem pollTimerStartsCycle : Obligations.PollTimerStartsCycle := by
  intro s restarted
  have idle (h : s.poller.phase = .idle) :
      exec .pollTimerExpiry s = .next (startCycle { s with timers := restarted }) := by
    rw [exec_pollTimerExpiry, if_neg fun hc => (inCycle_iff _).mp hc h]
    rfl
  refine ⟨fun h => ?_, fun h hempty => ?_, fun h i hi hset hpassed => ?_⟩
  · rw [exec_pollTimerExpiry, if_pos ((inCycle_iff _).mpr h)]
    rfl
  · exact (idle h).trans (congrArg _ (startCycle_of_empty hempty))
  · have hnext : State.nextEntry { s with timers := restarted } 0 = some i :=
      nextEntry_eq_some (Nat.zero_le i) hi hset fun l _ => hpassed l
    rw [idle h, startCycle_of_next hnext]

/-- Settles O32, by the poller state the request finds. -/
theorem pollNowAsksForCycle : Obligations.PollNowAsksForCycle := by
  intro s tag hs ok
  have hexec : exec (.pollNow tag) s =
      .next ((requestCycle s).queued [onePart 0x30 tag 0 []]) := by
    refine (arrive_of_ready hs .pollNow tag []).trans ?_
    exact congrArg _ (placeReply_served (Nat.zero_le 55))
  refine ⟨fun h => ?_, fun h hempty => ?_, fun h i hi hset hpassed => ?_⟩
  · rw [hexec, requestCycle_of_inCycle h]
    rfl
  · rw [hexec, requestCycle_of_idle h, startCycle_of_empty hempty]
    rfl
  · have hnext : s.nextEntry 0 = some i := nextEntry_eq_some (Nat.zero_le i) hi hset fun l _ => hpassed l
    rw [hexec, requestCycle_of_idle h, startCycle_of_next hnext]
    rfl

end Sys2Proof.Machine

/-! ## Field-line frames: settling, overrunning and stray (R82, R83, R85, R168) -/

namespace Sys2Proof.Machine

set_option Elab.async false

variable {s : State}

/-! ### Reports latch no discarded frame -/

theorem stopped_frameDiscarded (e : HoldEntry) (s : State) :
    (s.stopped e).latched.frameDiscarded = s.latched.frameDiscarded := by
  unfold State.stopped
  simp only
  split <;> rfl

theorem causeReport_frameDiscarded (src : HoldSource) (k : Nat) (c : HoldClass) (sub : Option Nat)
    (s : State) : (causeReport src k c sub s).latched.frameDiscarded = s.latched.frameDiscarded := by
  cases h : s.entry src with
  | none =>
    rw [causeReport_new h, addEntry_eq]
    split
    · exact stopped_frameDiscarded ..
    · rfl
  | some old =>
    rw [causeReport_old h, stopEffectsIf, stopEffects_eq]
    split
    · exact stopped_frameDiscarded ..
    · rfl

theorem stationStale_frameDiscarded (p : Station) (s : State) :
    (stationStale p s).latched.frameDiscarded = s.latched.frameDiscarded := by
  unfold stationStale
  split
  · exact causeReport_frameDiscarded ..
  · exact (causeReport_frameDiscarded ..).trans (causeReport_frameDiscarded ..)

theorem stationFreshness_frameDiscarded (p : Station) (f : Freshness) (s : State) :
    (stationFreshness p f s).latched.frameDiscarded = s.latched.frameDiscarded := by
  have hwrite (r : StationRecord) : (writeStation p r s).latched = s.latched := by simp
  unfold stationFreshness
  split
  · rfl
  · simp only [retest_frame]
    split
    · rw [stationStale_frameDiscarded]
      split <;> simp
    · split <;> simp

theorem reportFreshness_frameDiscarded (i : Nat) (f : Freshness) (s : State) :
    (reportFreshness i f s).latched.frameDiscarded = s.latched.frameDiscarded := by
  unfold reportFreshness
  split
  · rfl
  · split
    · exact stationFreshness_frameDiscarded ..
    · rfl
  · split
    · exact stationFreshness_frameDiscarded ..
    · rfl
  · rfl
  · rfl

theorem recordResult_frameDiscarded (i : Nat) (r : PollResult) (s : State) :
    (recordResult i r s).latched.frameDiscarded = s.latched.frameDiscarded := by
  unfold recordResult
  simp only
  split
  · rfl
  · exact reportFreshness_frameDiscarded ..

/-! ### A result recorded and the walk moved on -/

theorem recordResult_results {i : Nat} {r : ResultRecord} (h : s.results[i]? = some r) (x : PollResult) :
    (recordResult i x s).results = s.results.set i (r.stepped s.pollParams x) := by
  rw [recordResult_eq h]
  split
  · rfl
  · exact (reportFreshness_frame_poll ..).2

theorem recordResult_poller (i : Nat) (x : PollResult) (s : State) :
    (recordResult i x s).poller = s.poller := by simp

theorem moveOn_of_next {i j : Nat} (h : s.nextEntry (i + 1) = some j) : moveOn i s =
    { s with poller := { s.poller with phase := .toPoll, inFlight := some j, timer := none } } := by
  simp only [moveOn, h]

theorem moveOn_of_none {i : Nat} (h : s.nextEntry (i + 1) = none) : moveOn i s = endCycle s := by
  simp only [moveOn, h]

/-- The walk depends on the poll list alone. -/
theorem nextEntry_congr {t : State} (h : t.pollEntries = s.pollEntries) (i : Nat) :
    t.nextEntry i = s.nextEntry i := by
  simp only [State.nextEntry, State.walked, h]

/-! ### The events of a frame -/

theorem exec_entrySettled (s : State) : exec .entrySettled s = execEntrySettled s := rfl

theorem exec_poll_of_busy (h : s.rx.field ≠ .empty) : exec .poll s = .next s := by
  have hexec : exec .poll s = execPoll s := rfl
  rw [hexec]
  unfold execPoll
  split
  · rw [if_neg h]
  · rfl

theorem exec_settlingFrameOverrun {i : Nat} (hp : s.poller.phase = .settling)
    (hi : s.poller.inFlight = some i) : exec .settlingFrameOverrun s = .next (overrun i s) := by
  have hexec : exec .settlingFrameOverrun s = execSettlingFrameOverrun s := rfl
  rw [hexec]
  simp only [execSettlingFrameOverrun, hp, hi]

/-- Settles O34, by the poller phase the frame's first character finds. -/
theorem settlingFrameTimed : Obligations.SettlingFrameTimed := by
  intro s receiving
  refine ⟨fun hp => ?_, fun hp => ?_, fun hr => exec_poll_of_busy ?_, fun hp => ?_,
    fun i j r hp hi hr hij hj hset hpassed => ?_⟩
  · rw [exec_entrySettled]
    simp only [execEntrySettled, hp]
    rfl
  · rw [exec_entrySettled]
    rcases hp with hp | hp | hp <;> simp only [execEntrySettled, hp] <;> rfl
  · rcases hr with hr | hr <;> simp [hr]
  · rw [exec_entrySettled]
    simp only [execEntrySettled, hp]
  · let u : State := { s with rx := receiving }
    have hover : overrun i s = moveOn i (recordResult i .bad u) := rfl
    have hnext : (recordResult i .bad u).nextEntry (i + 1) = some j :=
      (nextEntry_congr (s := s) (by simp [u]) _).trans
        (nextEntry_eq_some hij hj hset fun l hl => hpassed l hl)
    refine ⟨_, exec_settlingFrameOverrun hp hi, ?_⟩
    rw [hover, moveOn_of_next hnext]
    refine ⟨recordResult_results (s := u) hr .bad, ?_, by simp [u], recordResult_frameDiscarded i .bad u⟩
    simp only [recordResult_poller]
    rfl

/-! ### Frames that settle nothing -/

theorem settledBy_eq_none_of_lost (h : s.rx.field = .lost) : s.settledBy = none := by
  unfold State.settledBy
  split <;> simp_all

/-- A frame that ends settles the entry in flight exactly in its settling frame, or in a reply wait that
the frame began in (log entry 8). -/
theorem settledBy_isSome (h : s.settledBy ≠ none) : s.poller.inFlight ≠ none ∧
    (s.poller.phase = .settling ∨ s.poller.phase = .replyWait ∧ s.rx.field = .empty) := by
  unfold State.settledBy at h
  split at h
  · exact absurd rfl h
  · next hp _ => exact ⟨h, .inl hp⟩
  · next hp hr => exact ⟨h, .inr ⟨hp, hr⟩⟩
  · exact absurd rfl h

theorem fieldFrame_of_settles_none (h : s.settledBy = none) (raw : RawFrame) :
    fieldFrame raw s = discardFieldFrame s := by
  simp only [fieldFrame, h]

/-- Settles O38: each row is the end of a field-line frame, and without an entry that it settles the frame
is discarded. -/
theorem strayFieldFramesDiscarded : Obligations.StrayFieldFramesDiscarded := by
  intro s raw c ends settles
  have discards (he : ends) (hn : s.settledBy = none ∨ ¬settles) :
      exec c s = .next (discardFieldFrame s) := by
    have judged (hc : c = .answer raw ∨ c = .discardedFrame .field raw) : s.settledBy = none := by
      refine hn.elim id fun hn => not_not.mp fun h => hn ⟨hc, settledBy_isSome h⟩
    rcases he with rfl | rfl | rfl | rfl
    · rfl
    · rfl
    · exact congrArg _ (fieldFrame_of_settles_none (judged (.inl rfl)) raw)
    · exact congrArg _ (fieldFrame_of_settles_none (judged (.inr rfl)) raw)
  refine ⟨fun he hl => ?_, fun he hl hn => ?_⟩
  · rw [discards he (.inl (settledBy_eq_none_of_lost hl)), discardFieldFrame_eq, if_pos hl]
  · rw [discards he (.inr hn), discardFieldFrame_eq, if_neg hl]

end Sys2Proof.Machine

/-! ## The freshness machine over runs (R87) -/

namespace Sys2Proof.Machine

set_option Elab.async false

variable {p : PollParams} {r : ResultRecord}

theorem stepped_failure_of_fresh {x : PollResult} (hx : x ≠ .answered) (hf : r.freshness = .fresh) :
    r.stepped p x = if p.staleAfter ≤ r.failureRun + 1 then
        { last := x, freshness := .stale, answerRun := 0, failureRun := 0 }
      else { r with last := x, failureRun := r.failureRun + 1 } := by
  simp only [ResultRecord.stepped, if_neg hx, hf]

theorem stepped_answer_of_stale (hf : r.freshness = .stale) :
    r.stepped p .answered = if p.freshAfter ≤ r.answerRun + 1 then
        { last := .answered, freshness := .fresh, answerRun := 0, failureRun := 0 }
      else { r with last := .answered, answerRun := r.answerRun + 1 } := by
  simp only [ResultRecord.stepped, if_true, hf]

/-- The record after a result comes `k` times in a row. -/
def ResultRecord.repeated (r : ResultRecord) (p : PollParams) (x : PollResult) (k : Nat) : ResultRecord :=
  (List.replicate k x).foldl (fun u y => ResultRecord.stepped u p y) r

theorem repeated_succ (x : PollResult) (k : Nat) :
    r.repeated p x (k + 1) = (r.repeated p x k).stepped p x := by
  simp only [ResultRecord.repeated, List.replicate_succ', List.foldl_append, List.foldl_cons, List.foldl_nil]

/-- A FRESH record counts its failures up to the stale-after count. -/
theorem repeated_failure_of_fresh {x : PollResult} (hx : x ≠ .answered) (hf : r.freshness = .fresh)
    (hr : r.failureRun = 0) {k : Nat} (hk : k < p.staleAfter) :
    (r.repeated p x k).freshness = .fresh ∧ (r.repeated p x k).failureRun = k := by
  induction k with
  | zero => exact ⟨hf, hr⟩
  | succ k ih =>
    obtain ⟨hf', hr'⟩ := ih (by omega)
    rw [repeated_succ, stepped_failure_of_fresh hx hf', if_neg (by omega), hr']
    exact ⟨hf', rfl⟩

/-- A STALE record counts its answers up to the fresh-after count. -/
theorem repeated_answer_of_stale (hf : r.freshness = .stale) (hr : r.answerRun = 0) {k : Nat}
    (hk : k < p.freshAfter) :
    (r.repeated p .answered k).freshness = .stale ∧ (r.repeated p .answered k).answerRun = k := by
  induction k with
  | zero => exact ⟨hf, hr⟩
  | succ k ih =>
    obtain ⟨hf', hr'⟩ := ih (by omega)
    rw [repeated_succ, stepped_answer_of_stale hf', if_neg (by omega), hr']
    exact ⟨hf', rfl⟩

/-- Settles O39, by induction on the length of the run and one step at its end. -/
theorem freshnessNeedsRuns : Obligations.FreshnessNeedsRuns := by
  intro p r failure hx hstale hfresh after
  refine ⟨fun hf hr => ⟨fun k hk => repeated_failure_of_fresh hx hf hr hk, ?_⟩,
    fun hf hr => ⟨fun k hk => repeated_answer_of_stale hf hr hk, ?_⟩⟩
  · obtain ⟨k, hk⟩ := Nat.exists_eq_add_of_le' hstale
    obtain ⟨hf', hr'⟩ := repeated_failure_of_fresh (p := p) hx hf hr (k := k) (by omega)
    have hlast : after failure p.staleAfter =
        { last := failure, freshness := .stale, answerRun := 0, failureRun := 0 } := by
      have hsucc : after failure p.staleAfter = (r.repeated p failure k).stepped p failure := by
        rw [hk]
        exact repeated_succ ..
      rw [hsucc, stepped_failure_of_fresh hx hf', if_pos (by omega)]
    rw [hlast]
    exact ⟨rfl, rfl, rfl⟩
  · obtain ⟨k, hk⟩ := Nat.exists_eq_add_of_le' hfresh
    obtain ⟨hf', hr'⟩ := repeated_answer_of_stale (p := p) hf hr (k := k) (by omega)
    have hlast : after .answered p.freshAfter =
        { last := .answered, freshness := .fresh, answerRun := 0, failureRun := 0 } := by
      have hsucc : after .answered p.freshAfter = (r.repeated p .answered k).stepped p .answered := by
        rw [hk]
        exact repeated_succ ..
      rw [hsucc, stepped_answer_of_stale hf', if_pos (by omega)]
    rw [hlast]
    exact ⟨rfl, rfl, rfl⟩

end Sys2Proof.Machine

/-! ## Received frames that fail a test (R168 to R170) -/

namespace Sys2Proof.Machine

set_option Elab.async false

variable {raw : RawFrame} {f : Frame} {line : Line}

/-! ### What a frame that passes the tests holds -/

/-- A frame that passes the tests of R168 and R169: its characters are kind, address, length, payload and
check. -/
theorem frameOf_spec (h : frameOf raw = some f) : raw.stopBitsValid = true ∧ raw.chars.length ≤ 65 ∧
    raw.chars.length = f.payload.length + 5 ∧
    (∃ n : Byte, n.toNat = f.payload.length ∧
      raw.chars = f.kind :: f.address :: n :: (f.payload ++ raw.chars.drop (f.payload.length + 3))) ∧
    raw.chars.drop (raw.chars.length - 2) =
      be2 (check (raw.chars.take (raw.chars.length - 2))).toNat := by
  unfold frameOf at h
  split at h
  · next kind address length rest hchars =>
    split at h
    · next hc =>
      obtain ⟨hstop, hlo, hhi, hlen, hcheck⟩ := hc
      cases h
      have hrest : raw.chars.length = rest.length + 3 := by simp [hchars]
      have hpay : (rest.take length.toNat).length = length.toNat := by
        rw [List.length_take]
        omega
      refine ⟨hstop, hhi, by simp only [hpay]; omega, ⟨length, hpay.symm, ?_⟩, ?_⟩
      · simp only [hpay]
        simp [hchars, List.take_append_drop]
      · rw [show raw.chars.length - 2 = length.toNat + 3 by omega]
        exact hcheck.symm
    · cases h
  · cases h

/-- A frame that is delivered passes the tests of R170 (R171). -/
theorem deliveryOf_spec {d : Delivery} (h : deliveryOf line f = some d) : f.address = 0 ∧
    (isAuxKind f.kind = false →
      (line = .console ∧ f.kind = kindSetpoint ∧ f.payload.length = 2) ∨
      (line = .console ∧ f.kind = kindRequest ∧ 2 ≤ f.payload.length) ∨
      (line = .drive ∧ f.kind = kindFeedback ∧ (feedbackOf f.payload).isSome)) := by
  unfold deliveryOf at h
  split at h
  · cases h
  · next ha =>
    refine ⟨not_not.mp ha, fun haux => ?_⟩
    rw [if_neg (by simp [haux])] at h
    split at h
    · split at h
      · next hk =>
        split at h
        · next hl => exact .inl ⟨rfl, hk, hl⟩
        · cases h
      · split at h
        · next hk =>
          split at h
          · next hp => exact .inr (.inl ⟨rfl, hk, by simp [hp]⟩)
          · cases h
        · cases h
    · split at h
      · next hk =>
        obtain ⟨x, hx, -⟩ := Option.map_eq_some_iff.mp h
        exact .inr (.inr ⟨rfl, hk, by simp [hx]⟩)
      · cases h
    · cases h

/-- The flags of a FEEDBACK payload that passes are 0 or 1 (R170). -/
theorem feedbackOf_isSome {p : List Byte} (h : (feedbackOf p).isSome) : p.length = 13 ∧
    (∀ m, p[6]? = some m → m.toNat ≤ 1) ∧ ∀ b, p[11]? = some b → b.toNat ≤ 1 := by
  have field (i : Nat) (m : Byte) (hm : p[i]? = some m) : natOf ((p.drop i).take 1) = m.toNat := by
    obtain ⟨hi, rfl⟩ := List.getElem?_eq_some_iff.mp hm
    rw [List.drop_eq_getElem_cons hi, List.take_succ_cons]
    simp [natOf]
  simp only [feedbackOf, cutFields, List.drop_drop] at h
  split at h
  · next hc =>
    obtain ⟨hlen, hm, hb⟩ := hc
    exact ⟨hlen, fun m h6 => field 6 m h6 ▸ hm, fun b h11 => field 11 b h11 ▸ hb⟩
  · cases h

theorem receptionOf_isSome (h : receptionOf line raw ≠ none) :
    ∃ f d, frameOf raw = some f ∧ deliveryOf line f = some d := by
  obtain ⟨d, hd⟩ := Option.ne_none_iff_exists'.mp h
  obtain ⟨f, hf, hdel⟩ := Option.bind_eq_some_iff.mp hd
  exact ⟨f, d, hf, hdel⟩

theorem exec_discardedFrame (hl : line ≠ .field) (h : receptionOf line raw = none) (s : State) :
    exec (.discardedFrame line raw) s = .next (latch .frameDiscarded s) := by
  have hexec : exec (.discardedFrame line raw) s = .next (receiveFrame line raw s) := rfl
  rw [hexec]
  cases line with
  | field => exact absurd rfl hl
  | console | drive => simp only [receiveFrame, h]

/-- Settles O55: a frame that was delivered would pass the test that the failing one fails. -/
theorem failingFramesDiscarded : Obligations.FailingFramesDiscarded := by
  refine ⟨fun s raw => rfl, ?_⟩
  intro s line raw hl cs aux failing hfail
  suffices hnone : receptionOf line raw = none from exec_discardedFrame hl hnone s
  by_contra hsome
  obtain ⟨f, d, hf, hd⟩ := receptionOf_isSome hsome
  obtain ⟨hstop, hhi, hlen, ⟨n, hn, hchars⟩, hcheck⟩ := frameOf_spec hf
  obtain ⟨haddress, hkind⟩ := deliveryOf_spec hd
  have haux (k : Byte) : isAuxKind k = true ↔ aux k := by simp [isAuxKind, aux]
  have h0 : cs[0]? = some f.kind := by simp only [cs]; rw [hchars]; rfl
  have h1 : cs[1]? = some f.address := by simp only [cs]; rw [hchars]; rfl
  have h2 : cs[2]? = some n := by simp only [cs]; rw [hchars]; rfl
  have hpay (i : Nat) (hi : i < f.payload.length) : cs[i + 3]? = f.payload[i]? := by
    simp only [cs]
    rw [hchars]
    simp [List.getElem?_append_left hi]
  rcases hfail with h | h | h | ⟨m, hm, h⟩ | h | ⟨a, ha, h⟩ | ⟨k, hk, hnaux, hc, hd⟩ |
    ⟨rfl, hk, h⟩ | ⟨rfl, hk, h⟩ | ⟨rfl, hk, h⟩
  · simp only [cs] at h
    omega
  · simp only [cs] at h
    omega
  · exact absurd hstop (by simp [h])
  · cases h2.symm.trans hm
    simp only [cs] at h
    omega
  · exact h hcheck
  · cases h1.symm.trans ha
    exact h haddress
  · cases h0.symm.trans hk
    have hnaux : isAuxKind f.kind = false := Bool.eq_false_iff.mpr fun h => hnaux ((haux _).mp h)
    rcases hkind hnaux with ⟨hl, hk, -⟩ | ⟨hl, hk, -⟩ | ⟨hl, hk, -⟩
    · exact (hc hl).1 hk
    · exact (hc hl).2 hk
    · exact hd hl hk
  · have hk : f.kind = kindSetpoint := Option.some.inj (h0.symm.trans hk)
    simp only [cs, hk] at h hkind
    rcases hkind (by decide) with ⟨-, -, hp⟩ | ⟨-, hk, -⟩ | ⟨hl, -⟩
    · omega
    · exact absurd hk (by decide)
    · cases hl
  · have hk : f.kind = kindRequest := Option.some.inj (h0.symm.trans hk)
    simp only [cs, hk] at h hkind
    rcases hkind (by decide) with ⟨-, hk, -⟩ | ⟨-, -, hp⟩ | ⟨hl, -⟩
    · exact absurd hk (by decide)
    · omega
    · cases hl
  · have hk : f.kind = kindFeedback := Option.some.inj (h0.symm.trans hk)
    rw [hk] at hkind
    rcases hkind (by decide) with ⟨hl, -⟩ | ⟨hl, -⟩ | ⟨-, -, hp⟩
    · cases hl
    · cases hl
    · obtain ⟨hp13, hm, hb⟩ := feedbackOf_isSome hp
      rcases h with h | ⟨m, h9, h⟩ | ⟨b, h14, h⟩
      · simp only [cs] at h
        omega
      · exact absurd (hm m ((hpay 6 (by omega)).symm.trans h9)) (by omega)
      · exact absurd (hb b ((hpay 11 (by omega)).symm.trans h14)) (by omega)

end Sys2Proof.Machine

/-! ## The wind trace at a cycle end: what is appended where (R107 to R109) -/

namespace Sys2Proof.Machine

set_option Elab.async false

/-! ### A delta joined to the newest entry (R107) -/

theorem joinDelta_cons_cons (d : Int) (x y : TraceEntry) (ys : List TraceEntry) :
    joinDelta d (x :: y :: ys) = (joinDelta d (y :: ys)).map fun l => x :: l := by
  cases x <;> rfl

theorem joinDelta_concat (d : Int) (front : List TraceEntry) (e : TraceEntry) :
    joinDelta d (front ++ [e]) = (joinDelta d [e]).map fun l => front ++ l := by
  induction front with
  | nil => simp
  | cons x front ih =>
    obtain ⟨y, ys, hy⟩ := List.exists_cons_of_ne_nil (l := front ++ [e]) (by simp)
    rw [List.cons_append, hy, joinDelta_cons_cons, ← hy, ih, Option.map_map]
    rfl

theorem joinDelta_delta (d : Int) (front : List TraceEntry) (ds : List Int) :
    joinDelta d (front ++ [.delta ds]) =
      if ds.length < 3 then some (front ++ [.delta (ds ++ [d])]) else none := by
  rw [joinDelta_concat, joinDelta]
  split <;> rfl

theorem joinDelta_eq_some {d : Int} {es l : List TraceEntry} (h : joinDelta d es = some l) :
    ∃ front ds, es = front ++ [.delta ds] ∧ ds.length < 3 ∧ l = front ++ [.delta (ds ++ [d])] := by
  obtain rfl | ⟨front, e, rfl⟩ := List.eq_nil_or_concat' es
  · cases h
  · cases e with
    | delta ds =>
      rw [joinDelta_delta] at h
      split at h
      · next hds => exact ⟨front, ds, rfl, hds, (Option.some.inj h).symm⟩
      · cases h
    | full | level | gap =>
      rw [joinDelta_concat, joinDelta] at h
      · cases h
      · simp

theorem joinDelta_eq_none {d : Int} {es : List TraceEntry}
    (h : ∀ front ds, es = front ++ [.delta ds] → 3 ≤ ds.length) : joinDelta d es = none := by
  rw [Option.eq_none_iff_forall_ne_some]
  intro l hl
  obtain ⟨front, ds, hes, hds, -⟩ := joinDelta_eq_some hl
  have := h front ds hes
  omega

namespace WindTrace

variable {x : WindTrace}

theorem joined_eq_some {v : Nat} {es : List TraceEntry} (h : x.joined v = some es) :
    ∃ l front ds, x.last = some l ∧ ((v : Int) - l).natAbs ≤ 7 ∧ x.entries = front ++ [.delta ds] ∧
      ds.length < 3 ∧ es = front ++ [.delta (ds ++ [(v : Int) - l])] := by
  unfold joined at h
  split at h
  · cases h
  · next l hl =>
    split at h
    · next hd =>
      obtain ⟨front, ds, hes, hds, rfl⟩ := joinDelta_eq_some h
      exact ⟨l, front, ds, hl, hd, hes, hds, rfl⟩
    · cases h

/-! ### An entry appended (R109) -/

theorem trimmed_of_room (h : x.entries.length < 1024) : x.trimmed = x :=
  if_neg (Nat.not_le.mpr h)

theorem append_of_room (h : x.entries.length < 1024) (e : TraceEntry) :
    x.append e = { x with entries := x.entries ++ [e] } := by
  rw [append, trimmed_of_room h]

theorem trimmed_of_full (h : 1024 ≤ x.entries.length) : x.trimmed = x.dropOldest.repaired :=
  if_pos h

theorem trimmed_length_of_full (h : x.entries.length = 1024) : x.trimmed.entries.length = 1023 := by
  obtain ⟨-, -, hdrop⟩ := dropMany_frame 1 x
  have hdrop : x.dropOldest.entries = x.entries.drop 1 := hdrop
  rw [trimmed_of_full h.ge, repaired, convertOldest_length, hdrop, List.length_drop, h]

/-- A trim leaves the last value while a value-bearing entry stands behind the oldest. -/
theorem trimmed_last {front : List TraceEntry} {e : TraceEntry} (h : x.entries = front ++ [e])
    (he : e.bearsValue = true) : x.trimmed.last = x.last := by
  by_cases hl : x.entries.length < 1024
  · rw [trimmed_of_room hl]
  · have hl : 1024 ≤ x.entries.length := Nat.le_of_not_lt hl
    obtain ⟨hlast, -, hdrop⟩ := dropMany_frame 1 x
    have hdrop : x.dropOldest.entries = x.entries.drop 1 := hdrop
    have hlast : x.dropOldest.last = x.last := hlast
    have hfront : 1 ≤ front.length := by
      rw [h, List.length_append, List.length_singleton] at hl
      omega
    have hany : x.dropOldest.entries.any TraceEntry.bearsValue = true := by
      rw [hdrop, h, List.drop_append_of_le_length hfront]
      simp [he]
    rw [trimmed_of_full hl, repaired, hlast]
    exact if_pos hany

/-! ### The sample and the level of a cycle end (R107) -/

/-- The newest entry after a sample bears its value. -/
theorem sample_newest (x : WindTrace) (v : Nat) :
    ∃ front e, (x.sample v).entries = front ++ [e] ∧ e.bearsValue = true := by
  unfold sample
  split
  · next es h =>
    obtain ⟨l, front, ds, -, -, -, -, rfl⟩ := joined_eq_some h
    exact ⟨front, _, rfl, rfl⟩
  · refine ⟨x.trimmed.entries, sampleEntry x.trimmed.last v, rfl, ?_⟩
    unfold sampleEntry
    split
    · rfl
    · split <;> rfl

@[simp] theorem sample_last (x : WindTrace) (v : Nat) : (x.sample v).last = some v := by
  unfold sample
  split <;> rfl

theorem cycleEnd_last (x : WindTrace) (v : Nat) (old new : WindLevel) :
    (x.cycleEnd v old new).last = some v := by
  obtain ⟨front, e, hes, he⟩ := sample_newest x v
  unfold cycleEnd
  split
  · exact sample_last x v
  · exact (trimmed_last hes he).trans (sample_last x v)

/-- The sample of a trace with room, joined or appended. -/
theorem sample_of_room (h : x.entries.length < 1024) (v : Nat) : x.sample v = { x with
    entries := (x.joined v).getD (x.entries ++ [sampleEntry x.last v])
    last := some v, gapMark := false } := by
  unfold sample
  cases x.joined v with
  | none => simp only [append_of_room h, trimmed_of_room h, Option.getD_none]
  | some es => rfl

theorem sample_length_le (h : x.entries.length < 1024) (v : Nat) :
    (x.sample v).entries.length ≤ x.entries.length + 1 := by
  rw [sample_of_room h]
  cases hj : x.joined v with
  | none => simp
  | some es =>
    obtain ⟨l, front, ds, -, -, hes, -, rfl⟩ := joined_eq_some hj
    simp [hes]

theorem cycleEnd_of_room (h : x.entries.length ≤ 1022) (v : Nat) (old new : WindLevel) :
    x.cycleEnd v old new = { x with
      entries := (x.joined v).getD (x.entries ++ [sampleEntry x.last v]) ++
        if new = old then [] else [.level new]
      last := some v, gapMark := false } := by
  have hroom : x.entries.length < 1024 := by omega
  have hsample : (x.sample v).entries.length < 1024 := by
    have := sample_length_le hroom v
    omega
  unfold cycleEnd
  by_cases hl : old = new
  · rw [if_pos hl, if_pos hl.symm, sample_of_room hroom, List.append_nil]
  · rw [if_neg hl, if_neg (Ne.symm hl), append_of_room hsample, sample_of_room hroom]

/-! ### The entries a sample leaves, by the last value (R107) -/

theorem sampled_of_unknown (h : x.last = none) (v : Nat) :
    (x.joined v).getD (x.entries ++ [sampleEntry x.last v]) = x.entries ++ [.full v] := by
  simp only [joined, sampleEntry, h, Option.getD_none]

theorem sampled_of_far {v l : Nat} (h : x.last = some l) (hd : 7 < ((v : Int) - l).natAbs) :
    (x.joined v).getD (x.entries ++ [sampleEntry x.last v]) = x.entries ++ [.full v] := by
  simp only [joined, sampleEntry, h, if_neg (Nat.not_le.mpr hd), Option.getD_none]

theorem sampled_of_near {v l : Nat} (h : x.last = some l) (hd : ((v : Int) - l).natAbs ≤ 7) :
    (x.joined v).getD (x.entries ++ [sampleEntry x.last v]) =
      (joinDelta ((v : Int) - l) x.entries).getD (x.entries ++ [.delta [(v : Int) - l]]) := by
  simp only [joined, sampleEntry, h, if_pos hd]

/-- What a cycle end with a counting mast appends to a trace with room for two entries (R107). -/
theorem cycleEnd_spec (h : x.entries.length ≤ 1022) (v : Nat) (old new : WindLevel) :
    let y := x.cycleEnd v old new
    let level := if new = old then [] else [TraceEntry.level new]
    y.last = some v ∧ y.gapMark = false ∧ y.boundary = x.boundary ∧
    (x.last = none → y.entries = x.entries ++ [.full v] ++ level) ∧
    ∀ l, x.last = some l →
      let d := (v : Int) - l
      (7 < d.natAbs → y.entries = x.entries ++ [.full v] ++ level) ∧
      (d.natAbs ≤ 7 →
        (∀ front ds, x.entries = front ++ [.delta ds] → ds.length < 3 →
          y.entries = front ++ [.delta (ds ++ [d])] ++ level) ∧
        ((∀ front ds, x.entries = front ++ [.delta ds] → 3 ≤ ds.length) →
          y.entries = x.entries ++ [.delta [d]] ++ level)) := by
  simp only [cycleEnd_of_room h]
  refine ⟨trivial, trivial, trivial, fun hl => ?_, fun l hl => ⟨fun hd => ?_, fun hd =>
    ⟨fun front ds he hds => ?_, fun hds => ?_⟩⟩⟩
  · rw [sampled_of_unknown hl]
  · rw [sampled_of_far hl hd]
  · rw [sampled_of_near hl hd, he, joinDelta_delta, if_pos hds, Option.getD_some]
  · rw [sampled_of_near hl hd, joinDelta_eq_none hds, Option.getD_none]

/-! ### The GAP of a cycle end without a counting mast (R108) -/

theorem gapEnd_marked (h : x.gapMark = true) : x.gapEnd = x := if_pos h

theorem gapEnd_unmarked (h : x.gapMark = false) :
    x.gapEnd = { x.append .gap with gapMark := true, last := none } :=
  if_neg (by simp [h])

theorem gapEnd_spec (h : x.gapMark = false) : x.gapEnd.last = none ∧ x.gapEnd.gapMark = true ∧
    x.gapEnd.entries.getLast? = some .gap ∧
    (x.entries.length < 1024 → x.gapEnd.entries = x.entries ++ [.gap]) ∧
    (x.entries.length = 1024 → x.gapEnd.entries.length = 1024) := by
  rw [gapEnd_unmarked h]
  refine ⟨rfl, rfl, List.getLast?_concat .., fun hl => ?_, fun hl => ?_⟩
  · rw [append_of_room hl]
  · have := trimmed_length_of_full hl
    simp only [append, List.length_append, List.length_singleton, this]

end WindTrace

end Sys2Proof.Machine

/-! ## The run, seen by the profile unit (R142, R147, R148) -/

namespace Sys2Proof.Machine

set_option Elab.async false

variable {s t u : State}

/-! ### What the profile unit goes by -/

/-- Two states that a run goes on alike from: the run and what its steps are tested by. -/
structure SameRun (s t : State) : Prop where
  ms : t.ms = s.ms
  profiles : t.profiles = s.profiles
  run : t.run = s.run
  req : t.req = s.req
  waitTag : t.waitTag = s.waitTag
  consoleQueue : t.consoleQueue = s.consoleQueue
  allEmpty : t.allEmpty = s.allEmpty
  fails : ∀ x, t.cabinAtFails x = s.cabinAtFails x

namespace SameRun

theorem trans (h : SameRun s t) (k : SameRun t u) : SameRun s u :=
  ⟨k.ms.trans h.ms, k.profiles.trans h.profiles, k.run.trans h.run, k.req.trans h.req,
    k.waitTag.trans h.waitTag, k.consoleQueue.trans h.consoleQueue, k.allEmpty.trans h.allEmpty,
    fun x => (k.fails x).trans (h.fails x)⟩

/-- A change that leaves every field the profile unit looks at. -/
theorem of_frame (hms : t.ms = s.ms := by simp) (hp : t.profiles = s.profiles := by simp)
    (hr : t.run = s.run := by simp) (hq : t.req = s.req := by simp)
    (hw : t.waitTag = s.waitTag := by simp) (hc : t.consoleQueue = s.consoleQueue := by simp)
    (hn : t.ride = s.ride := by simp) (hk : t.cabins = s.cabins := by simp) : SameRun s t :=
  ⟨hms, hp, hr, hq, hw, hc, by simp only [State.allEmpty, hn, hk],
    fun x => by simp only [State.cabinAtFails, hn, hk]⟩

theorem runSteps (h : SameRun s t) : t.runSteps = s.runSteps := by
  simp only [State.runSteps, State.profileSteps, h.run, h.profiles]

theorem currentStep (h : SameRun s t) : t.currentStep = s.currentStep := by
  simp only [State.currentStep, h.runSteps, h.run]

theorem endRun (h : SameRun s t) (e : EndStatus) : SameRun (endRun e s) (endRun e t) := by
  have keeps (u : State) : (Machine.endRun e u).allEmpty = u.allEmpty ∧
      ∀ x, (Machine.endRun e u).cabinAtFails x = u.cabinAtFails x := by
    rw [endRun_eq]
    exact ⟨rfl, fun _ => rfl⟩
  refine ⟨by simpa using h.ms, by simpa using h.profiles, ?_, ?_, ?_, ?_, ?_, fun x => ?_⟩
  · simp only [endRun_eq, h.run, h.ms]
  · simp only [endRun_eq, h.req]
  · simp only [endRun_eq]
  · simp only [endRun_eq, State.finalParts, h.consoleQueue, h.waitTag, h.run]
  · rw [(keeps t).1, (keeps s).1, h.allEmpty]
  · rw [(keeps t).2, (keeps s).2, h.fails]

/-- The run record changed alike. -/
theorem withRun (h : SameRun s t) (r : RunRecord) : SameRun { s with run := r } { t with run := r } :=
  ⟨h.ms, h.profiles, rfl, h.req, h.waitTag, h.consoleQueue, h.allEmpty, h.fails⟩

theorem startStep (h : SameRun s t) : SameRun (startStep s) (startStep t) := by
  have hrun : (Machine.startStep t).run = (Machine.startStep s).run := by
    simp only [Machine.startStep, State.after, h.ms, h.currentStep, h.run]
  have hs := h.withRun (Machine.startStep s).run
  rw [← hrun] at hs
  nth_rewrite 1 [hrun] at hs
  exact hs

/-- A met step leads on alike: to the end of the run, or to the same step. -/
theorem nextStep (h : SameRun s t) : (nextStep s = none ∧ nextStep t = none) ∨
    ∃ s' t', nextStep s = some s' ∧ nextStep t = some t' ∧ SameRun s' t' := by
  simp only [Machine.nextStep, h.runSteps, h.run]
  split
  · exact .inr ⟨_, _, rfl, rfl, h.withRun _⟩
  · split
    · exact .inr ⟨_, _, rfl, rfl, h.withRun _⟩
    · exact .inl ⟨rfl, rfl⟩

theorem beginStep (h : SameRun s t) (n : Nat) : SameRun (beginStep n s) (beginStep n t) := by
  induction n generalizing s t with
  | zero => exact h.startStep
  | succ n ih =>
    have hb := h.startStep
    simp only [Machine.beginStep, hb.fails, hb.allEmpty, hb.currentStep]
    split
    · exact hb.endRun .fault
    · split
      · obtain ⟨hs, ht⟩ | ⟨s', t', hs, ht, h'⟩ := hb.nextStep
        · rw [hs, ht]
          exact hb.endRun .complete
        · rw [hs, ht]
          exact ih h'
      · exact hb

theorem stepMet (h : SameRun s t) : SameRun (stepMet s) (stepMet t) := by
  have hfuel : t.stepFuel = s.stepFuel := by simp only [State.stepFuel, h.run]
  unfold Machine.stepMet
  obtain ⟨hs, ht⟩ | ⟨s', t', hs, ht, h'⟩ := h.nextStep
  · rw [hs, ht]
    exact h.endRun .complete
  · rw [hs, ht, hfuel]
    exact h'.beginStep s.stepFuel

/-- The steps' tests do not look at the entry bars. -/
theorem barred (p : Prop) [Decidable p] (s : State) : SameRun s { s with cabins := s.cabins.map fun c =>
    if p ∧ c.state = .boarding then { c with entryBarred := true } else c } := by
  refine ⟨rfl, rfl, rfl, rfl, rfl, rfl, ?_, fun x => ?_⟩
  · simp only [State.allEmpty, ← List.map_take, List.all_map]
    congr 1
    funext c
    by_cases h : p ∧ c.state = .boarding
    · simp only [Function.comp, if_pos h]
    · simp only [Function.comp, if_neg h]
  · simp only [State.cabinAtFails, List.getD_eq_getElem?_getD, List.getElem?_map]
    cases s.cabins[x.param / 8]? with
    | none => rfl
    | some c =>
      simp only [Option.map_some, Option.getD_some]
      split <;> rfl

end SameRun

/-! ### Where a met step leads (R148) -/

theorem stepMet_of_last (h : profileLength s.runSteps ≤ s.run.step + 1) (hr : s.run.repeats = 0) :
    stepMet s = endRun .complete s := by
  have hn : nextStep s = none := by
    rw [nextStep, if_neg (by omega), if_neg (by omega)]
  simp only [stepMet, hn]

theorem nextStep_eq_some {n repeats : Nat}
    (h : (s.run.step + 1 < profileLength s.runSteps ∧ n = s.run.step + 1 ∧ repeats = s.run.repeats) ∨
      (profileLength s.runSteps ≤ s.run.step + 1 ∧ n = 0 ∧ s.run.repeats = repeats + 1)) :
    nextStep s = some { s with run := { s.run with step := n, repeats := repeats } } := by
  rcases h with ⟨hlt, rfl, rfl⟩ | ⟨hle, rfl, hr⟩
  · rw [nextStep, if_pos hlt]
  · rw [nextStep, if_neg (by omega), if_pos (by omega), hr, Nat.add_sub_cancel]

/-- A met step whose next step `x` neither fails nor is met at once begins it (R142, R148). -/
theorem stepMet_begins {n repeats : Nat} {x : Step}
    (h : nextStep s = some { s with run := { s.run with step := n, repeats := repeats } })
    (hx : s.runSteps[n]? = some x) (he : x.kind ≠ .allEmpty)
    (hc : x.kind = .cabinAt → x.param / 8 < s.ride.n ∧
      (s.cabins.getD (x.param / 8) Cabin.notLoaded).state ≠ .outOfService) :
    (stepMet s).run = { s.run with
      step := n, repeats := repeats, stepStart := s.ms, travel := 0, ordersInStep := false
      durationTimer := some (s.after x.maxDuration)
      dwellTimer := if x.kind = .dwell then some (s.after x.param) else none
      begunNow := true } := by
  let s' : State := { s with run := { s.run with step := n, repeats := repeats } }
  have hcur : s'.currentStep = x := by
    have : s'.runSteps[n]? = some x := hx
    simp [State.currentStep, List.getD_eq_getElem?_getD, s', this]
  have hfails : s'.cabinAtFails s'.currentStep = false := by
    rw [hcur]
    by_cases hk : x.kind = .cabinAt
    · obtain ⟨hn, hs⟩ := hc hk
      simp only [State.cabinAtFails, hk, s', Bool.and_eq_false_iff, Bool.or_eq_false_iff]
      exact .inr ⟨decide_eq_false (Nat.not_le.mpr hn), beq_eq_false_iff_ne.mpr hs⟩
    · simp [State.cabinAtFails, hk]
  have hstarts : stepMet s = startStep s' := by
    simp only [stepMet, h]
    exact beginStep_starts hfails (.inl (hcur ▸ he))
  rw [hstarts, startStep, hcur]
  rfl

/-! ### The profile unit's turn at a cycle end (R147) -/

theorem profileCycleEnd_unmet (h : s.run.running = false ∨ s.currentStep.kind ≠ .windBelow ∨
    s.currentStep.param < s.wind.level.code) : profileCycleEnd s = s := by
  refine if_neg ?_
  simp only [Bool.and_eq_true, beq_iff_eq, decide_eq_true_eq]
  rintro ⟨⟨hr, hk⟩, hl⟩
  rcases h with h | h | h
  · exact absurd hr (by simp [h])
  · exact h hk
  · omega

theorem profileCycleEnd_met (hr : s.run.running = true) (hk : s.currentStep.kind = .windBelow)
    (hl : s.wind.level.code ≤ s.currentStep.param) : profileCycleEnd s = stepMet s :=
  if_pos (by simp [hr, hk, hl])

end Sys2Proof.Machine

/-! ## The cause reports of a cycle end (R101, R105, R117 to R119, R126) -/

namespace Sys2Proof.Machine

set_option Elab.async false

variable {s t u : State} {src : HoldSource}

/-! ### The sources of the list after a report -/

theorem mem_sources : src ∈ s.holds.map (fun e => e.source) ↔ (s.entry src).isSome := by
  rw [← Option.ne_none_iff_isSome, Ne, entry_eq_none_iff]
  simp

/-- A report of one source: the entries of the others stay, its own may go, and stands at the end of the
list where it comes (R115, R117, R121). -/
structure Reported (src : HoldSource) (s t : State) : Prop where
  others : ∀ x, src ≠ x → t.entry x = s.entry x
  sources : t.holds.map (fun e => e.source) =
    (s.holds.map fun e => e.source).filter (fun x => (t.entry x).isSome) ++
      if (s.entry src).isNone && (t.entry src).isSome then [src] else []

namespace Reported

theorem causeReport (k : Nat) (c : HoldClass) (sub : Option Nat) (s : State) :
    Reported src s (causeReport src k c sub s) where
  others x hx := entry_causeReport_other hx k c sub
  sources := by
    have hown : ((Machine.causeReport src k c sub s).entry src).isSome = true := by
      rw [entry_causeReport_same]
      rfl
    rw [sources_causeReport, hown, Bool.and_true]
    congr 1
    · refine (List.filter_eq_self.mpr fun x hx => ?_).symm
      by_cases h : src = x
      · exact h ▸ hown
      · rw [entry_causeReport_other h]
        exact mem_sources.mp hx
    · cases s.entry src <;> rfl

theorem absenceReport (h : ∀ e, s.entry src = some e → e.latched = false) :
    Reported src s (absenceReport src s) where
  others x hx := entry_absenceReport_other hx
  sources := by
    have hown := entry_absenceReport_same h
    have hfilter : (Machine.absenceReport src s).holds = s.holds.filter fun e => e.source != src := by
      unfold Machine.absenceReport
      cases he : s.entry src with
      | none =>
        refine (List.filter_eq_self.mpr fun e hmem => ?_).symm
        exact bne_iff_ne.mpr (entry_eq_none_iff.mp he e hmem)
      | some e => simp only [h e he, Bool.false_eq_true, if_false, removeEntry_holds]
    rw [hfilter, hown, Option.isSome_none, Bool.and_false, if_neg Bool.false_ne_true, List.append_nil,
      List.filter_map]
    congr 1
    refine List.filter_congr fun e hmem => ?_
    by_cases hs : src = e.source
    · simp [← hs, hown]
    · have hsome : (s.entry e.source).isSome = true := mem_sources.mp (List.mem_map_of_mem hmem)
      simp only [Function.comp, entry_absenceReport_other hs, hsome]
      exact bne_iff_ne.mpr (Ne.symm hs)

/-- The reports of two sources, one after the other. -/
theorem sources_trans {a b : HoldSource} (h : Reported a s t) (k : Reported b t u) (hab : a ≠ b) :
    u.holds.map (fun e => e.source) =
      (s.holds.map fun e => e.source).filter (fun x => (u.entry x).isSome) ++
        (if (s.entry a).isNone && (u.entry a).isSome then [a] else []) ++
        (if (s.entry b).isNone && (u.entry b).isSome then [b] else []) := by
  have ha : u.entry a = t.entry a := k.others a hab.symm
  have hb : t.entry b = s.entry b := h.others b hab
  rw [k.sources, h.sources, List.filter_append, List.filter_filter, hb, ha]
  congr 2
  · refine List.filter_congr fun x hx => ?_
    by_cases hxb : b = x
    · subst hxb
      rw [hb, mem_sources.mp hx, Bool.and_true]
    · rw [k.others x hxb, Bool.and_self]
  · split
    · next hc =>
      have : (u.entry a).isSome = true := by
        rw [ha]
        exact (Bool.and_eq_true_iff.mp hc).2
      simp [this]
    · rfl

end Reported

/-! ### Reports of an automatic source -/

theorem HoldLaw.automatic (h : HoldLaw s) (hs : src = .wind ∨ src = .masts) (e : HoldEntry)
    (he : s.entry src = some e) : e.latched = false := by
  obtain ⟨hsrc, hform⟩ := h.formed he
  refine HoldEntry.formed_automatic hform ?_
  rw [hsrc]
  exact hs.elim .inl fun hm => .inr (.inl hm)

/-- The entry that a report of a WIND or MASTS cause leaves, whatever stood before (R116, R119). -/
theorem entry_causeReport_automatic (hs : src = .wind ∨ src = .masts) (h : HoldLaw s) (k : Nat)
    (c : HoldClass) : (causeReport src k c none s).entry src = some ⟨src, c, k, none,
      ((s.entry src).map fun e => e.time).getD s.ms, false, true⟩ := by
  rw [entry_causeReport_same]
  cases he : s.entry src with
  | none => rcases hs with rfl | rfl <;> rfl
  | some old =>
    obtain ⟨hsrc, hform⟩ := h.formed he
    have hauto := h.automatic hs old he
    have hpresent : old.present = presentFlag old.source s.causes :=
      eq_of_beq (Bool.and_eq_true_iff.mp hform).1
    rw [hsrc] at hpresent
    rcases hs with rfl | rfl <;>
      simp only [reportedEntry, hauto, hpresent, hsrc, presentFlag, latchedForm, Bool.false_eq_true, if_false,
        Option.map_some, Option.getD_some]

/-- A report below STOP of an automatic source is nothing to the run. -/
theorem causeReport_sameRun {c : HoldClass} (hc : c ≠ .stop)
    (h : ∀ e, s.entry src = some e → e.latched = false) (k : Nat) (sub : Option Nat) :
    SameRun s (causeReport src k c sub s) := by
  cases he : s.entry src with
  | none =>
    rw [causeReport_new he, addEntry_eq, if_neg hc]
    exact (SameRun.barred (s.holds = []) s).trans (.of_frame rfl rfl rfl rfl rfl rfl rfl rfl)
  | some old =>
    have hcls : (reportedEntry old k c sub).cls = c := by
      simp only [reportedEntry, h old he, Bool.false_eq_true, if_false]
    rw [causeReport_old he, hcls, stopEffectsIf, beq_false_of_ne hc, Bool.and_false,
      if_neg Bool.false_ne_true]
    exact .of_frame

theorem absenceReport_sameRun (src : HoldSource) (s : State) : SameRun s (absenceReport src s) :=
  .of_frame

/-- What a report at STOP does to the run (R126): a run under no STOP entry ends HELD. -/
theorem causeReport_stop_run (k : Nat) (sub : Option Nat) (s : State) :
    (s.run.running = false → (causeReport src k .stop sub s).run = s.run) ∧
    (s.run.running = true → s.hasStop = false →
      (causeReport src k .stop sub s).run.running = false ∧
      (causeReport src k .stop sub s).run.lastEnd = some .held ∧
      (causeReport src k .stop sub s).req.armed = false) := by
  have stopped (v : State) (e : HoldEntry) (hr : v.run = s.run) :
      (s.run.running = false → (v.stopped e).run = s.run) ∧
      (s.run.running = true → (v.stopped e).run.running = false ∧
        (v.stopped e).run.lastEnd = some .held ∧ (v.stopped e).req.armed = false) := by
    simp only [State.stopped, hr]
    cases s.run.running <;> simp
  cases he : s.entry src with
  | none =>
    rw [causeReport_new_stop he]
    obtain ⟨hidle, hruns⟩ := stopped (s.withEntry _) _ rfl
    exact ⟨hidle, fun hr _ => hruns hr⟩
  | some old =>
    rw [causeReport_old he, stopEffectsIf, stopEffects_eq]
    obtain ⟨hidle, hruns⟩ := stopped (putEntry (reportedEntry old k .stop sub) s)
      (reportedEntry old k .stop sub) rfl
    split
    · exact ⟨hidle, fun hr _ => hruns hr⟩
    · next hc =>
      refine ⟨fun _ => rfl, fun _ hs => absurd ?_ hc⟩
      have hold : old.cls ≠ .stop := fun h => by
        have : s.hasStop = true := List.any_eq_true.mpr ⟨old, (entry_source he).2, by simp [h]⟩
        rw [hs] at this
        cases this
      have hnew : (reportedEntry old k .stop sub).cls = .stop := by
        unfold reportedEntry
        split
        · exact higher_stop old.cls
        · rfl
      simp [hold, hnew]

/-! ### The WIND report (R105) -/

theorem reportWind_reported (h : HoldLaw s) : Reported .wind s (reportWind s) := by
  have hauto := h.automatic (.inl rfl)
  unfold reportWind
  split
  · exact .absenceReport hauto
  · exact .absenceReport hauto
  · exact .causeReport ..
  · exact .causeReport ..

theorem entry_reportWind (h : HoldLaw s) : (reportWind s).entry .wind = match s.wind.level with
    | .restrict => some ⟨.wind, .slow, 2, none, ((s.entry .wind).map fun e => e.time).getD s.ms,
        false, true⟩
    | .hold => some ⟨.wind, .stop, 3, none, ((s.entry .wind).map fun e => e.time).getD s.ms,
        false, true⟩
    | _ => none := by
  have hauto := h.automatic (src := .wind) (.inl rfl)
  unfold reportWind
  cases s.wind.level with
  | calm => exact entry_absenceReport_same hauto
  | watch => exact entry_absenceReport_same hauto
  | restrict => exact entry_causeReport_automatic (.inl rfl) h ..
  | hold => exact entry_causeReport_automatic (.inl rfl) h ..

theorem reportWind_sameRun (h : HoldLaw s) (hl : s.wind.level ≠ .hold) : SameRun s (reportWind s) := by
  unfold reportWind
  split
  · exact absenceReport_sameRun ..
  · exact absenceReport_sameRun ..
  · exact causeReport_sameRun (by decide) (h.automatic (.inl rfl)) ..
  · next hc => exact absurd hc hl

theorem reportWind_of_hold (h : s.wind.level = .hold) :
    reportWind s = causeReport .wind 3 .stop none s := by
  simp only [reportWind, h]

/-! ### The MASTS report (R101) -/

theorem reportMasts_reported (h : HoldLaw s) : Reported .masts s (reportMasts s) := by
  unfold reportMasts
  split
  · exact .causeReport ..
  · split
    · exact .causeReport ..
    · exact .absenceReport (h.automatic (.inr rfl))

theorem entry_reportMasts (h : HoldLaw s) : (reportMasts s).entry .masts =
    if s.wind.freshCount = 0 then
      some ⟨.masts, .creep, 0, none, ((s.entry .masts).map fun e => e.time).getD s.ms, false, true⟩
    else if s.wind.freshCount < s.windTable.minFresh then
      some ⟨.masts, .slow, s.wind.freshCount, none, ((s.entry .masts).map fun e => e.time).getD s.ms,
        false, true⟩
    else none := by
  unfold reportMasts
  split
  · exact entry_causeReport_automatic (.inr rfl) h ..
  · split
    · exact entry_causeReport_automatic (.inr rfl) h ..
    · exact entry_absenceReport_same (h.automatic (.inr rfl))

theorem reportMasts_sameRun (h : HoldLaw s) : SameRun s (reportMasts s) := by
  have hauto := h.automatic (src := .masts) (.inr rfl)
  unfold reportMasts
  split
  · exact causeReport_sameRun (by decide) hauto ..
  · split
    · exact causeReport_sameRun (by decide) hauto ..
    · exact absenceReport_sameRun ..

end Sys2Proof.Machine

/-! ## The end of a cycle (R89, R99 to R109, R147) -/

namespace Sys2Proof.Machine

set_option Elab.async false

variable {s t : State}

/-! ### The governing values and the level (R99, R100) -/

theorem foldl_max_spec (l : List Nat) (b : Nat) :
    l.foldl max b ∈ b :: l ∧ ∀ x ∈ b :: l, x ≤ l.foldl max b := by
  induction l generalizing b with
  | nil => simp
  | cons a l ih =>
    obtain ⟨hmem, hle⟩ := ih (max b a)
    rw [List.foldl_cons]
    refine ⟨?_, ?_⟩
    · rcases List.mem_cons.mp hmem with h | h
      · rw [h]
        rcases max_choice b a with h | h <;> simp [h]
      · simp [h]
    · have hmax := hle (max b a) (by simp)
      simp only [List.mem_cons, forall_eq_or_imp] at hle ⊢
      exact ⟨by omega, by omega, hle.2⟩

/-- The greatest of some values. -/
theorem foldl_max_greatest {l : List Nat} (h : l ≠ []) :
    l.foldl max 0 ∈ l ∧ ∀ x ∈ l, x ≤ l.foldl max 0 := by
  obtain ⟨hmem, hle⟩ := foldl_max_spec l 0
  refine ⟨?_, fun x hx => hle x (List.mem_cons_of_mem _ hx)⟩
  rcases List.mem_cons.mp hmem with h0 | hmem
  · obtain ⟨a, ha⟩ := List.exists_mem_of_ne_nil l h
    have : a = l.foldl max 0 := by
      have := hle a (List.mem_cons_of_mem _ ha)
      omega
    exact this ▸ ha
  · exact hmem

theorem stepLevel_gov (w : WindRecord) (t : WindTable) :
    (w.stepLevel t).govGust = w.govGust ∧ (w.stepLevel t).freshCount = w.freshCount := by
  unfold WindRecord.stepLevel
  split
  · unfold WindRecord.rise
    simp only
    split <;> exact ⟨rfl, rfl⟩
  · unfold WindRecord.settle
    split
    · exact ⟨rfl, rfl⟩
    · split
      · split <;> exact ⟨rfl, rfl⟩
      · exact ⟨rfl, rfl⟩

/-- The governing mean of the counting masts (R100). -/
def State.govMeanNow (s : State) : Nat := (s.counting.map Mast.mean).foldl max 0

/-- The governing gust of the counting masts (R100). -/
def State.govGustNow (s : State) : Nat := (s.counting.map Mast.gust).foldl max 0

theorem windAfter_of_none (h : s.counting = []) : s.windAfter = { s.wind with freshCount := 0 } := by
  simp only [State.windAfter, h, List.isEmpty_nil, if_true]

theorem windAfter_of_counting (h : s.counting ≠ []) : s.windAfter = WindRecord.stepLevel { s.wind with
    govMean := s.govMeanNow, govGust := s.govGustNow, freshCount := s.counting.length } s.windTable := by
  simp only [State.windAfter, List.isEmpty_eq_false_iff.mpr h, Bool.false_eq_true, if_false]
  rfl

theorem windAfter_freshCount (s : State) : s.windAfter.freshCount = s.counting.length := by
  by_cases h : s.counting = []
  · simp [windAfter_of_none h, h]
  · rw [windAfter_of_counting h, (stepLevel_gov _ _).2]

theorem windAfter_govGust (h : s.counting ≠ []) : s.windAfter.govGust = s.govGustNow := by
  rw [windAfter_of_counting h, (stepLevel_gov _ _).1]

/-! ### The wind monitor's cycle work (R99) -/

theorem windCycleEnd_wind (s : State) : (windCycleEnd s).wind = s.windAfter := by simp [windCycleEnd]

/-- The state as the two cause reports of the cycle work leave it. -/
def State.causesReported (s : State) : State := reportMasts (reportWind { s with wind := s.windAfter })

theorem windCycleEnd_holds (s : State) : (windCycleEnd s).holds = s.causesReported.holds := by
  simp [windCycleEnd, State.causesReported]

theorem reportWind_holdLaw (h : HoldLaw s) : HoldLaw (reportWind { s with wind := s.windAfter }) :=
  (HoldLaw.reportWind (s := { s with wind := s.windAfter }) h).1

theorem windCycleEnd_entry_wind (h : HoldLaw s) : (windCycleEnd s).entry .wind =
    match s.windAfter.level with
    | .restrict => some ⟨.wind, .slow, 2, none, ((s.entry .wind).map fun e => e.time).getD s.ms,
        false, true⟩
    | .hold => some ⟨.wind, .stop, 3, none, ((s.entry .wind).map fun e => e.time).getD s.ms,
        false, true⟩
    | _ => none := by
  rw [entry_congr (windCycleEnd_holds s), State.causesReported, entry_reportMasts_other (by decide)]
  exact entry_reportWind (s := { s with wind := s.windAfter }) h

theorem windCycleEnd_entry_masts (h : HoldLaw s) : (windCycleEnd s).entry .masts =
    if s.counting.length = 0 then
      some ⟨.masts, .creep, 0, none, ((s.entry .masts).map fun e => e.time).getD s.ms, false, true⟩
    else if s.counting.length < s.windTable.minFresh then
      some ⟨.masts, .slow, s.counting.length, none, ((s.entry .masts).map fun e => e.time).getD s.ms,
        false, true⟩
    else none := by
  have hentry : (reportWind { s with wind := s.windAfter }).entry .masts = s.entry .masts :=
    entry_reportWind_other (by decide)
  rw [entry_congr (windCycleEnd_holds s), State.causesReported,
    entry_reportMasts (reportWind_holdLaw h), hentry]
  simp only [reportWind_frame, windAfter_freshCount]

theorem windCycleEnd_entry_other {src : HoldSource} (hw : src ≠ .wind) (hm : src ≠ .masts) :
    (windCycleEnd s).entry src = s.entry src := by
  rw [entry_congr (windCycleEnd_holds s), State.causesReported, entry_reportMasts_other hm.symm,
    entry_reportWind_other hw.symm]
  rfl

theorem windCycleEnd_sources (h : HoldLaw s) : (windCycleEnd s).holds.map (fun e => e.source) =
    (s.holds.map fun e => e.source).filter (fun src => ((windCycleEnd s).entry src).isSome) ++
      (if (s.entry .wind).isNone && ((windCycleEnd s).entry .wind).isSome then [.wind] else []) ++
      (if (s.entry .masts).isNone && ((windCycleEnd s).entry .masts).isSome then [.masts] else []) := by
  have hentry (src : HoldSource) : (windCycleEnd s).entry src = s.causesReported.entry src :=
    entry_congr (windCycleEnd_holds s)
  rw [windCycleEnd_holds]
  simp only [hentry]
  exact (reportWind_reported (s := { s with wind := s.windAfter }) h).sources_trans
    (reportMasts_reported (reportWind_holdLaw h)) (by decide)

theorem appendTrace_sameRun (old : WindLevel) (s : State) : SameRun s (appendTrace old s) := .of_frame

theorem windCycleEnd_sameRun (h : HoldLaw s) (hl : s.windAfter.level ≠ .hold) :
    SameRun s (windCycleEnd s) := by
  have hwind : SameRun s { s with wind := s.windAfter } := .of_frame
  have hreport : SameRun { s with wind := s.windAfter } (reportWind { s with wind := s.windAfter }) :=
    reportWind_sameRun h hl
  have hmasts := reportMasts_sameRun (reportWind_holdLaw h)
  exact hwind.trans (hreport.trans (hmasts.trans (appendTrace_sameRun ..)))

/-- A rise to HOLD, or a level that stays there: the WIND report at STOP, and nothing more to the run. -/
theorem windCycleEnd_run_of_hold (h : HoldLaw s) (hl : s.windAfter.level = .hold) :
    (s.run.running = false → (windCycleEnd s).run = s.run) ∧
    (s.run.running = true → s.hasStop = false → (windCycleEnd s).run.running = false ∧
      (windCycleEnd s).run.lastEnd = some .held ∧ (windCycleEnd s).req.armed = false) := by
  have hsame : SameRun (reportWind { s with wind := s.windAfter }) (windCycleEnd s) :=
    (reportMasts_sameRun (reportWind_holdLaw h)).trans (appendTrace_sameRun ..)
  rw [hsame.run, hsame.req, reportWind_of_hold hl]
  exact causeReport_stop_run 3 none { s with wind := s.windAfter }

/-! ### The trace (R107 to R109) -/

theorem windCycleEnd_trace_of_none (h : s.counting = []) : (windCycleEnd s).trace = s.trace.gapEnd ∧
    (s.trace.gapMark = false → s.trace.entries.length = 1024 →
      (windCycleEnd s).latched.traceWrapped = true) := by
  have hcount : s.windAfter.freshCount = 0 := by simp [windAfter_freshCount, h]
  unfold windCycleEnd appendTrace
  rw [if_pos (by simpa using hcount)]
  refine ⟨by simp, fun hg hl => ?_⟩
  simp [hg, hl, traceLimit, LatchedSet.with]

theorem windCycleEnd_trace_of_counting (h : s.counting ≠ []) : (windCycleEnd s).trace =
    s.trace.cycleEnd s.govGustNow s.wind.level s.windAfter.level := by
  have hcount : s.windAfter.freshCount ≠ 0 := by simpa [windAfter_freshCount] using h
  unfold windCycleEnd appendTrace
  rw [if_neg (by simpa using hcount)]
  simp [windAfter_govGust h]

end Sys2Proof.Machine

/-! ## The end of a late window (R85, R89) -/

namespace Sys2Proof.Machine

set_option Elab.async false

variable {s t : State}

/-! ### The end of a cycle and the next one (R89) -/

theorem exists_nextEntry {j : Nat} (hj : j < s.walked.length) (hset : (s.pollEntry j).kind ≠ .unset) :
    ∃ i, s.nextEntry 0 = some i := by
  rw [← Option.isSome_iff_exists, State.nextEntry, nextSet_eq_findIdx?, Option.isSome_map, List.drop_zero,
    List.findIdx?_isSome, List.any_eq_true]
  exact ⟨s.walked[j], List.getElem_mem hj, by simpa [walked_getElem hj] using hset⟩

theorem nextEntry_finishCycle (i : Nat) : (finishCycle s).nextEntry i = s.nextEntry i :=
  nextEntry_congr (by simp) i

theorem endCycle_of_unmarked (h : s.poller.pendingMark = false) : endCycle s = finishCycle s :=
  if_neg (by simp [h])

theorem endCycle_of_marked (h : s.poller.pendingMark = true) : endCycle s =
    startCycle { finishCycle s with poller := { (finishCycle s).poller with pendingMark := false } } :=
  if_pos (by simp [h])

/-- The new cycle that a pending mark asks for, on a list with a set entry. -/
theorem endCycle_of_marked_next {i : Nat} (h : s.poller.pendingMark = true) (hi : s.nextEntry 0 = some i) :
    endCycle s = { finishCycle s with poller := { (finishCycle s).poller with
      phase := .toPoll, inFlight := some i, pendingMark := false } } := by
  have hnext : (finishCycle s).nextEntry 0 = some i := (nextEntry_finishCycle 0).trans hi
  rw [endCycle_of_marked h]
  exact startCycle_of_next hnext

theorem startCycle_pendingMark (s : State) : (startCycle s).poller.pendingMark = s.poller.pendingMark := by
  unfold startCycle
  split
  · rfl
  · split <;> simp

theorem endCycle_pendingMark (s : State) : (endCycle s).poller.pendingMark = false := by
  cases h : s.poller.pendingMark with
  | true => rw [endCycle_of_marked h, startCycle_pendingMark]
  | false => simp [endCycle_of_unmarked h, h]

/-- But for the poller, a cycle's end leaves what the consumers of the end-of-cycle event leave, unless
the next cycle has no entry to poll. -/
theorem endCycle_eq_finishCycle (h : s.poller.pendingMark = true → ∃ i, s.nextEntry 0 = some i) :
    ∃ p, endCycle s = { finishCycle s with poller := p } := by
  cases hm : s.poller.pendingMark with
  | true =>
    obtain ⟨i, hi⟩ := h hm
    exact ⟨_, endCycle_of_marked_next hm hi⟩
  | false => exact ⟨_, endCycle_of_unmarked hm⟩

theorem exec_lateWindowEnd {i : Nat} (hp : s.poller.phase = .lateWindow) (hi : s.poller.inFlight = some i) :
    exec .lateWindowEnd s = .next (moveOn i s) := by
  have hexec : exec .lateWindowEnd s = execLateWindowEnd s := rfl
  rw [hexec]
  simp only [execLateWindowEnd, hp, hi]

/-! ### What the end-of-cycle event leaves -/

/-- The poller's own part of a cycle's end (R89, step 1). -/
def State.polledOut (s : State) : State :=
  { s with poller := { s.poller with phase := .idle, inFlight := none, timer := none } }

theorem finishCycle_eq (s : State) : finishCycle s = profileCycleEnd (windCycleEnd s.polledOut) := rfl

theorem finishCycle_frame_wind (s : State) : (finishCycle s).wind = s.windAfter ∧
    (finishCycle s).trace = (windCycleEnd s.polledOut).trace ∧
    (finishCycle s).latched = (windCycleEnd s.polledOut).latched ∧
    (finishCycle s).holds = (windCycleEnd s.polledOut).holds := by
  refine ⟨?_, ?_, ?_, ?_⟩ <;> rw [finishCycle_eq]
  · simp only [profileCycleEnd_frame]
    exact windCycleEnd_wind s.polledOut
  all_goals simp

/-- A cycle's end at level HOLD ends the run, if one is RUNNING (R105, R126, R147). -/
theorem finishCycle_run_of_hold (h : HoldLaw s) (hl : s.windAfter.level = .hold) :
    (s.run.running = false → (finishCycle s).run = s.run) ∧
    (s.run.running = true → s.hasStop = false → (finishCycle s).run.running = false ∧
      (finishCycle s).run.lastEnd = some .held ∧ (finishCycle s).req.armed = false) := by
  obtain ⟨hidle, hheld⟩ := windCycleEnd_run_of_hold (s := s.polledOut) h hl
  rw [finishCycle_eq]
  refine ⟨fun hr => ?_, fun hr hs => ?_⟩
  · rw [profileCycleEnd_unmet (.inl ((congrArg RunRecord.running (hidle hr)).trans hr))]
    exact hidle hr
  · rw [profileCycleEnd_unmet (.inl (hheld hr hs).1)]
    exact hheld hr hs

theorem polledOut_sameRun (h : HoldLaw s) (hl : s.windAfter.level ≠ .hold) :
    SameRun s (windCycleEnd s.polledOut) :=
  have hpoll : SameRun s s.polledOut := ⟨rfl, rfl, rfl, rfl, rfl, rfl, rfl, fun _ => rfl⟩
  hpoll.trans (windCycleEnd_sameRun (s := s.polledOut) h hl)

/-- Below HOLD a cycle's end is nothing to the run, unless it meets a WIND_BELOW step. -/
theorem finishCycle_run_of_unmet (h : HoldLaw s) (hl : s.windAfter.level ≠ .hold)
    (hu : s.run.running = false ∨ s.currentStep.kind ≠ .windBelow ∨
      s.currentStep.param < s.windAfter.level.code) : SameRun s (finishCycle s) := by
  have hsame := polledOut_sameRun h hl
  rw [finishCycle_eq, profileCycleEnd_unmet]
  · exact hsame
  · rw [hsame.run, hsame.currentStep, windCycleEnd_wind]
    exact hu

/-- A WIND_BELOW step met at a cycle's end leads on as every step met does (R147, R148). -/
theorem finishCycle_run_of_met (h : HoldLaw s) (hl : s.windAfter.level ≠ .hold)
    (hr : s.run.running = true) (hk : s.currentStep.kind = .windBelow)
    (hm : s.windAfter.level.code ≤ s.currentStep.param) : SameRun (stepMet s) (finishCycle s) := by
  have hsame := polledOut_sameRun h hl
  rw [finishCycle_eq, profileCycleEnd_met]
  · exact hsame.stepMet
  · rw [hsame.run, hr]
  · rw [hsame.currentStep, hk]
  · rw [hsame.currentStep, windCycleEnd_wind]
    exact hm

/-- Settles O36: the next entry of the walk, or the end of the cycle, whose consumers are taken in
their order (holds, trace, profile unit). -/
theorem lateWindowEndMovesOn : Obligations.LateWindowEndMovesOn := by
  intro s i hphase hflight
  have hexec := exec_lateWindowEnd hphase hflight
  have ends (h : ∀ j, i < j → j < s.walked.length → (s.pollEntry j).kind = .unset) :
      exec .lateWindowEnd s = .next (endCycle s) := by
    rw [hexec, moveOn_of_none (nextEntry_eq_none fun l hl => h l hl)]
  refine ⟨fun j hij hj hset hpassed => ?_, fun h => ?_, fun h hholds hruns hnext => ?_⟩
  · rw [hexec, moveOn_of_next (nextEntry_eq_some hij hj hset fun l hl => hpassed l hl)]
  · refine ⟨_, ends h, by simp, by simp, endCycle_pendingMark s, fun hm => ?_,
      fun hm j hj hset hpassed => ?_⟩
    · simp [endCycle_of_unmarked hm]
    · rw [endCycle_of_marked_next hm (nextEntry_eq_some (Nat.zero_le j) hj hset fun l _ => hpassed l)]
      exact ⟨rfl, rfl⟩
  · obtain ⟨hlaw, -⟩ := holdInv_iff.mp hholds
    obtain ⟨-, hservice, -⟩ := hruns
    obtain ⟨p, hp⟩ := endCycle_eq_finishCycle (s := s) fun hm =>
      have ⟨_, hj, hset⟩ := hnext hm
      exists_nextEntry hj hset
    obtain ⟨hwind, htrace, hlatched, hlist⟩ := finishCycle_frame_wind s
    have hentry (src : HoldSource) : (finishCycle s).entry src = (windCycleEnd s.polledOut).entry src :=
      entry_congr hlist
    have hsampled (hc : s.counting ≠ []) : (finishCycle s).trace =
        s.trace.cycleEnd s.govGustNow s.wind.level s.windAfter.level :=
      htrace.trans (windCycleEnd_trace_of_counting (s := s.polledOut) hc)
    have hlevel : (finishCycle s).wind.level = .hold ↔ s.windAfter.level = .hold := by rw [hwind]
    intro counting time
    refine ⟨{ finishCycle s with poller := p }, s.govMeanNow, s.govGustNow,
      (ends h).trans (congrArg _ hp), by simp, by simp, by simp, by simp,
      fun hc => hwind.trans (windAfter_of_none hc), fun hc => ?_, ?_,
      (hentry .masts).trans (windCycleEnd_entry_masts (s := s.polledOut) hlaw),
      fun src hw hm => (hentry src).trans (windCycleEnd_entry_other (s := s.polledOut) hw hm), ?_,
      fun hc hg => ?_, fun hc hg => ?_, fun hc => .inl ?_, fun hc hroom => ?_, fun hr hl => ?_,
      fun hr => ?_, fun hl hu => ?_, fun hr hl hk hm => ?_⟩
    · exact ⟨foldl_max_greatest (List.map_eq_nil_iff.not.mpr hc),
        foldl_max_greatest (List.map_eq_nil_iff.not.mpr hc), hwind.trans (windAfter_of_counting hc)⟩
    · refine (hentry .wind).trans ?_
      simp only [hwind]
      exact windCycleEnd_entry_wind (s := s.polledOut) hlaw
    · have hsources := windCycleEnd_sources (s := s.polledOut) hlaw
      simp only [← hentry] at hsources
      exact (congrArg (List.map HoldEntry.source) hlist).trans hsources
    · obtain ⟨hgap, -⟩ := windCycleEnd_trace_of_none (s := s.polledOut) hc
      exact htrace.trans (hgap.trans (WindTrace.gapEnd_marked hg))
    · obtain ⟨hgap, hwraps⟩ := windCycleEnd_trace_of_none (s := s.polledOut) hc
      obtain ⟨hlast, hmark, hnewest, hroom, hfull⟩ := WindTrace.gapEnd_spec (x := s.trace) hg
      have hgap : (finishCycle s).trace = s.trace.gapEnd := htrace.trans hgap
      simp only [hgap, hlatched]
      exact ⟨hlast, hmark, hnewest, hroom, fun hl => ⟨hfull hl, hwraps hg hl⟩⟩
    · rw [hsampled hc]
      exact WindTrace.cycleEnd_last ..
    · rw [← hwind] at hsampled
      simp only [hsampled hc]
      exact WindTrace.cycleEnd_spec hroom ..
    · exact (finishCycle_run_of_hold hlaw (hlevel.mp hl)).2 hr (hservice hr).2
    · by_cases hl : s.windAfter.level = .hold
      · exact (finishCycle_run_of_hold hlaw hl).1 hr
      · exact (finishCycle_run_of_unmet hlaw hl (.inl hr)).run
    · have hsame := finishCycle_run_of_unmet hlaw (mt hlevel.mpr hl) (by rwa [← hwind])
      exact ⟨hsame.run, hsame.req, hsame.consoleQueue⟩
    · have hsame := finishCycle_run_of_met hlaw (mt hlevel.mpr hl) hr hk (by rwa [← hwind])
      refine ⟨hsame.run, hsame.req, hsame.consoleQueue, hsame.waitTag, fun hlast hrep => ?_,
        fun n repeats x hstep hx he hcabin => ?_⟩
      · simp only [hsame.run, hsame.req, stepMet_of_last hlast hrep, endRun_eq]
        exact ⟨trivial, trivial, trivial⟩
      · exact hsame.run.trans (stepMet_begins (nextStep_eq_some hstep) hx he hcabin)

end Sys2Proof.Machine

/-! ## The wind trace through every step, and taken (R106, R109, R110) -/

namespace Sys2Proof.Machine

set_option Elab.async false

variable {s t : State}

/-! ### Every step -/

theorem work_keeps_trace_wind {line due mid : Bool} (w : Work line s due mid t)
    (h : TraceInv s ∧ WindInv s) : TraceInv t ∧ WindInv t :=
  w.keeps (P := fun u => TraceInv u ∧ WindInv u)
    (fun h a => ⟨a.keeps_trace h.1 h.2, a.keeps_wind h.2⟩)
    (fun h a => ⟨a.keeps_trace h.1, a.keeps_wind h.2⟩) h

theorem traceInv_of_initial (h : t.trace = WindTrace.initial) : TraceInv t := by
  rw [traceInv_iff, h]
  exact ⟨by decide, rfl, nofun, nofun⟩

/-- Settles O10, by what each change of an event keeps of the trace; a reset empties it. -/
theorem traceReplaysAlways : Obligations.TraceReplaysAlways := by
  intro s t htrace hwind hstep
  rcases step_work hstep with w | ⟨u, -, rfl | ⟨-, rfl⟩⟩
  · exact (work_keeps_trace_wind w ⟨htrace, hwind⟩).1
  · exact traceInv_of_initial rfl
  · exact traceInv_of_initial rfl

/-! ### The trace that a take leaves (R109, R110) -/

theorem convertOldest_of_no_value {b : Option Nat} {es : List TraceEntry}
    (h : es.any TraceEntry.bearsValue = false) : convertOldest b es = es := by
  induction es with
  | nil => rfl
  | cons e es ih =>
    cases e with
    | full | delta => cases h
    | level | gap => exact congrArg _ (ih h)

namespace WindTrace

variable {x : WindTrace}

theorem repaired_dropMany_frame (x : WindTrace) (k : Nat) :
    (x.dropMany k).repaired.entries.length = (x.entries.drop k).length ∧
    (x.dropMany k).repaired.gapMark = x.gapMark := by
  obtain ⟨-, hgap, hdrop⟩ := dropMany_frame k x
  exact ⟨by rw [repaired, convertOldest_length, hdrop], hgap⟩

/-- While a value-bearing entry is left, the trace replays to the value it replayed to before. -/
theorem repaired_dropMany_of_value (hr : replays none x.entries = true) {k : Nat}
    (h : (x.entries.drop k).any TraceEntry.bearsValue = true) :
    replay none (x.dropMany k).repaired.entries = replay none x.entries ∧
    (x.dropMany k).repaired.last = x.last := by
  obtain ⟨w, hb, hrw, hw⟩ := dropMany_spec (n := k) (x := x) (v := none) (fun _ hy => nomatch hy) hr
  obtain ⟨hlast, -, hdrop⟩ := dropMany_frame k x
  obtain ⟨-, hreplay⟩ := convertOldest_spec hb hrw
  rw [← hdrop] at h
  rw [if_pos h, hw] at hreplay
  exact ⟨hreplay, (if_pos h).trans hlast⟩

/-- With no value-bearing entry left there is nothing to convert, and the last value is UNKNOWN. -/
theorem repaired_dropMany_of_no_value {k : Nat}
    (h : (x.entries.drop k).any TraceEntry.bearsValue = false) :
    (x.dropMany k).repaired.entries = x.entries.drop k ∧ (x.dropMany k).repaired.last = none := by
  obtain ⟨-, -, hdrop⟩ := dropMany_frame k x
  rw [← hdrop] at h ⊢
  exact ⟨convertOldest_of_no_value h, if_neg (by simp [h])⟩

end WindTrace

/-! ### The entries as TRACE TAKE returns them (9.5) -/

/-- A DELTA of a trace that replays has at most 3 deltas (R106). -/
theorem delta_length_le {v : Option Int} {es : List TraceEntry} (h : replays v es = true)
    {ds : List Int} (hds : .delta ds ∈ es) : ds.length ≤ 3 := by
  obtain ⟨front, back, rfl⟩ := List.append_of_mem hds
  rw [replays_append, Bool.and_eq_true] at h
  obtain ⟨-, hback⟩ := h
  simp only [replays, Bool.and_eq_true, decide_eq_true_eq] at hback
  obtain ⟨⟨⟨⟨-, hlen⟩, -⟩, -⟩, -⟩ := hback
  exact hlen

theorem traceBytes_length {v : Option Int} {es : List TraceEntry} (h : replays v es = true)
    {e : TraceEntry} (he : e ∈ es) : (traceBytes e).length = 4 := by
  cases e with
  | full | level | gap => rfl
  | delta ds =>
    have hlen := delta_length_le h he
    simp only [traceBytes, List.length_cons, List.length_append, List.length_map,
      List.length_replicate]
    omega

theorem flatMap_traceBytes_length {v : Option Int} {es : List TraceEntry} (h : replays v es = true)
    (k : Nat) : ((es.take k).flatMap traceBytes).length = 4 * min k es.length := by
  have hlen : (es.take k).map (fun e => (traceBytes e).length) =
      List.replicate (min k es.length) 4 := by
    rw [List.map_congr_left fun e he => traceBytes_length h (List.mem_of_mem_take he),
      List.map_const', List.length_take]
  rw [List.length_flatMap, hlen, List.sum_replicate, smul_eq_mul, Nat.mul_comm]

/-- A TRACE TAKE of `n` entries from a trace that holds some (R110). -/
theorem serveTraceTake_of_taken {n : Byte} (h1 : 1 ≤ n.toNat) (h16 : n.toNat ≤ 16)
    (h : s.trace.entries ≠ []) :
    let k := min n.toNat s.trace.entries.length
    let x := (s.trace.dropMany k).repaired
    serveTraceTake n s = served (be2 x.entries.length ++ [byte k] ++
      (s.trace.entries.take k).flatMap traceBytes) { s with trace := x } := by
  have hrange : ¬ (n.toNat = 0 ∨ 16 < n.toNat) := by omega
  unfold serveTraceTake
  rw [if_neg hrange, if_neg (by simpa using h)]

/-- Settles O60: the take is refused, or its entries leave from the front and the rest is repaired. -/
theorem traceTakeShortens : Obligations.TraceTakeShortens := by
  intro s tag n hs htrace
  have ⟨_, hreplays, _⟩ := htrace
  have hexec : exec (.traceTake tag n) s = .next (placeReply 0x29 tag (serveTraceTake n s)) :=
    arrive_of_ready hs .traceTake tag [n]
  refine ⟨fun h => ?_, fun h1 h16 h => ?_, fun h1 h16 h => ?_⟩
  · have hserve : serveTraceTake n s = refusedWith .range s := if_pos h
    rw [hexec, hserve, placeReply_refused]
    rfl
  · have hserve : serveTraceTake n s = refusedWith .none s := by
      have hrange : ¬ (n.toNat = 0 ∨ 16 < n.toNat) := by omega
      unfold serveTraceTake
      rw [if_neg hrange, if_pos (by simp [h])]
    rw [hexec, hserve, placeReply_refused]
    rfl
  · intro k left entry data hasValue
    obtain ⟨hlength, hgap⟩ := WindTrace.repaired_dropMany_frame s.trace k
    obtain ⟨-, htaken, -⟩ := WindTrace.repaired_dropMany_law htrace k
    have hentry : traceBytes = entry := by
      funext e
      cases e with
      | full | gap | delta => rfl
      | level l => cases l <;> rfl
    have hdata : data.length = 3 + 4 * k := by
      have hbytes := flatMap_traceBytes_length hreplays k
      rw [hentry, Nat.min_eq_left (Nat.min_le_right ..)] at hbytes
      simp only [data, List.length_append, be2_length, List.length_singleton, hbytes, k]
    have hk : k ≤ 16 := (Nat.min_le_left ..).trans h16
    obtain ⟨hparts, -⟩ := replyParts_spec 0x29 tag .ok (data := data) (by omega)
    have hserve : serveTraceTake n s =
        served data { s with trace := (s.trace.dropMany k).repaired } := by
      rw [serveTraceTake_of_taken h1 h16 h, hlength, hentry]
    refine ⟨State.queued { s with trace := (s.trace.dropMany k).repaired }
        (replyParts 0x29 tag .ok data), _, ?_, rfl, rfl, ?_, hlength, hgap, htaken,
      WindTrace.repaired_dropMany_of_value hreplays, WindTrace.repaired_dropMany_of_no_value⟩
    · rw [hexec, hserve]
      rfl
    · rw [hparts]
      split <;> omega

end Sys2Proof.Machine

/-! ## A mast's sample (R94, R96 to R98) -/

namespace Sys2Proof.Machine

set_option Elab.async false

/-- A gap divided by a power of two, with halves rounded upward, is no larger than the gap, on the same
side of 0 (R97). -/
theorem roundedShift_between (d : Int) {k : Nat} (hk : 1 ≤ k) :
    min 0 d ≤ (d + 2 ^ (k - 1)) / 2 ^ k ∧ (d + 2 ^ (k - 1)) / 2 ^ k ≤ max 0 d := by
  have hhalf : (0 : Int) < 2 ^ (k - 1) := by positivity
  have hpow : (2 : Int) ^ k = 2 * 2 ^ (k - 1) := by rw [← pow_succ', Nat.sub_add_cancel hk]
  generalize (2 : Int) ^ (k - 1) = half at hhalf hpow
  rw [hpow]
  refine ⟨(Int.le_ediv_iff_mul_le (by omega)).mpr ?_,
    Int.le_of_lt_add_one (Int.ediv_lt_of_lt_mul (by omega) ?_)⟩
  all_goals rcases le_total 0 d with hd | hd
  · rw [min_eq_left hd]; omega
  · rw [min_eq_right hd]; nlinarith
  · rw [max_eq_right hd]; nlinarith
  · rw [max_eq_left hd]; omega

namespace Mast

variable {m : Mast}

theorem accAfter_of_unseeded (h : m.seeded = false) (k x : Nat) : m.accAfter k x = 16 * x :=
  if_neg (by simp [h])

/-- A seeded accumulator moves by the rounded gap, no further than to 16 times the sample (R97). -/
theorem accAfter_of_seeded (h : m.seeded = true) {k : Nat} (hk : 1 ≤ k) (x : Nat) :
    (m.accAfter k x : Int) = m.acc + (16 * (x : Int) - m.acc + 2 ^ (k - 1)) / 2 ^ k ∧
    min m.acc (16 * x) ≤ m.accAfter k x ∧ m.accAfter k x ≤ max m.acc (16 * x) := by
  obtain ⟨hlo, hhi⟩ := roundedShift_between (16 * (x : Int) - m.acc) hk
  have hacc : m.accAfter k x =
      ((m.acc : Int) + (16 * (x : Int) - m.acc + 2 ^ (k - 1)) / 2 ^ k).toNat := if_pos h
  rw [hacc]
  generalize (16 * (x : Int) - m.acc + 2 ^ (k - 1)) / 2 ^ k = step at hlo hhi
  omega

/-- What the answer of a FRESH mast writes beside the raw value and the direction (R94, R96 to R98). -/
theorem sampled_of_fresh (h : m.freshness = .fresh) (t : WindTable) (a : MastAnswer) :
    let x := m.corrected (min 700 (m.normalised a.raw))
    (m.sampled t a).seeded = true ∧ (m.sampled t a).acc = m.accAfter t.meanShift x ∧
    (m.sampled t a).window = (x :: m.window).take t.gustLength := by
  unfold sampled
  simp only [if_pos h]
  exact ⟨trivial, trivial, rfl⟩

theorem le_gust {y : Nat} (h : y ∈ m.window) : y ≤ m.gust := by
  obtain ⟨-, hle⟩ := foldl_max_spec m.window 0
  exact hle y (List.mem_cons_of_mem _ h)

end Mast

/-- Settles O40, field by field: the accumulator by its rounded step, the gust by its window. -/
theorem mastSampleTaken : Obligations.MastSampleTaken := by
  intro m t a hfresh hk x d
  obtain ⟨hseeded, hacc, hwindow⟩ := Mast.sampled_of_fresh hfresh t a
  refine ⟨hseeded, fun h => ?_, fun h => ?_, hwindow, fun hg => Mast.le_gust ?_,
    fun y hy => Mast.le_gust hy⟩
  · rw [hacc]
    exact Mast.accAfter_of_unseeded h ..
  · rw [hacc]
    exact Mast.accAfter_of_seeded h hk x
  · obtain ⟨g, hg⟩ := Nat.exists_eq_succ_of_ne_zero (Nat.one_le_iff_ne_zero.mp hg)
    rw [hwindow, hg]
    exact List.mem_cons_self

end Sys2Proof.Machine

/-! ## Level persistence runs (R102 to R104) -/

namespace Sys2Proof.Machine

set_option Elab.async false

/-- The level record with the governing values of a cycle, its mean and its gust (R100). -/
def WindRecord.governed (w : WindRecord) (g : Nat × Nat) : WindRecord :=
  { w with govMean := g.1, govGust := g.2 }

/-- The level record after a cycle end with these governing values (R102). -/
def WindRecord.afterCycle (t : WindTable) (w : WindRecord) (g : Nat × Nat) : WindRecord :=
  (w.governed g).stepLevel t

/-- The run minimum that a rising cycle takes (R103). -/
def WindRecord.minWith (w : WindRecord) (target : WindLevel) : WindLevel :=
  if w.up = 0 then target
  else match w.runMin with
    | none => target
    | some l => l.lower target

variable {t : WindTable} {w : WindRecord} {g : Nat × Nat} {target : WindLevel}

theorem WindLevel.lower_spec (a b : WindLevel) : (a.lower b = a ∨ a.lower b = b) ∧
    (a.lower b).code ≤ a.code ∧ (a.lower b).code ≤ b.code := by
  unfold lower
  split
  · next h => exact ⟨.inl rfl, le_rfl, h⟩
  · next h => exact ⟨.inr rfl, (Nat.lt_of_not_le h).le, le_rfl⟩

theorem WindLevel.below_code {l : WindLevel} (h : l ≠ .calm) : l.below.code + 1 = l.code := by
  cases l with
  | calm => exact absurd rfl h
  | watch | restrict | hold => rfl

/-! ### One cycle -/

namespace WindRecord

theorem rise_of_reached (h : t.entryPersistence ≤ w.up + 1) : w.rise t target =
    { w with level := w.minWith target, up := 0, runMin := none, down := 0 } := if_pos h

theorem rise_of_short (h : w.up + 1 < t.entryPersistence) : w.rise t target =
    { w with up := w.up + 1, runMin := some (w.minWith target), down := 0 } :=
  if_neg (Nat.not_le.mpr h)

theorem minWith_of_start (h : w.up = 0) : w.minWith target = target := if_pos h

theorem minWith_of_run (h : w.up ≠ 0) {l : WindLevel} (hl : w.runMin = some l) :
    w.minWith target = l.lower target := by
  rw [minWith, if_neg h, hl]

theorem settle_of_reached (hl : w.level ≠ .calm)
    (hc : clearOf t w.govMean w.govGust w.level = true) (h : t.exitPersistence ≤ w.down + 1) :
    w.settle t = { w with up := 0, runMin := none, down := 0, level := w.level.below } := by
  rw [settle, if_neg hl, if_pos hc, if_pos h]

theorem settle_of_short (hl : w.level ≠ .calm)
    (hc : clearOf t w.govMean w.govGust w.level = true) (h : w.down + 1 < t.exitPersistence) :
    w.settle t = { w with up := 0, runMin := none, down := w.down + 1 } := by
  rw [settle, if_neg hl, if_pos hc, if_neg (Nat.not_le.mpr h)]

theorem afterCycle_of_above (h : w.level.code < (windTarget t g.1 g.2).code) :
    WindRecord.afterCycle t w g = (w.governed g).rise t (windTarget t g.1 g.2) := if_pos h

theorem afterCycle_of_not_above (h : (windTarget t g.1 g.2).code ≤ w.level.code) :
    WindRecord.afterCycle t w g = (w.governed g).settle t := if_neg (Nat.not_lt.mpr h)

end WindRecord

/-! ### A run upward (R103) -/

/-- A level is the least target of some cycles. -/
def LeastTarget (t : WindTable) (gs : List (Nat × Nat)) (l : WindLevel) : Prop :=
  (∃ g ∈ gs, l = windTarget t g.1 g.2) ∧ ∀ g ∈ gs, l.code ≤ (windTarget t g.1 g.2).code

theorem LeastTarget.concat {gs : List (Nat × Nat)} {l : WindLevel} (h : LeastTarget t gs l)
    (g : Nat × Nat) : LeastTarget t (gs ++ [g]) (l.lower (windTarget t g.1 g.2)) := by
  obtain ⟨⟨x, hx, hlx⟩, hle⟩ := h
  obtain ⟨hor, hl, hg⟩ := l.lower_spec (windTarget t g.1 g.2)
  refine ⟨hor.elim (fun h => ⟨x, by simp [hx], h.trans hlx⟩) fun h => ⟨g, by simp, h⟩,
    fun y hy => ?_⟩
  rcases List.mem_append.mp hy with hy | hy
  · exact hl.trans (hle y hy)
  · rw [List.mem_singleton.mp hy]
    exact hg

/-- The record inside a run upward of these cycles, which began at level `old`: the level still stands,
the up-counter counts the cycles, and the run minimum is the least of their targets. -/
structure RisingRun (t : WindTable) (old : WindLevel) (gs : List (Nat × Nat)) (w : WindRecord) :
    Prop where
  level : w.level = old
  up : w.up = gs.length
  least : gs ≠ [] → ∃ l, w.runMin = some l ∧ LeastTarget t gs l

namespace RisingRun

variable {old : WindLevel} {gs : List (Nat × Nat)}

theorem minWith_least (h : RisingRun t old gs w) (g : Nat × Nat) :
    LeastTarget t (gs ++ [g]) ((w.governed g).minWith (windTarget t g.1 g.2)) := by
  have hup : (w.governed g).up = gs.length := h.up
  by_cases hgs : gs = []
  · rw [WindRecord.minWith_of_start (by rw [hup, hgs]; rfl), hgs]
    exact ⟨⟨g, List.mem_singleton_self g, rfl⟩, fun x hx => List.mem_singleton.mp hx ▸ le_rfl⟩
  · obtain ⟨l, hl, hleast⟩ := h.least hgs
    have hne : (w.governed g).up ≠ 0 := by rwa [hup, Ne, List.length_eq_zero_iff]
    rw [WindRecord.minWith_of_run hne hl]
    exact hleast.concat g

/-- A rising cycle that does not meet the entry persistence is one more of the run. -/
theorem afterCycle (h : RisingRun t old gs w) (ha : old.code < (windTarget t g.1 g.2).code)
    (hp : gs.length + 1 < t.entryPersistence) :
    RisingRun t old (gs ++ [g]) (WindRecord.afterCycle t w g) := by
  have hup : (w.governed g).up = gs.length := h.up
  rw [WindRecord.afterCycle_of_above (h.level ▸ ha), WindRecord.rise_of_short (hup ▸ hp)]
  exact ⟨h.level, by simp [hup], fun _ => ⟨_, rfl, h.minWith_least g⟩⟩

/-- The cycle that meets the entry persistence raises the level to the least target of the run. -/
theorem completed (h : RisingRun t old gs w) (ha : old.code < (windTarget t g.1 g.2).code)
    (hp : gs.length + 1 = t.entryPersistence) :
    let after := WindRecord.afterCycle t w g
    LeastTarget t (gs ++ [g]) after.level ∧ after.up = 0 ∧ after.runMin = none ∧ after.down = 0 := by
  have hup : (w.governed g).up = gs.length := h.up
  intro after
  unfold after
  rw [WindRecord.afterCycle_of_above (h.level ▸ ha), WindRecord.rise_of_reached (by omega)]
  exact ⟨h.minWith_least g, rfl, rfl, rfl⟩

end RisingRun

/-- Cycles that all call for a higher level, fewer than the entry persistence, are a run upward. -/
theorem risingRun_of_short (hup : w.up = 0) {gs : List (Nat × Nat)}
    (ha : ∀ g ∈ gs, w.level.code < (windTarget t g.1 g.2).code)
    (hp : gs.length < t.entryPersistence) :
    RisingRun t w.level gs (gs.foldl (WindRecord.afterCycle t) w) := by
  induction gs using List.reverseRecOn with
  | nil => exact ⟨rfl, hup, fun h => absurd rfl h⟩
  | append_singleton gs g ih =>
    simp only [List.mem_append, List.mem_singleton, or_imp, forall_and, forall_eq] at ha
    obtain ⟨hgs, hg⟩ := ha
    rw [List.length_append, List.length_singleton] at hp
    rw [List.foldl_append]
    exact (ih hgs (by omega)).afterCycle hg hp

/-- Settles O41, by induction on the cycles of the run from its last one. -/
theorem levelRisesToLeastTarget : Obligations.LevelRisesToLeastTarget := by
  intro t w gusts hup hne ha after
  refine ⟨fun hp => ?_, fun hp => ?_⟩
  · obtain ⟨hlevel, hcount, -⟩ := risingRun_of_short hup ha hp
    exact ⟨hlevel, hcount⟩
  · obtain rfl | ⟨gs, g, rfl⟩ := List.eq_nil_or_concat' gusts
    · exact absurd rfl hne
    · rw [List.length_append, List.length_singleton] at hp
      have hrun := risingRun_of_short hup (fun x hx => ha x (List.mem_append_left _ hx))
        (Nat.lt_of_succ_le hp.le)
      have hafter : after = WindRecord.afterCycle t (gs.foldl (WindRecord.afterCycle t) w) g :=
        List.foldl_append
      obtain ⟨⟨hmem, hle⟩, hrest⟩ := hrun.completed (ha g (by simp)) hp
      rw [hafter]
      exact ⟨hmem, hle, hrest⟩

/-! ### A run of clear cycles (R104) -/

/-- A cycle that calls for no higher level than this one and is CLEAR of it (R104). -/
def ClearCycle (t : WindTable) (l : WindLevel) (g : Nat × Nat) : Prop :=
  (windTarget t g.1 g.2).code ≤ l.code ∧ clearOf t g.1 g.2 l = true

/-- The record inside a run of `n` clear cycles, which began at level `old`. -/
structure ClearRun (old : WindLevel) (n : Nat) (w : WindRecord) : Prop where
  level : w.level = old
  down : w.down = n
  idle : n ≠ 0 → w.up = 0 ∧ w.runMin = none

namespace ClearRun

variable {old : WindLevel} {n : Nat}

/-- A clear cycle that does not meet the exit persistence is one more of the run. -/
theorem afterCycle (h : ClearRun old n w) (hl : old ≠ .calm) (hc : ClearCycle t old g)
    (hp : n + 1 < t.exitPersistence) : ClearRun old (n + 1) (WindRecord.afterCycle t w g) := by
  obtain ⟨rfl, rfl, -⟩ := h
  obtain ⟨hle, hclear⟩ := hc
  rw [WindRecord.afterCycle_of_not_above hle,
    WindRecord.settle_of_short (w := w.governed g) hl hclear hp]
  exact ⟨rfl, rfl, fun _ => ⟨rfl, rfl⟩⟩

/-- The cycle that meets the exit persistence drops the level by one step. -/
theorem completed (h : ClearRun old n w) (hl : old ≠ .calm) (hc : ClearCycle t old g)
    (hp : n + 1 = t.exitPersistence) :
    let after := WindRecord.afterCycle t w g
    after.level.code + 1 = old.code ∧ after.down = 0 ∧ after.up = 0 ∧ after.runMin = none := by
  obtain ⟨rfl, rfl, -⟩ := h
  obtain ⟨hle, hclear⟩ := hc
  intro after
  unfold after
  rw [WindRecord.afterCycle_of_not_above hle,
    WindRecord.settle_of_reached (w := w.governed g) hl hclear hp.ge]
  exact ⟨WindLevel.below_code hl, rfl, rfl, rfl⟩

end ClearRun

/-- Clear cycles, fewer than the exit persistence, only count. -/
theorem clearRun_of_short (hd : w.down = 0) (hl : w.level ≠ .calm) {gs : List (Nat × Nat)}
    (hc : ∀ g ∈ gs, ClearCycle t w.level g) (hp : gs.length < t.exitPersistence) :
    ClearRun w.level gs.length (gs.foldl (WindRecord.afterCycle t) w) := by
  induction gs using List.reverseRecOn with
  | nil => exact ⟨rfl, hd, fun h => absurd rfl h⟩
  | append_singleton gs g ih =>
    simp only [List.mem_append, List.mem_singleton, or_imp, forall_and, forall_eq] at hc
    obtain ⟨hgs, hg⟩ := hc
    rw [List.length_append, List.length_singleton] at hp ⊢
    rw [List.foldl_append]
    exact (ih hgs (by omega)).afterCycle hl hg hp

/-- Settles O42, by induction on the cycles of the run from its last one. -/
theorem levelDropsOneStep : Obligations.LevelDropsOneStep := by
  intro t w cycles hd hl hne hc after
  refine ⟨fun hp => ?_, fun hp => ?_⟩
  · obtain ⟨hlevel, hcount, hidle⟩ := clearRun_of_short hd hl hc hp
    exact ⟨hlevel, hcount, hidle fun h => hne (List.length_eq_zero_iff.mp h)⟩
  · obtain rfl | ⟨gs, g, rfl⟩ := List.eq_nil_or_concat' cycles
    · exact absurd rfl hne
    · rw [List.length_append, List.length_singleton] at hp
      have hrun := clearRun_of_short (t := t) hd hl
        (fun x hx => hc x (List.mem_append_left _ hx)) (Nat.lt_of_succ_le hp.le)
      have hafter : after = WindRecord.afterCycle t (gs.foldl (WindRecord.afterCycle t) w) g :=
        List.foldl_append
      rw [hafter]
      exact hrun.completed hl (hc g (by simp)) hp

end Sys2Proof.Machine

/-! ## RESTART and its effect (R166, R167) -/

namespace Sys2Proof.Machine

set_option Elab.async false

variable {s : State}

/-! ### The request -/

theorem serveRestart_of_service (h : s.modeRec.mode = .service) :
    serveRestart s = refusedWith .mode s := if_pos h

theorem serveRestart_of_setup (h : s.modeRec.mode = .setup) :
    serveRestart s = served [] { s with modeRec := { s.modeRec with restartPending := true } } :=
  if_neg (by simp [h])

/-! ### The effect -/

theorem exec_restartTakesEffect (s : State) :
    exec .restartTakesEffect s = .next (if s.modeRec.restartPending then restart s else s) := rfl

/-- The counts and the states of the cabins are kept, and so are their sums (R48, R50). -/
theorem restart_totals (s : State) : (restart s).riderTotal = s.riderTotal ∧
    (restart s).unverifiedTotal = s.unverifiedTotal := by
  constructor
  · rw [State.riderTotal, restart_cabins, List.map_map]
    rfl
  · rw [State.unverifiedTotal, restart_cabins, List.filter_map, List.map_map]
    rfl

/-- The hold list holds the two entries of a reset, whatever the tests give (R136). -/
theorem restart_holds (s : State) : (restart s).holds = resetHolds s.ms := rfl

/-- Off the platform only a kept unlocked-exit mark keeps the DOOR cause present (R74). -/
theorem doorCausePresent_of_off {c : Cabin} (h : c.state ≠ .alighting ∧ c.state ≠ .boarding)
    (alight board : Freshness) : doorCausePresent alight board c = c.unlockedExit := by
  obtain ⟨ha, hb⟩ := h
  unfold doorCausePresent
  split
  · next h => exact absurd h ha
  · next h => exact absurd h hb
  · exact Bool.or_false _

/-- With no cabin on the platform the tests after a restart find the kept unlocked-exit marks, and no
other cause present (R74, R136). -/
theorem restart_causes (h : ∀ c ∈ s.cabins, c.state ≠ .alighting ∧ c.state ≠ .boarding) :
    (restart s).causes = ⟨s.cabins.any fun c => c.unlockedExit, false, false⟩ := by
  have hdoor : (restart s).causes.door = s.cabins.any fun c => c.unlockedExit := by
    have hany : (restart s).causes.door =
        (s.cabins.map Cabin.restarted).any (doorCausePresent .unknown .unknown) := rfl
    rw [hany, List.any_map]
    rw [Bool.eq_iff_iff, List.any_eq_true, List.any_eq_true]
    refine exists_congr fun c => and_congr_right fun hc => ?_
    rw [Function.comp_apply, doorCausePresent_of_off (c := c.restarted) (h c hc)]
    rfl
  have hcauses : (restart s).causes = ⟨(restart s).causes.door, false, false⟩ := rfl
  rw [hcauses, hdoor]

/-- Settles O50: the request only marks the restart as pending, and its effect is written out record by
record. -/
theorem restartTakesEffect : Obligations.RestartTakesEffect := by
  refine ⟨fun s tag hs => ?_, fun s => ⟨fun h => ?_, fun h => ?_⟩⟩
  · have hexec : exec (.restart tag) s = .next (placeReply 0x03 tag (serveRestart s)) :=
      arrive_of_ready hs .restart tag []
    refine ⟨fun h => ?_, fun h => ?_⟩
    · rw [hexec, serveRestart_of_service h, placeReply_refused]
      rfl
    · rw [hexec, serveRestart_of_setup h]
      exact congrArg _ (placeReply_served (Nat.zero_le 55))
  · rw [exec_restartTakesEffect, if_neg (by simp [h])]
  · obtain ⟨hriders, hunverified⟩ := restart_totals s
    refine ⟨restart s, (exec_restartTakesEffect s).trans (congrArg _ (if_pos h)), rfl, rfl, rfl, rfl,
      rfl, rfl, rfl, rfl, rfl, rfl, hriders, hunverified, rfl, restart_holds s, restart_causes, rfl,
      rfl, rfl, rfl, rfl, rfl, rfl, rfl, rfl, rfl, rfl, rfl, rfl, rfl, rfl, rfl, rfl, rfl, rfl, rfl,
      rfl⟩

end Sys2Proof.Machine

/-! ## The laws of the hold list through every step (R45, R105, R116, R124) -/

namespace Sys2Proof.Machine

set_option Elab.async false

variable {s t : State}

/-- What every change inside an event keeps of the hold list: its laws but for the cause-present states,
which may wait for their tests, and the WIND table in range, which bounds the MASTS cause. -/
structure HoldsKept (s : State) : Prop where
  law : HoldLaw s
  position : PositionLaw s
  windHold : WindHoldLaw s
  wind : WindInv s

theorem HoldsKept.of_inv (h : HoldInv s) (hw : WindInv s) : HoldsKept s := by
  obtain ⟨hlaw, -, hpos, hwind⟩ := holdInv_iff.mp h
  exact ⟨hlaw, hpos, hwind, hw⟩

theorem Act.keeps_holdsKept (h : HoldsKept s) (a : Act s t) : HoldsKept t where
  law := a.keeps_holdLaw h.law h.position h.wind.1
  position := a.keeps_position h.law h.position
  windHold := a.keeps_windHold h.law h.windHold
  wind := a.keeps_wind h.wind

theorem OuterAct.keeps_holdsKept (h : HoldsKept s) (a : OuterAct s t) : HoldsKept t where
  law := a.keeps_holdLaw h.law
  position := a.keeps_position h.position
  windHold := a.keeps_windHold h.windHold
  wind := a.keeps_wind h.wind

theorem Work.keeps_holdInv {line mid : Bool} (w : Work line s false mid t) (h : HoldInv s)
    (hw : WindInv s) : HoldInv t := by
  have hkept : HoldsKept t := w.keeps (fun h a => a.keeps_holdsKept h)
    (fun h a => a.keeps_holdsKept h) (.of_inv h hw)
  obtain ⟨-, hcauses, -⟩ := holdInv_iff.mp h
  exact holdInv_iff.mpr ⟨hkept.law, w.keeps_causes rfl hcauses, hkept.position, hkept.windHold⟩

/-- After a reset the list holds the POSITION entry of SEARCHING and the MASTS entry (R136), and the level
is CALM. -/
theorem holdInv_of_reset (h : ResetRecords t) (hcauses : t.causes = t.tests) : HoldInv t := by
  obtain ⟨-, -, -, -, -, -, -, ⟨time, hholds⟩, -, htracker, hwind, -⟩ := h
  obtain ⟨hnodup, hforms⟩ := resetHolds_law time t.causes
  refine ⟨hholds ▸ hnodup, hholds ▸ hforms, hcauses, ?_, ?_⟩
  · rw [State.entry, hholds, htracker]
    rfl
  · rw [State.entry, hholds, hwind]
    rfl

/-- Settles O8, by what each change of an event keeps of the hold list; the two resets leave the list of
R136. -/
theorem holdListLawKept : Obligations.HoldListLawKept := by
  intro s t hhold hwind hstep
  rcases step_work hstep with w | ⟨u, -, rfl | ⟨-, rfl⟩⟩
  · exact w.keeps_holdInv hhold hwind
  · exact holdInv_of_reset (powerOn_resetRecords u) rfl
  · exact holdInv_of_reset (restart_resetRecords u) rfl

end Sys2Proof.Machine

/-! ## Snapshots taken, and a burst of them (R132 to R135) -/

namespace Sys2Proof.Machine

set_option Elab.async false

variable {s u : State} {first last e : HoldEntry} {lost : Bool}

/-! ### The indices (R133) -/

/-- The index after another names the other slot. -/
theorem getLsbD_zero_succ : ∀ i : BitVec 2, (i + 1).getLsbD 0 = !i.getLsbD 0 := by decide

/-- The slot of an index, by its remainder. -/
theorem SnapshotSlots.slot_eq_mod (k : SnapshotSlots) (i : BitVec 2) :
    k.slot i = if i.toNat % 2 = 0 then k.slot0 else k.slot1 := by
  have hparity : ∀ i : BitVec 2, (i.toNat % 2 = 0) = (i.getLsbD 0 = false) := by decide
  simp only [SnapshotSlots.slot, hparity]
  cases i.getLsbD 0 <;> rfl

theorem SnapshotSlots.unread_eq_zero_iff {k : SnapshotSlots} : k.unread = 0 ↔ k.w = k.r := by
  have hsub : ∀ w r : BitVec 2, (w - r).toNat = 0 ↔ w = r := by decide
  exact hsub k.w k.r

/-- One taken is one unread fewer. -/
theorem SnapshotSlots.unread_taken {k : SnapshotSlots} (h : k.unread ≠ 0) :
    ({ k with r := k.r + 1 } : SnapshotSlots).unread = k.unread - 1 := by
  have hsub : ∀ w r : BitVec 2, (w - r).toNat ≠ 0 → (w - (r + 1)).toNat = (w - r).toNat - 1 := by
    decide
  exact hsub k.w k.r h

/-! ### SNAPSHOT TAKE (R135) -/

theorem serveSnapshotTake_none (h : s.snaps.unread = 0) : serveSnapshotTake s = refusedWith .none s :=
  if_pos h

theorem serveSnapshotTake_some {x : Snapshot} (h : s.snaps.unread ≠ 0)
    (hx : s.snaps.slot s.snaps.r = some x) :
    serveSnapshotTake s = served (byte (s.snaps.unread - 1) :: snapshotBytes x)
      { s with snaps := { s.snaps with r := s.snaps.r + 1 } } := by
  simp only [serveSnapshotTake, if_neg h, hx, SnapshotSlots.unread_taken h]

/-! ### What a capture leaves (R133, R134) -/

/-- A capture changes none of the records that a snapshot is made of. -/
theorem snapshotOf_capture (e x : HoldEntry) (b : Bool) (s : State) :
    snapshotOf x b (capture e s) = snapshotOf x b s := by
  rw [capture_eq]
  rfl

theorem capture_read (e : HoldEntry) (s : State) : (capture e s).snaps.r = s.snaps.r := by
  rw [capture_eq]
  rfl

/-- A capture with room writes the slot of the write index, which goes up. -/
theorem capture_room_leaves (h : s.snaps.unread < 2) (e : HoldEntry) :
    (capture e s).snaps.w = s.snaps.w + 1 ∧ (capture e s).latched = s.latched ∧
      ∀ i, (capture e s).snaps.slot i = if s.snaps.w.getLsbD 0 = i.getLsbD 0 then
        some (snapshotOf e false s) else s.snaps.slot i := by
  rw [capture_of_room h]
  exact ⟨rfl, rfl, fun i => SnapshotSlots.slot_write ..⟩

/-- A capture without room writes the slot of the index before, and marks the snapshot lost. -/
theorem capture_full_leaves (h : 2 ≤ s.snaps.unread) (e : HoldEntry) :
    (capture e s).snaps.w = s.snaps.w ∧ (capture e s).latched.snapshotSuperseded = true ∧
      ∀ i, (capture e s).snaps.slot i = if (s.snaps.w - 1).getLsbD 0 = i.getLsbD 0 then
        some (snapshotOf e true s) else s.snaps.slot i := by
  rw [capture_of_full h]
  exact ⟨(SnapshotSlots.write_indexes ..).1, rfl, fun i => SnapshotSlots.slot_write ..⟩

/-! ### A burst of STOPs (R133, R134) -/

/-- What captures from `s` with no snapshot unread have left in `u`: the first snapshot, and after it the
newest, superseding when one was lost between them. -/
structure Burst (s u : State) (first last : HoldEntry) (lost : Bool) : Prop where
  owners : ∀ e b, snapshotOf e b u = snapshotOf e b s
  read : u.snaps.r = s.snaps.r
  written : u.snaps.w = s.snaps.r + 2
  oldest : u.snaps.slot s.snaps.r = some (snapshotOf first false s)
  newest : u.snaps.slot (s.snaps.r + 1) = some (snapshotOf last lost s)
  marked : u.latched.snapshotSuperseded = (s.latched.snapshotSuperseded || lost)

namespace Burst

theorem unread (h : Burst s u first last lost) : u.snaps.unread = 2 := by
  have htwo : ∀ r : BitVec 2, (r + 2 - r).toNat = 2 := by decide
  rw [SnapshotSlots.unread, h.read, h.written, htwo]

/-- Two captures fill both slots (R133). -/
theorem start (h : s.snaps.unread = 0) (a b : HoldEntry) :
    Burst s (capture b (capture a s)) a b false := by
  have hw : s.snaps.w = s.snaps.r := SnapshotSlots.unread_eq_zero_iff.mp h
  obtain ⟨hwa, hla, hslota⟩ := capture_room_leaves (h.trans_lt Nat.two_pos) a
  have hone : (capture a s).snaps.unread < 2 := by
    have hnext : ∀ r : BitVec 2, (r + 1 - r).toNat < 2 := by decide
    rw [SnapshotSlots.unread, capture_read, hwa, hw]
    exact hnext _
  obtain ⟨hwb, hlb, hslotb⟩ := capture_room_leaves hone b
  refine ⟨fun e x => ?_, ?_, ?_, ?_, ?_, ?_⟩
  · rw [snapshotOf_capture, snapshotOf_capture]
  · rw [capture_read, capture_read]
  · have htwo : ∀ r : BitVec 2, r + 1 + 1 = r + 2 := by decide
    rw [hwb, hwa, hw, htwo]
  · rw [hslotb, hwa, hw, getLsbD_zero_succ, if_neg (by simp), hslota, hw, if_pos rfl]
  · rw [hslotb, hwa, hw, if_pos rfl, snapshotOf_capture]
  · rw [hlb, hla, Bool.or_false]

/-- A further one takes the place of the newer (R134). -/
theorem next (h : Burst s u first last lost) (e : HoldEntry) : Burst s (capture e u) first e true := by
  have hnewer : u.snaps.w - 1 = s.snaps.r + 1 := by
    have hsub : ∀ r : BitVec 2, r + 2 - 1 = r + 1 := by decide
    rw [h.written, hsub]
  obtain ⟨hw, hl, hslot⟩ := capture_full_leaves h.unread.ge e
  rw [hnewer, h.owners] at hslot
  refine ⟨fun x b => ?_, ?_, ?_, ?_, ?_, ?_⟩
  · rw [snapshotOf_capture, h.owners]
  · rw [capture_read, h.read]
  · rw [hw, h.written]
  · rw [hslot, getLsbD_zero_succ, if_neg (by simp), h.oldest]
  · rw [hslot, if_pos rfl]
  · rw [hl, Bool.or_true]

theorem foldl (es : List HoldEntry) (h : Burst s u first e lost) :
    Burst s ((es ++ [last]).foldl (fun v x => capture x v) u) first last true := by
  induction es generalizing u e lost with
  | nil => exact h.next last
  | cons x es ih => exact ih (h.next x)

/-- The whole burst: its first, those between, and its last. -/
theorem of_list (h : s.snaps.unread = 0) (first last : HoldEntry) (between : List HoldEntry) :
    Burst s ((first :: between ++ [last]).foldl (fun v x => capture x v) s) first last
      (between != []) := by
  cases between with
  | nil => exact start h first last
  | cons x xs => exact (start h first x).foldl xs

end Burst

/-! ### The obligation -/

/-- Settles O45: the reply is the record of 9.5 byte by byte, and a burst is followed capture by capture. -/
theorem snapshotsKeepFirstAndLast : Obligations.SnapshotsKeepFirstAndLast := by
  refine ⟨fun s tag hs hi => ?_, fun s first last between h => ?_⟩
  · intro oldest
    have hexec : exec (.snapshotTake tag) s = .next (placeReply 0x1B tag (serveSnapshotTake s)) :=
      arrive_of_ready hs .snapshotTake tag []
    refine ⟨fun h => ?_, fun h => ?_⟩
    · rw [hexec, serveSnapshotTake_none h, placeReply_refused]
      rfl
    · obtain ⟨-, hslot, -⟩ := hi
      obtain ⟨x, hx⟩ := Option.isSome_iff_exists.mp (hslot (Nat.one_le_iff_ne_zero.mpr h))
      refine ⟨x, (SnapshotSlots.slot_eq_mod ..).symm.trans hx, ?_⟩
      intro bytes
      have hbytes : snapshotBytes x = bytes := by
        have hsource : byte x.source.code = match x.source with
            | .wind => 1 | .masts => 2 | .position => 3 | .command => 4 | .door => 5
            | .platform => 6 | .drive => 7 | .console => 8 := by cases x.source <;> rfl
        have hcls : byte x.cls.code = match x.cls with
            | .noBoard => 1 | .slow => 2 | .creep => 3 | .stop => 4 := by cases x.cls <;> rfl
        have htracker : byte x.trackerState.code = match x.trackerState with
            | .searching => 0 | .locked => 1 | .coasting => 2 | .lost => 3 := by
          cases x.trackerState <;> rfl
        have hlevel : byte x.level.code = match x.level with
            | .calm => 0 | .watch => 1 | .restrict => 2 | .hold => 3 := by cases x.level <;> rfl
        have hflags : flagBits [x.speed.isSome, x.rim.isSome, x.superseded] =
            (if x.speed = none then 0 else 1) + (if x.rim = none then 0 else 2) +
              (if x.superseded then 4 else 0) := by
          cases x.speed <;> cases x.rim <;> cases x.superseded <;> rfl
        rw [snapshotBytes, hsource, hcls, htracker, hlevel, hflags]
        rfl
      have hlength : bytes.length = 25 := rfl
      refine ⟨?_, hlength⟩
      rw [hexec, serveSnapshotTake_some h hx, hbytes, placeReply_served (by simp [hlength])]
  · have hburst := Burst.of_list h first last between
    intro t of
    refine ⟨hburst.read, hburst.unread, ?_, ?_, hburst.marked⟩
    · rw [hburst.read]
      exact hburst.oldest
    · rw [hburst.read]
      exact hburst.newest

end Sys2Proof.Machine

/-! ## HOLD PLACE (R128) -/

namespace Sys2Proof.Machine

set_option Elab.async false

variable {s : State} {c : HoldClass} {e : HoldEntry}

/-! ### Classes (R115, R116) -/

theorem holdClassOf_code (c : HoldClass) : holdClassOf c.code = some c := by cases c <;> rfl

theorem holdClassOf_out_of_range {k : Nat} (h : k = 0 ∨ 4 < k) : holdClassOf k = none := by
  rcases h with rfl | h
  · rfl
  · obtain ⟨n, rfl⟩ := Nat.exists_eq_add_of_le' h
    rfl

theorem HoldClass.code_injective {a b : HoldClass} (h : a.code = b.code) : a = b :=
  Option.some.inj (by rw [← holdClassOf_code, ← holdClassOf_code, h])

theorem HoldClass.higher_of_le {a b : HoldClass} (h : b.code ≤ a.code) : a.higher b = a := by
  unfold HoldClass.higher
  split
  · next hab => exact HoldClass.code_injective (Nat.le_antisymm h hab)
  · rfl

theorem HoldClass.higher_of_lt {a b : HoldClass} (h : a.code < b.code) : a.higher b = b := if_pos h.le

/-- No class is above STOP. -/
theorem HoldClass.ne_stop_of_lt {a b : HoldClass} (h : a.code < b.code) : a ≠ .stop := by
  rintro rfl
  cases b <;> exact absurd h (by decide)

/-! ### The CONSOLE entry (R116, R118) -/

/-- A CONSOLE entry has one form but for its class and time. -/
theorem HoldEntry.formed_console {causes : CauseStates} (h : e.formed causes = true)
    (hs : e.source = .console) : e = ⟨.console, e.cls, 1, none, e.time, true, false⟩ := by
  cases e; subst hs
  simp_all [HoldEntry.formed, presentFlag]

/-- A request changes the class of the CONSOLE entry alone, and only upward. -/
theorem HoldInv.reportedEntry_console (hi : HoldInv s) (he : s.entry .console = some e)
    (c : HoldClass) : reportedEntry e 1 c none = { e with cls := e.cls.higher c } := by
  obtain ⟨hs, -, hform⟩ := hi.formed he
  rw [HoldEntry.formed_console hform hs]
  rfl

/-- The first entry of the list bars the cabins in BOARDING (R62, R117). -/
theorem withEntry_cabins (e : HoldEntry) (s : State) : (s.withEntry e).cabins =
    if s.holds = [] then
      s.cabins.map fun k => if k.state = .boarding then { k with entryBarred := true } else k
    else s.cabins := by
  simp only [State.withEntry]
  split
  · next h => simp only [h, true_and]
  · next h => simp only [h, false_and, if_false, List.map_id']

/-- The entry that a first HOLD PLACE adds (R117, R128). -/
def State.consoleEntry (s : State) (c : HoldClass) : HoldEntry :=
  ⟨.console, c, 1, none, s.ms, true, false⟩

theorem causeReport_console_new (he : s.entry .console = none) (c : HoldClass) :
    causeReport .console 1 c none s =
      if c = .stop then (s.withEntry (s.consoleEntry c)).stopped (s.consoleEntry c)
      else s.withEntry (s.consoleEntry c) := by
  rw [causeReport_new he, addEntry_eq]
  rfl

/-- A class not above the one held changes nothing. -/
theorem causeReport_console_left (hi : HoldInv s) (he : s.entry .console = some e)
    (hc : c.code ≤ e.cls.code) : causeReport .console 1 c none s = s := by
  have hsame : reportedEntry e 1 c none = e := by
    rw [hi.reportedEntry_console he, HoldClass.higher_of_le hc]
  have hstop : (e.cls != .stop && e.cls == .stop) = false := by cases e.cls <;> rfl
  obtain ⟨-, hmem⟩ := entry_source he
  rw [causeReport_old he, hsame, putEntry_self hi.1 hmem, hstop]
  rfl

/-- The state with the CONSOLE entry raised, before the effects of a STOP. -/
def State.consoleRaised (s : State) (c : HoldClass) : State :=
  { s with holds := s.holds.map fun h => if h.source = .console then { h with cls := c } else h }

theorem putEntry_console (hi : HoldInv s) (he : s.entry .console = some e) (c : HoldClass) :
    putEntry { e with cls := c } s = s.consoleRaised c := by
  obtain ⟨hs, hmem⟩ := entry_source he
  have hholds : (s.holds.map fun h => if h.source = e.source then { e with cls := c } else h) =
      s.holds.map fun h => if h.source = .console then { h with cls := c } else h := by
    refine List.map_congr_left fun h hh => ?_
    by_cases hx : h.source = .console
    · have hsame : h = e := List.inj_on_of_nodup_map hi.1 hh hmem (hx.trans hs.symm)
      rw [if_pos (hx.trans hs.symm), if_pos hx, hsame]
    · rw [if_neg fun hsrc => hx (hsrc.trans hs), if_neg hx]
  exact congrArg (fun l => ({ s with holds := l } : State)) hholds

theorem causeReport_console_raised (hi : HoldInv s) (he : s.entry .console = some e)
    (hc : e.cls.code < c.code) : causeReport .console 1 c none s =
      if c = .stop then (s.consoleRaised c).stopped { e with cls := c } else s.consoleRaised c := by
  have hbelow : (e.cls != .stop) = true := bne_iff_ne.mpr (HoldClass.ne_stop_of_lt hc)
  rw [causeReport_old he, hi.reportedEntry_console he, HoldClass.higher_of_lt hc,
    putEntry_console hi he, stopEffectsIf, stopEffects_eq, hbelow, Bool.true_and]
  simp only [beq_iff_eq]

/-- The class that the CONSOLE entry holds after the request: the one named, or the higher of the two. -/
theorem HoldInv.cls_after_holdPlace (hi : HoldInv s) (c : HoldClass) :
    ((causeReport .console 1 c none s).entry .console).map (fun x => x.cls) =
      some (((s.entry .console).map fun x => x.cls.higher c).getD c) := by
  rw [entry_causeReport_same]
  cases he : s.entry .console with
  | none => rfl
  | some e => simp [hi.reportedEntry_console he]

/-! ### The request -/

theorem exec_holdPlace (hs : s.ready) (tag cls : Byte) : exec (.holdPlace tag cls) s =
    .next (placeReply 0x18 tag (serveHoldPlace cls s)) := arrive_of_ready hs .holdPlace tag [cls]

theorem serveHoldPlace_range {cls : Byte} (h : cls.toNat = 0 ∨ 4 < cls.toNat) :
    serveHoldPlace cls s = refusedWith .range s := by
  rw [serveHoldPlace, holdClassOf_out_of_range h]

theorem serveHoldPlace_class {cls : Byte} (hc : c.code = cls.toNat) {held : HoldClass}
    (hh : ((causeReport .console 1 c none s).entry .console).map (fun x => x.cls) = some held) :
    serveHoldPlace cls s = served [byte held.code] (causeReport .console 1 c none s) := by
  obtain ⟨x, hx, rfl⟩ := Option.map_eq_some_iff.mp hh
  simp only [serveHoldPlace, ← hc, holdClassOf_code, hx]

/-- The request with a class: the CAUSE REPORT of the CONSOLE, and the class held after it. -/
theorem exec_holdPlace_class (hs : s.ready) (hi : HoldInv s) (tag : Byte) {cls : Byte}
    (hc : c.code = cls.toNat) : exec (.holdPlace tag cls) s =
      .next ((causeReport .console 1 c none s).queued [onePart 0x18 tag 0
        [byte (((s.entry .console).map fun x => x.cls.higher c).getD c).code]]) := by
  rw [exec_holdPlace hs, serveHoldPlace_class hc (hi.cls_after_holdPlace c),
    placeReply_served (by simp)]

/-- Settles O43: the CAUSE REPORT of the CONSOLE entry, new, left or raised. -/
theorem holdPlaceAnswered : Obligations.HoldPlaceAnswered := by
  intro s tag cls hs hi
  refine ⟨fun h => ?_, fun c hc => ?_⟩
  · rw [exec_holdPlace hs, serveHoldPlace_range h, placeReply_refused]
    rfl
  intro barred raised stopped
  have hexec := exec_holdPlace_class hs hi tag hc
  have hbyte : byte c.code = cls := by rw [hc]; exact BitVec.ofNat_toNat ..
  have hbarred : (s.withEntry (s.consoleEntry c)).cabins = barred := withEntry_cabins ..
  have hstopped (holds : List HoldEntry) (cabins : List Cabin) {e : HoldEntry}
      (hsrc : e.source = .console) (hcause : e.cause = 1) (hsub : e.subject = none)
      (hcls : e.cls = .stop) : stopped (State.queued
        (State.stopped { s with holds := holds, cabins := cabins } e) [onePart 0x18 tag 0 [4]])
        holds := by
    let u : State := { s with holds := holds, cabins := cabins }
    obtain ⟨harmed, hrun⟩ := stopped_stops e u
    obtain ⟨x, hx, hxsrc, hxcause, hxsub, hxcls, htime, -, hlen⟩ := stopEffects_snapshot e u
    rw [stopEffects_eq] at hx
    refine ⟨rfl, harmed, hrun, ?_, rfl, x, hx, hxsrc.trans hsrc, htime, hxcause.trans hcause,
      hxsub.trans hsub, hxcls.trans hcls, hlen⟩
    exact apply_ite RequestedSpeed.source ..
  refine ⟨fun he hne => ?_, fun he heq => ?_, fun e he hle => ?_, fun e he hlt hne => ?_,
    fun e he hlt heq => ?_⟩
  · rw [hexec, causeReport_console_new he, if_neg hne, he, ← hbarred]
    simp only [Option.map_none, Option.getD_none, hbyte]
    rfl
  · rw [causeReport_console_new he, if_pos heq, he] at hexec
    subst heq
    exact ⟨_, hexec, hbarred, hstopped _ _ rfl rfl rfl rfl⟩
  · rw [hexec, causeReport_console_left hi he hle, he]
    simp only [Option.map_some, Option.getD_some, HoldClass.higher_of_le hle]
  · rw [hexec, causeReport_console_raised hi he hlt, if_neg hne, he]
    simp only [Option.map_some, Option.getD_some, HoldClass.higher_of_lt hlt, hbyte]
    rfl
  · rw [causeReport_console_raised hi he hlt, if_pos heq, he, Option.map_some, Option.getD_some,
      HoldClass.higher_of_lt hlt] at hexec
    subst heq
    obtain ⟨hsrc, -, hform⟩ := hi.formed he
    have hentry := HoldEntry.formed_console hform hsrc
    exact ⟨_, hexec, rfl, hstopped raised s.cabins hsrc (congrArg HoldEntry.cause hentry)
      (congrArg HoldEntry.subject hentry) rfl⟩

end Sys2Proof.Machine

/-! ## HOLD RELEASE (R129, R130) -/

namespace Sys2Proof.Machine

set_option Elab.async false

variable {s : State} {src src' : HoldSource} {code : Byte} {e : HoldEntry}

/-! ### The request by the source it names -/

theorem holdSourceOf_code (src : HoldSource) : holdSourceOf src.code = some src := by cases src <;> rfl

theorem holdSourceOf_out_of_range {k : Nat} (h : k = 0 ∨ 8 < k) : holdSourceOf k = none := by
  rcases h with rfl | h
  · rfl
  · obtain ⟨n, rfl⟩ := Nat.exists_eq_add_of_le' h
    rfl

theorem serveHoldRelease_range (h : code.toNat = 0 ∨ 8 < code.toNat) :
    serveHoldRelease code s = refusedWith .range s := by
  rw [serveHoldRelease, holdSourceOf_out_of_range h]

theorem serveHoldRelease_none (hc : src.code = code.toNat) (he : s.entry src = none) :
    serveHoldRelease code s = refusedWith .none s := by
  simp only [serveHoldRelease, ← hc, holdSourceOf_code, he]

/-- An automatic entry is released by its cause alone. -/
theorem serveHoldRelease_automatic (hc : src.code = code.toNat) (he : s.entry src = some e)
    (ha : src = .wind ∨ src = .masts ∨ src = .command ∨ (src = .position ∧ e.latched = false)) :
    serveHoldRelease code s = refusedWith .state s := by
  rcases ha with rfl | rfl | rfl | ⟨rfl, hl⟩
  · simp only [serveHoldRelease, ← hc, holdSourceOf_code, he]
  · simp only [serveHoldRelease, ← hc, holdSourceOf_code, he]
  · simp only [serveHoldRelease, ← hc, holdSourceOf_code, he]
  · simp only [serveHoldRelease, ← hc, holdSourceOf_code, he, hl, Bool.false_eq_true, if_false]

/-- An entry that carries a test is released once the cause is gone. -/
theorem serveHoldRelease_tested (hc : src.code = code.toNat) (he : s.entry src = some e)
    (ht : src = .door ∨ src = .platform ∨ src = .drive) :
    serveHoldRelease code s =
      if e.present then refusedWith .active s else served [] (removeEntry src s) := by
  rcases ht with rfl | rfl | rfl <;> simp only [serveHoldRelease, ← hc, holdSourceOf_code, he]

theorem serveHoldRelease_console (hc : HoldSource.console.code = code.toNat)
    (he : s.entry .console = some e) :
    serveHoldRelease code s = served [] (removeEntry .console s) := by
  simp only [serveHoldRelease, ← hc, holdSourceOf_code, he]

theorem serveHoldRelease_lost (hc : HoldSource.position.code = code.toNat)
    (he : s.entry .position = some e) (hl : e.latched = true) :
    serveHoldRelease code s = served [] (releasePosition e s) := by
  simp only [serveHoldRelease, ← hc, holdSourceOf_code, he, hl, if_true]

/-! ### A LOST POSITION entry released (R130) -/

/-- A latched POSITION entry is a STOP (R116, R120). -/
theorem HoldInv.position_stop (hi : HoldInv s) (he : s.entry .position = some e)
    (hl : e.latched = true) : e.cls = .stop := by
  obtain ⟨hs, -, hform⟩ := hi.formed he
  obtain ⟨-, -, hcls⟩ := HoldEntry.formed_position hform hs
  split at hcls
  · exact hcls.2
  · rw [hl] at hcls
    cases hcls.1

/-- While no run is RUNNING a conversion is nothing to the profile unit. -/
theorem convert_idle {u : State} (h : u.run.running = false) : convert u = u.offPlatform := by
  have hidle : cabinChanged u.offPlatform = u.offPlatform := cabinChanged_idle h
  rw [convert_eq_offPlatform, hidle, ite_self]

theorem releasePosition_idle (h : s.run.running = false) :
    releasePosition e s = retest (s.positionReleased e) := congrArg retest (convert_idle h)

/-- The released entry in its place, and the entries of the other sources but for their flags, which the
tests give (R124). -/
theorem entry_positionReleased_retested (he : s.entry .position = some e) :
    (retest (s.positionReleased e)).entry .position =
        some { e with cls := .creep, cause := 1, latched := false, present := true } ∧
      ∀ src', src' ≠ .position → (retest (s.positionReleased e)).entry src' =
        (s.entry src').map fun h =>
          { h with present := presentFlag src' (s.positionReleased e).tests } := by
  have hs : (creepForm e).source = .position := (entry_source he).1
  have hput (src : HoldSource) :
      (s.positionReleased e).entry src = (putEntry (creepForm e) s).entry src := entry_congr rfl
  refine ⟨?_, fun src' hne => ?_⟩
  · have hcreep : (putEntry (creepForm e) s).entry (creepForm e).source = some (creepForm e) :=
      entry_putEntry_same (by rw [hs, he])
    rw [hs] at hcreep
    rw [entry_retest, hput, hcreep]
    rfl
  · rw [entry_retest, hput, entry_putEntry_other (hs ▸ hne.symm)]

theorem sources_positionReleased_retested (e : HoldEntry) (s : State) :
    (retest (s.positionReleased e)).holds.map (fun h => h.source) = s.holds.map fun h => h.source := by
  rw [retest_holds, List.map_map]
  exact (List.map_map ..).trans (List.map_congr_left fun x _ => putEntry_keeps_source (creepForm e) x)

/-- Settles O44, source by source; a LOST POSITION entry is a STOP, under which no run is RUNNING. -/
theorem holdReleaseAnswered : Obligations.HoldReleaseAnswered := by
  intro s tag code hs hi hrun answered
  have hexec : exec (.holdRelease tag code) s = .next (placeReply 0x19 tag (serveHoldRelease code s)) :=
    arrive_of_ready hs .holdRelease tag [code]
  have refused {st : Status} (h : serveHoldRelease code s = refusedWith st s) :
      answered (byte st.code) := by
    rw [h, placeReply_refused] at hexec
    exact hexec
  have released {t : State} (h : serveHoldRelease code s = served [] t) :
      exec (.holdRelease tag code) s = .next (t.queued [onePart 0x19 tag 0 []]) := by
    rw [hexec, h, placeReply_served (by simp)]
  refine ⟨fun h => refused (serveHoldRelease_range h), fun src hc =>
    ⟨fun he => refused (serveHoldRelease_none hc he), fun e he => ⟨fun ha => ?_, fun ht hp => ?_,
      fun h => ?_, fun hsrc hl => ?_⟩⟩⟩
  · exact refused (serveHoldRelease_automatic hc he ha)
  · exact refused ((serveHoldRelease_tested hc he ht).trans (if_pos hp))
  · rcases h with ⟨ht, hp⟩ | rfl
    · exact released ((serveHoldRelease_tested hc he ht).trans (if_neg (by simp [hp])))
    · exact released (serveHoldRelease_console hc he)
  · subst hsrc
    have hstop : s.hasStop = true :=
      List.any_eq_true.mpr ⟨e, (entry_source he).2, beq_iff_eq.mpr (hi.position_stop he hl)⟩
    have hidle : s.run.running = false := by
      by_contra hr
      rw [Bool.not_eq_false] at hr
      rw [(hrun.2.1 hr).2] at hstop
      cases hstop
    obtain ⟨hposition, hothers⟩ := entry_positionReleased_retested he
    refine ⟨_, released ((serveHoldRelease_lost hc he hl).trans
      (congrArg (served []) (releasePosition_idle hidle))), rfl, rfl, rfl, rfl, rfl, hposition,
      sources_positionReleased_retested e s, fun src' hne => ?_, rfl, rfl, rfl, rfl, rfl⟩
    have hentry := hothers src' hne
    refine (congrArg (Option.map _) hentry).trans ?_
    rw [Option.map_map]
    rfl

end Sys2Proof.Machine

/-! ## The speed source through every step (R139) -/

namespace Sys2Proof.Machine

set_option Elab.async false

variable {s t : State}

theorem Work.keeps_run {line due mid : Bool} (w : Work line s due mid t) (h : RunInv s) : RunInv t :=
  w.keeps (fun h a => a.keeps_run h) (fun h a => a.keeps_run h) h

/-- A reset leaves no run, the source CONSOLE and no wait (R165, R167). -/
theorem runInv_of_reset (h : ResetRecords t) : RunInv t := by
  obtain ⟨-, -, hwait, -, -, hsource, hrun, -⟩ := h
  exact .ended (by rw [hrun]; rfl) hsource (by rw [hrun]; rfl) (by rw [hrun]; rfl) hwait

/-- Settles O7, by what each change of an event keeps of the run and the speed source; the two resets leave
no run. -/
theorem profileSourceLawKept : Obligations.ProfileSourceLawKept := by
  intro s t hrun hstep
  rcases step_work hstep with w | ⟨u, -, rfl | ⟨-, rfl⟩⟩
  · exact w.keeps_run hrun
  · exact runInv_of_reset (powerOn_resetRecords u)
  · exact runInv_of_reset (restart_resetRecords u)

end Sys2Proof.Machine

/-! ## Steps begun and met (R138, R142, R144, R146, R148) -/

namespace Sys2Proof.Machine

set_option Elab.async false

variable {s t : State} {x : Step} {i repeats : Nat}

/-! ### The conditions of steps -/

theorem currentStep_of_getElem? (h : s.runSteps[s.run.step]? = some x) : s.currentStep = x := by
  simp [State.currentStep, List.getD_eq_getElem?_getD, h]

theorem cabinAtFails_iff : s.cabinAtFails x = true ↔ x.kind = .cabinAt ∧
    (s.ride.n ≤ x.param / 8 ∨ (s.cabins.getD (x.param / 8) Cabin.notLoaded).state = .outOfService) := by
  simp [State.cabinAtFails]

theorem cabinAtFails_of_kind (h : x.kind ≠ .cabinAt) : s.cabinAtFails x = false :=
  Bool.eq_false_iff.mpr fun hf => h (cabinAtFails_iff.mp hf).1

/-- The rim is empty when no cabin below N has riders or may have (R146). -/
theorem allEmpty_iff : s.allEmpty = true ↔ ∀ (k : Nat) (c : Cabin), k < s.ride.n →
    s.cabins[k]? = some c → c.state ≠ .loaded ∧ c.state ≠ .unverified ∧
      (c.state = .alighting ∨ c.state = .boarding → c.count = 0) := by
  have hcabin (c : Cabin) : (match c.state with
        | .loaded => false | .unverified => false
        | .alighting => c.count == 0 | .boarding => c.count == 0
        | .empty => true | .outOfService => true) = true ↔
      c.state ≠ .loaded ∧ c.state ≠ .unverified ∧
        (c.state = .alighting ∨ c.state = .boarding → c.count = 0) := by
    cases c.state <;> simp
  rw [State.allEmpty, List.all_eq_true]
  constructor
  · intro h k c hk hc
    exact (hcabin c).mp (h c (List.mem_of_getElem? (by rw [List.getElem?_take_of_lt hk, hc])))
  · intro h c hc
    obtain ⟨k, hk⟩ := List.mem_iff_getElem?.mp hc
    rw [List.getElem?_take] at hk
    split at hk
    · next hn => exact (hcabin c).mpr (h k c hn hk)
    · cases hk

theorem speedMet_iff (v : Int) : s.speedMet v = true ↔ s.run.ordersInStep = true ∧
    s.out.v = 1000 * s.limitedTarget ∧ (v - s.out.setpoint).natAbs ≤ s.ride.stillBand := by
  simp [State.speedMet, and_assoc]

/-- The five crossings a CABIN_AT step can wait for, by point code (R138). -/
theorem crossed_iff (k code : Nat) (crossed : List (Nat × Point)) :
    (crossed.any fun c => c.1 == k && c.2.code == some code) = true ↔
      code = 1 ∧ (k, .idStart) ∈ crossed ∨ code = 2 ∧ (k, .aStart) ∈ crossed ∨
      code = 3 ∧ (k, .bStart) ∈ crossed ∨ code = 4 ∧ (k, .lock) ∈ crossed ∨
      code = 5 ∧ (k, .bEnd) ∈ crossed := by
  rw [List.any_eq_true]
  constructor
  · rintro ⟨⟨c, p⟩, hmem, hp⟩
    rw [Bool.and_eq_true, beq_iff_eq, beq_iff_eq] at hp
    obtain ⟨rfl, hcode⟩ := hp
    cases p <;> cases hcode <;> simp [hmem]
  · rintro (⟨rfl, h⟩ | ⟨rfl, h⟩ | ⟨rfl, h⟩ | ⟨rfl, h⟩ | ⟨rfl, h⟩) <;>
      exact ⟨_, h, by simp [Point.code]⟩

theorem feedbackMeets_speed (h : s.currentStep = x) (hk : x.kind = .speed) (v : Int)
    (crossed : List (Nat × Point)) : s.feedbackMeets v crossed = true ↔
      s.run.ordersInStep = true ∧ s.out.v = 1000 * clamp (-(s.out.cr : Int)) s.out.cf x.target ∧
        (v - s.out.setpoint).natAbs ≤ s.ride.stillBand := by
  simp only [State.feedbackMeets, h, hk, speedMet_iff, State.limitedTarget]

theorem feedbackMeets_cabinAt (h : s.currentStep = x) (hk : x.kind = .cabinAt) (v : Int)
    (crossed : List (Nat × Point)) : s.feedbackMeets v crossed =
      crossed.any fun c => c.1 == x.param / 8 && c.2.code == some (x.param % 8) := by
  simp only [State.feedbackMeets, h, hk]

theorem feedbackMeets_revolution (h : s.currentStep = x) (hk : x.kind = .revolution) (v : Int)
    (crossed : List (Nat × Point)) : s.feedbackMeets v crossed = true ↔
      (s.ride.circumference : Int) ≤ s.run.travel.toInt := by
  simp only [State.feedbackMeets, h, hk, decide_eq_true_eq]

/-- No other condition is tested at a FEEDBACK. -/
theorem feedbackMeets_other (h : s.currentStep = x) (hs : x.kind ≠ .speed) (hc : x.kind ≠ .cabinAt)
    (hr : x.kind ≠ .revolution) (v : Int) (crossed : List (Nat × Point)) :
    s.feedbackMeets v crossed = false := by
  unfold State.feedbackMeets
  rw [h]
  split
  · next hk => exact absurd hk hs
  · next hk => exact absurd hk hc
  · next hk => exact absurd hk hr
  · rfl

/-- The count difference of a frame joined to the step travel (R144). -/
def State.travelled (s : State) (diff : Int) : State :=
  { s with run := { s.run with travel := s.run.travel + BitVec.ofInt 32 diff } }

theorem profileFeedback_eq (diff v : Int) (crossed : List (Nat × Point)) :
    profileFeedback diff v crossed s =
      if (s.travelled diff).run.running && !(s.travelled diff).run.begunNow &&
          (s.travelled diff).feedbackMeets v crossed
      then stepMet (s.travelled diff) else s.travelled diff := rfl

/-- With no run, or in a step begun in the frame, a FEEDBACK meets nothing (R144). -/
theorem profileFeedback_untested (h : s.run.running = false ∨ s.run.begunNow = true) (diff v : Int)
    (crossed : List (Nat × Point)) : profileFeedback diff v crossed s = s.travelled diff := by
  refine if_neg ?_
  rcases h with h | h <;> simp [h]

/-- The step of a run that began before the frame is met exactly by its condition (R144). -/
theorem profileFeedback_tested (hr : s.run.running = true) (hb : s.run.begunNow = false)
    {diff v : Int} {crossed : List (Nat × Point)} {p : Prop}
    (hp : (s.travelled diff).feedbackMeets v crossed = true ↔ p) :
    (p → profileFeedback diff v crossed s = stepMet (s.travelled diff)) ∧
      (¬p → profileFeedback diff v crossed s = s.travelled diff) := by
  have hrun : (s.travelled diff).run.running = true := hr
  have hbegun : (s.travelled diff).run.begunNow = false := hb
  rw [profileFeedback_eq, hrun, hbegun]
  exact ⟨fun h => if_pos (by simpa using hp.mpr h), fun h => if_neg (by simpa [hp] using h)⟩

/-- A change of a cabin's state meets an ALL_EMPTY step of a run on an empty rim, and nothing else
(R146). -/
theorem cabinChanged_met (hr : s.run.running = true) (hk : s.currentStep.kind = .allEmpty)
    (he : s.allEmpty = true) : cabinChanged s = stepMet s :=
  if_pos (by simp [hr, hk, he])

theorem cabinChanged_unmet (h : s.run.running = false ∨ s.currentStep.kind ≠ .allEmpty ∨
    s.allEmpty = false) : cabinChanged s = s := by
  refine if_neg ?_
  rcases h with h | h | h <;> simp [h]

/-! ### A step begun -/

/-- The run record moved to a step, with this many repeats left (R148). -/
def State.atStep (s : State) (i repeats : Nat) : State :=
  { s with run := { s.run with step := i, repeats := repeats } }

theorem atStep_currentStep (h : s.runSteps[i]? = some x) : (s.atStep i repeats).currentStep = x :=
  currentStep_of_getElem? (s := s.atStep i repeats) h

theorem startStep_eq (h : s.currentStep = x) : startStep s = { s with run := { s.run with
    stepStart := s.ms, travel := 0, ordersInStep := false
    durationTimer := some (s.ms + BitVec.ofNat 32 x.maxDuration)
    dwellTimer := if x.kind = .dwell then some (s.ms + BitVec.ofNat 32 x.param) else none
    begunNow := true } } := by
  rw [startStep, h]
  rfl

/-! ### The fuel of a chain of steps -/

theorem profileLength_le (steps : List Step) : profileLength steps ≤ steps.length := by
  cases steps with
  | nil => exact Nat.le_refl 0
  | cons first rest =>
    simp only [profileLength]
    split
    · exact Nat.zero_le _
    · cases h : (first :: rest).findIdx? (fun t => t.last) with
      | none => exact Nat.zero_le _
      | some j => exact (List.findIdx?_eq_some_iff_getElem.mp h).1

/-- A bound on the steps that a run may still begin, its current step among them. -/
def State.stepsLeft (s : State) : Nat :=
  16 * s.run.repeats + (profileLength s.runSteps - (s.run.step + 1)) + 1

theorem exists_succ_of_stepsLeft_le {n : Nat} (h : s.stepsLeft ≤ n) : ∃ m, n = m + 1 :=
  Nat.exists_eq_succ_of_ne_zero (Nat.ne_of_gt (Nat.lt_of_lt_of_le (Nat.succ_pos _) h))

theorem stepsLeft_le_stepFuel (h : s.runSteps.length ≤ 16) : s.stepsLeft ≤ s.stepFuel := by
  have hl := profileLength_le s.runSteps
  unfold State.stepsLeft State.stepFuel
  omega

/-- A met step leads to a step of the same profile, with fewer steps left. -/
theorem stepsLeft_nextStep (hl : s.runSteps.length ≤ 16) (h : nextStep s = some t) :
    t.runSteps = s.runSteps ∧ t.stepsLeft < s.stepsLeft := by
  have hlen := profileLength_le s.runSteps
  unfold nextStep at h
  split at h
  · next hlt =>
    cases h
    refine ⟨rfl, ?_⟩
    simp only [State.stepsLeft, State.runSteps, State.profileSteps] at hlt ⊢
    omega
  · split at h
    · next hr =>
      cases h
      refine ⟨rfl, ?_⟩
      simp only [State.stepsLeft, State.runSteps, State.profileSteps] at hlen hl ⊢
      omega
    · cases h

/-- Fuel for the steps left is enough: more changes nothing. -/
theorem beginStep_enough {n m : Nat} (hl : s.runSteps.length ≤ 16) (hn : s.stepsLeft ≤ n)
    (hm : s.stepsLeft ≤ m) : beginStep n s = beginStep m s := by
  induction n generalizing s m with
  | zero => exact absurd hn (Nat.not_succ_le_zero _)
  | succ n ih =>
    obtain ⟨m, rfl⟩ := exists_succ_of_stepsLeft_le hm
    simp only [beginStep]
    split
    · rfl
    · split
      · cases hnext : nextStep (startStep s) with
        | none => rfl
        | some t =>
          obtain ⟨hsteps, hlt⟩ := stepsLeft_nextStep (s := startStep s) hl hnext
          have hleft : (startStep s).stepsLeft = s.stepsLeft := rfl
          exact ih (hsteps ▸ hl) (by omega) (by omega)
      · rfl

/-- An ALL_EMPTY step that begins on an empty rim is met in the same event (R142, R146). -/
theorem beginStep_met {n : Nat} (hk : s.currentStep.kind = .allEmpty) (he : s.allEmpty = true)
    (hl : s.runSteps.length ≤ 16) (hn : s.stepsLeft ≤ n) : beginStep n s = stepMet (startStep s) := by
  obtain ⟨n, rfl⟩ := exists_succ_of_stepsLeft_le hn
  have hf : (startStep s).cabinAtFails (startStep s).currentStep = false :=
    cabinAtFails_of_kind (by rw [startStep_currentStep, hk]; decide)
  have hmet : ((startStep s).currentStep.kind == .allEmpty && (startStep s).allEmpty) = true := by
    simp [hk, he]
  simp only [beginStep, hf, hmet, Bool.false_eq_true, if_false, if_true, stepMet]
  cases hnext : nextStep (startStep s) with
  | none => rfl
  | some t =>
    obtain ⟨hsteps, hlt⟩ := stepsLeft_nextStep (s := startStep s) hl hnext
    have hleft : (startStep s).stepsLeft = s.stepsLeft := rfl
    have hfuel := stepsLeft_le_stepFuel (s := startStep s) hl
    exact beginStep_enough (hsteps ▸ hl) (by omega) (by omega)

/-! ### A step met, by the step it leads to (R148) -/

theorem stepMet_starts (hn : nextStep s = some (s.atStep i repeats)) (hx : s.runSteps[i]? = some x)
    (hf : s.cabinAtFails x = false) (he : x.kind ≠ .allEmpty ∨ s.allEmpty = false) :
    stepMet s = startStep (s.atStep i repeats) := by
  have hcur : (s.atStep i repeats).currentStep = x := atStep_currentStep hx
  simp only [stepMet, hn]
  exact beginStep_starts (by rw [hcur]; exact hf) (by rw [hcur]; exact he)

theorem stepMet_fails (hn : nextStep s = some (s.atStep i repeats)) (hx : s.runSteps[i]? = some x)
    (hf : s.cabinAtFails x = true) : stepMet s = endRun .fault (startStep (s.atStep i repeats)) := by
  have hcur : (s.atStep i repeats).currentStep = x := atStep_currentStep hx
  simp only [stepMet, hn]
  exact beginStep_fails (by rw [hcur]; exact hf)

theorem stepMet_again (hn : nextStep s = some (s.atStep i repeats)) (hx : s.runSteps[i]? = some x)
    (hk : x.kind = .allEmpty) (he : s.allEmpty = true) (hl : s.runSteps.length ≤ 16) :
    stepMet s = stepMet (startStep (s.atStep i repeats)) := by
  have hcur : (s.atStep i repeats).currentStep = x := atStep_currentStep hx
  obtain ⟨-, hlt⟩ := stepsLeft_nextStep hl hn
  have hfuel := stepsLeft_le_stepFuel hl
  rw [stepMet, hn]
  exact beginStep_met (by rw [hcur, hk]) he hl (by omega)

/-- Settles O47, by the step that a met step leads to and the test of each condition. -/
theorem dwellMetAdvances : Obligations.DwellMetAdvances := by
  intro s length follows begun faulted fails empty
  have hempty : s.allEmpty = true ↔ empty := allEmpty_iff
  have hnext {i repeats : Nat} {x : Step} (h : follows i repeats x) :
      nextStep s = some (s.atStep i repeats) := nextStep_eq_some h.1
  have hbegun {i repeats : Nat} {x : Step} (h : follows i repeats x) :
      startStep (s.atStep i repeats) = begun i repeats x := startStep_eq (atStep_currentStep h.2)
  have starts {i repeats : Nat} {x : Step} (h : follows i repeats x) (hf : ¬fails x)
      (he : x.kind = .allEmpty → ¬empty) : stepMet s = begun i repeats x := by
    rw [← hbegun h]
    refine stepMet_starts (hnext h) h.2 (Bool.eq_false_iff.mpr fun hx => hf (cabinAtFails_iff.mp hx)) ?_
    rw [← Bool.not_eq_true, hempty]
    exact imp_iff_not_or.mp he
  refine ⟨fun h => ?_, fun hr hd => ?_, fun _ i repeats x h => ⟨starts h, fun hf => ?_,
    fun hk he hl => ?_⟩, ?_, fun x hx => ⟨fun hr hk he => ?_, fun h => ?_⟩⟩
  · refine congrArg _ (if_neg ?_)
    rcases h with h | h <;> simp [h]
  · have hexec : exec .dwellTimerExpiry s = .next (stepMet s) :=
      congrArg _ (if_pos ⟨hr, Option.isSome_iff_ne_none.mpr hd⟩)
    exact ⟨hexec, fun i repeats x h hf he => hexec.trans (congrArg _ (starts h hf he))⟩
  · rw [stepMet_fails (hnext h) h.2 (cabinAtFails_iff.mpr hf), hbegun h, endRun_eq]
    simp [faulted, begun, byte, EndStatus.code]
  · rw [← hbegun h]
    exact stepMet_again (hnext h) h.2 hk (hempty.mpr he) hl
  · intro diff v crossed summed waits met
    refine ⟨fun h => profileFeedback_untested h .., fun hr hb x hx => ?_⟩
    have hcur : (s.travelled diff).currentStep = x := currentStep_of_getElem? hx
    have judged {p : Prop} (hp : (s.travelled diff).feedbackMeets v crossed = true ↔ p) :
        (p → met) ∧ (¬p → waits) := profileFeedback_tested hr hb hp
    refine ⟨fun hk => judged (feedbackMeets_speed hcur hk ..), fun hk => judged ?_,
      fun hk => judged (feedbackMeets_revolution hcur hk ..), fun hs hc hr => ?_⟩
    · rw [feedbackMeets_cabinAt hcur hk]
      exact crossed_iff ..
    · exact (judged (p := False) (by simp [feedbackMeets_other hcur hs hc hr])).2 id
  · exact cabinChanged_met hr (by rw [currentStep_of_getElem? hx, hk]) (hempty.mpr he)
  · refine cabinChanged_unmet ?_
    rwa [currentStep_of_getElem? hx, ← Bool.not_eq_true s.allEmpty, hempty]

end Sys2Proof.Machine

/-! ## The ends of a run (R146, R148 to R153) -/

namespace Sys2Proof.Machine

set_option Elab.async false

variable {s : State} {k : Nat} {c : Cabin}

/-- A take-out of the cabin that the current step waits for ends the run (R146). -/
theorem cabinTakenOut_awaited (hr : s.run.running = true) (hk : s.currentStep.kind = .cabinAt)
    (hc : s.currentStep.param / 8 = k) : cabinTakenOut k s = endRun .fault s :=
  if_pos (by simp [hr, hk, hc])

/-- The whole take-out of a cabin that the current step waits for (R76, R146). -/
theorem cabinTakeOut_awaited (hc : s.cabins[k]? = some c) (he : c.state = .empty)
    (hr : s.run.running = true) (hk : s.currentStep.kind = .cabinAt)
    (hp : s.currentStep.param / 8 = k) : cabinTakeOut k s = some (retest (endRun .fault
      (s.withRecord k { c with state := .outOfService, inService := false } false))) := by
  rw [cabinTakeOut, if_pos (by rw [cabin_eq_of_getElem? hc, he]), modifyCabin_eq_withRecord hc]
  exact congrArg (fun t => some (retest t)) (cabinTakenOut_awaited hr hk hp)

theorem exec_profileStop (hs : s.ready) (tag : Byte) :
    exec (.profileStop tag) s = .next (placeReply 0x21 tag (serveProfileStop s)) :=
  arrive_of_ready hs .profileStop tag []

theorem exec_durationTimerExpiry_idle (h : s.run.running = false) :
    exec .durationTimerExpiry s = .next s :=
  congrArg _ (if_neg (by simp [h]))

/-- Settles O48: each end is the end of a run with its status. -/
theorem runEndsWhole : Obligations.RunEndsWhole := by
  intro s ended
  have hended (e : EndStatus) : ended e (byte e.code) = endRun e s := (endRun_eq e s).symm
  have hcomplete (hl : profileLength s.runSteps ≤ s.run.step + 1) (hr : s.run.repeats = 0) :
      stepMet s = ended .complete 16 := (stepMet_of_last hl hr).trans (hended .complete).symm
  refine ⟨fun hr hd hl hn => ?_, fun _ => hcomplete, fun hr hd => ?_, exec_durationTimerExpiry_idle,
    fun tag hs => ⟨fun hr => ?_, fun hr => ?_, ?_⟩⟩
  · rw [← hcomplete hl hn]
    exact congrArg _ (if_pos ⟨hr, Option.isSome_iff_ne_none.mpr hd⟩)
  · exact congrArg _ ((if_pos ⟨hr, Option.isSome_iff_ne_none.mpr hd⟩).trans (hended .timeout).symm)
  · have hserve : serveProfileStop s = served [] (endRun .aborted s) := if_pos hr
    rw [exec_profileStop hs, hserve, placeReply_served (by simp), ← hended]
    rfl
  · have hserve : serveProfileStop s = refusedWith .state s := if_neg (by simp [hr])
    rw [exec_profileStop hs, hserve, placeReply_refused]
    rfl
  · intro cabin count c x hr hx hk hp hn hc hempty
    have hcur : s.currentStep = x := currentStep_of_getElem? hx
    have htaken := cabinTakeOut_awaited hc hempty hr (by rw [hcur, hk]) (by rw [hcur, hp])
    have hget : (retest (endRun .fault (s.withRecord cabin.toNat
        { c with state := .outOfService, inService := false } false))).cabins[cabin.toNat]? =
          some { c with state := .outOfService, inService := false } := by
      simp [State.withRecord, List.getElem?_set_self (List.getElem?_eq_some_iff.mp hc).1]
    obtain ⟨-, -, hexec, -⟩ := exec_cabinSet hs tag cabin count
    obtain ⟨-, -, hserve, -⟩ := serveCabinSet_actions count hn
    rw [hserve, htaken, cabinSet_replied hget, endRun_eq] at hexec
    exact ⟨_, hexec, rfl, rfl, rfl⟩

end Sys2Proof.Machine

/-! ## PROFILE RUN (R140 to R142, R152) -/

namespace Sys2Proof.Machine

set_option Elab.async false

variable {s : State} {tag n r w : Byte} {x : Step}

/-! ### The tests of R140 -/

theorem hasStop_iff : s.hasStop = true ↔ ∃ e ∈ s.holds, e.cls = .stop := by
  simp [State.hasStop]

/-- A profile has no steps when step 0 is clear or no step carries the last-step mark (R137). -/
theorem profileLength_eq_zero_iff (steps : List Step) : profileLength steps = 0 ↔
    steps.head? = some ⟨0, 0, .clear, 0, 0, false⟩ ∨ ∀ x ∈ steps, x.last = false := by
  cases steps with
  | nil => simp [profileLength]
  | cons first rest =>
    simp only [profileLength, List.head?_cons, Option.some.injEq]
    split
    · next h => exact iff_of_true rfl (.inl h)
    · next h =>
      rw [or_iff_right (show ¬first = ⟨0, 0, .clear, 0, 0, false⟩ from h), ← List.findIdx?_eq_none_iff]
      cases List.findIdx? (fun t => t.last) (first :: rest) <;> simp

theorem runRefusal_range {n wait : Nat} (h : ¬(n ≤ 7 ∧ wait ≤ 1)) :
    s.runRefusal n wait = some .range :=
  if_pos (by omega)

/-- The tests after the range, in the order MODE, BUSY, STATE (R140). -/
theorem runRefusal_of_range {n wait : Nat} (h : n ≤ 7 ∧ wait ≤ 1) : s.runRefusal n wait =
    if s.modeRec.mode ≠ .service then some .mode
    else if s.run.running then some .busy
    else if s.hasStop ∨ profileLength (s.profileSteps n) = 0 then some .state
    else none :=
  if_neg (by omega)

/-! ### The request -/

theorem exec_profileRun (hs : s.ready) (tag n r w : Byte) : exec (.profileRun tag n r w) s =
    .next (placeReply 0x20 tag (serveProfileRun tag n r w s)) :=
  arrive_of_ready hs .profileRun tag [n, r, w]

theorem exec_profileRun_refused {st : Status} (hs : s.ready) (h : s.runRefusal n.toNat w.toNat = some st) :
    exec (.profileRun tag n r w) s = .next (s.queued [onePart 0x20 tag (byte st.code) []]) := by
  rw [exec_profileRun hs, serveProfileRun, h]
  exact congrArg _ (placeReply_refused ..)

/-- The frames that an accepted PROFILE RUN places at once: its reply, or none while the run is awaited
(R141). -/
def runReply (tag n w : Byte) : List Frame := if w = 0 then [onePart 0x20 tag 0 [n]] else []

theorem queued_nil (s : State) : s.queued [] = s := by
  rw [State.queued, List.append_nil]

/-- Step 0 of an accepted PROFILE RUN begins, and then the reply is placed (R141). -/
theorem exec_profileRun_accepted (hs : s.ready) (h : s.runRefusal n.toNat w.toNat = none)
    (hw : w = 0 ∨ w = 1) : exec (.profileRun tag n r w) s =
      .next ((beginStep (acceptRun tag n.toNat r.toNat w.toNat s).stepFuel
        (acceptRun tag n.toNat r.toNat w.toNat s)).queued (runReply tag n w)) := by
  rw [exec_profileRun hs, serveProfileRun, h]
  rcases hw with rfl | rfl
  · exact congrArg _ (placeReply_served (by simp))
  · exact congrArg _ (queued_nil _).symm

/-! ### Step 0 -/

theorem acceptRun_currentStep (hx : (s.profiles.getD n.toNat []).head? = some x) :
    (acceptRun tag n.toNat r.toNat w.toNat s).currentStep = x :=
  currentStep_of_getElem? (s := acceptRun tag n.toNat r.toNat w.toNat s)
    (List.head?_eq_getElem?.symm.trans hx)

theorem startStep_acceptRun (hw : w = 0 ∨ w = 1)
    (hx : (s.profiles.getD n.toNat []).head? = some x) :
    startStep (acceptRun tag n.toNat r.toNat w.toNat s) =
      { s with
        run := { s.run with
          running := true, profile := some n.toNat, step := 0, repeats := r.toNat
          stepStart := s.ms, travel := 0, ordersInStep := false
          durationTimer := some (s.ms + BitVec.ofNat 32 x.maxDuration)
          dwellTimer := if x.kind = .dwell then some (s.ms + BitVec.ofNat 32 x.param) else none
          begunNow := true }
        req := { s.req with source := .profile }
        waitTag := if w = 1 then some tag else s.waitTag } := by
  rw [startStep_eq (acceptRun_currentStep hx)]
  rcases hw with rfl | rfl <;> rfl

/-- An ALL_EMPTY step 0 on an empty rim is met as it begins (R142, R146). -/
theorem beginStep_acceptRun_met (hx : (s.profiles.getD n.toNat []).head? = some x)
    (hk : x.kind = .allEmpty) (he : s.allEmpty = true)
    (hl : (s.profiles.getD n.toNat []).length ≤ 16) :
    beginStep (acceptRun tag n.toNat r.toNat w.toNat s).stepFuel
        (acceptRun tag n.toNat r.toNat w.toNat s) =
      stepMet (startStep (acceptRun tag n.toNat r.toNat w.toNat s)) := by
  have hfuel : (acceptRun tag n.toNat r.toNat w.toNat s).stepsLeft ≤
      (acceptRun tag n.toNat r.toNat w.toNat s).stepFuel := stepsLeft_le_stepFuel hl
  exact beginStep_met (by rw [acceptRun_currentStep hx, hk]) he hl hfuel

/-! ### Frames placed before an end that makes no final reply -/

theorem endRun_queued (h : s.waitTag = none) (e : EndStatus) (fs : List Frame) :
    endRun e (s.queued fs) = (endRun e s).queued fs := by
  have hparts : s.finalParts (byte e.code) = [] := by simp only [State.finalParts, h]
  have hparts' : (s.queued fs).finalParts (byte e.code) = [] := hparts
  simp only [endRun_eq, hparts, hparts', List.append_nil]

theorem nextStep_queued (fs : List Frame) (s : State) :
    nextStep (s.queued fs) = (nextStep s).map fun t => t.queued fs := by
  have hsteps : (s.queued fs).runSteps = s.runSteps := rfl
  simp only [nextStep, hsteps]
  split
  · rfl
  · split <;> rfl

theorem nextStep_waitTag {t : State} (h : nextStep s = some t) : t.waitTag = s.waitTag := by
  unfold nextStep at h
  split at h
  · cases h
    rfl
  · split at h
    · cases h
      rfl
    · cases h

theorem beginStep_queued (h : s.waitTag = none) (fs : List Frame) (m : Nat) :
    beginStep m (s.queued fs) = (beginStep m s).queued fs := by
  induction m generalizing s with
  | zero => rfl
  | succ m ih =>
    have hstart : startStep (s.queued fs) = (startStep s).queued fs := rfl
    have hwait : (startStep s).waitTag = none := h
    have hfails (x : Step) (u : State) : (u.queued fs).cabinAtFails x = u.cabinAtFails x := rfl
    have hempty (u : State) : (u.queued fs).allEmpty = u.allEmpty := rfl
    have hstep (u : State) : (u.queued fs).currentStep = u.currentStep := rfl
    simp only [beginStep, hstart, hfails, hempty, hstep, nextStep_queued]
    split
    · exact endRun_queued hwait ..
    · split
      · cases hn : nextStep (startStep s) with
        | none => exact endRun_queued hwait ..
        | some u => exact ih ((nextStep_waitTag hn).trans hwait)
      · rfl

theorem stepMet_queued (h : s.waitTag = none) (fs : List Frame) :
    stepMet (s.queued fs) = (stepMet s).queued fs := by
  unfold stepMet
  rw [nextStep_queued]
  cases hn : nextStep s with
  | none => exact endRun_queued h ..
  | some u => exact beginStep_queued ((nextStep_waitTag hn).trans h) fs s.stepFuel

/-- The reply of an accepted PROFILE RUN may be placed before its step 0 is met: it is placed only while no
final reply is awaited (R141). -/
theorem stepMet_runReply {u : State} (h : w = 0 → u.waitTag = none) (hw : w = 0 ∨ w = 1) :
    (stepMet u).queued (runReply tag n w) = stepMet (u.queued (runReply tag n w)) := by
  rcases hw with rfl | rfl
  · exact (stepMet_queued (h rfl) _).symm
  · exact (queued_nil _).trans (congrArg stepMet (queued_nil _).symm)

/-- With no run there is no wait outstanding (R141, R153). -/
theorem RunInv.waitTag_eq_none (h : RunInv s) (hr : s.run.running = false) : s.waitTag = none := by
  obtain ⟨-, -, -, -, hwait⟩ := h
  refine Option.not_isSome_iff_eq_none.mp fun hw => ?_
  rw [hwait hw] at hr
  cases hr

/-- Settles O46, by the first test that fails and then by the kind of step 0. -/
theorem profileRunStarted : Obligations.ProfileRunStarted := by
  intro s tag n r w hs hi steps noSteps stop answered range
  have refused {st : Status} (h : s.runRefusal n.toNat w.toNat = some st) : answered (byte st.code) :=
    exec_profileRun_refused hs h
  have hlength : profileLength (s.profileSteps n.toNat) = 0 ↔ noSteps := profileLength_eq_zero_iff _
  have hstop : s.hasStop = true ↔ stop := hasStop_iff
  refine ⟨fun h => refused (runRefusal_range h), fun h hm => refused (st := .mode) ?_,
    fun h hm hr => refused (st := .busy) ?_, fun h hm hr ht => refused (st := .state) ?_,
    fun h hm hr ht hn x hx => ?_⟩
  · rw [runRefusal_of_range h, if_pos (by simp [hm])]
  · rw [runRefusal_of_range h, if_neg (by simp [hm]), if_pos hr]
  · rw [← hstop, ← hlength] at ht
    rw [runRefusal_of_range h, if_neg (by simp [hm]), if_neg (by simp [hr]), if_pos ht]
  · have hnone : s.runRefusal n.toNat w.toNat = none := by
      rw [runRefusal_of_range h, if_neg (by simp [hm]), if_neg (by simp [hr]),
        if_neg (by rw [hstop, hlength]; exact fun hx => hx.elim ht hn)]
    have hwait : s.waitTag = none := hi.waitTag_eq_none hr
    have hw : w = 0 ∨ w = 1 := by
      obtain ⟨-, hw⟩ := h
      have : w.toNat = 0 ∨ w.toNat = 1 := by omega
      exact this.imp BitVec.eq_of_toNat_eq BitVec.eq_of_toNat_eq
    have hcur : (acceptRun tag n.toNat r.toNat w.toNat s).currentStep = x := acceptRun_currentStep hx
    have hexec := exec_profileRun_accepted (tag := tag) (r := r) hs hnone hw
    refine ⟨fun hf => ?_, fun hf he => ?_, fun hk he hl => ?_⟩
    · rw [State.stepFuel, beginStep_fails (by rw [hcur]; exact cabinAtFails_iff.mpr hf),
        startStep_acceptRun hw hx, endRun_eq] at hexec
      refine ⟨_, hexec, rfl, rfl, rfl, rfl, rfl, ?_, rfl, rfl, rfl, rfl, ?_⟩
      · simp
      · rcases hw with rfl | rfl
        · simp [State.finalParts, runReply, hwait]
        · simp [State.finalParts, runReply, orNone1, byte, EndStatus.code]
    · rw [beginStep_starts (by rw [hcur]; exact Bool.eq_false_iff.mpr fun h => hf (cabinAtFails_iff.mp h))
        (by rw [hcur]; exact he), startStep_acceptRun hw hx] at hexec
      exact hexec
    · have htag : w = 0 → (startStep (acceptRun tag n.toNat r.toNat w.toNat s)).waitTag = none := by
        rintro rfl
        exact hwait
      rw [beginStep_acceptRun_met hx hk he hl, stepMet_runReply htag hw, startStep_acceptRun hw hx,
        if_neg (by rw [hk]; decide)] at hexec
      exact hexec

end Sys2Proof.Machine

/-! ## RESETN and the state right after reset (R165, R178) -/

namespace Sys2Proof.Machine

set_option Elab.async false

/-- A clear latched event set is sent as 0 (R185, 9.5). -/
theorem LatchedSet.bits_clear : LatchedSet.clear.bits = 0 := by decide

/-- Settles O3: RESETN is one assignment, which gives every field of the state its power-on value. -/
theorem resetnGivesPowerOnState : Obligations.ResetnGivesPowerOnState := fun s =>
  ⟨powerOn s, rfl, rfl, rfl, rfl, rfl, rfl, rfl, rfl, rfl, rfl, rfl, rfl, rfl, rfl, rfl, rfl, rfl,
    rfl, rfl, rfl, rfl, rfl, rfl, rfl, rfl, rfl, rfl, rfl, rfl, rfl, rfl, rfl, rfl,
    LatchedSet.bits_clear, rfl, rfl, rfl⟩

/-- The state right after reset is what RESETN makes of itself. -/
theorem powerOn_reset : powerOn State.reset = State.reset := rfl

/-- Settles O4: the state right after reset is a power-on state. -/
theorem resetMeetsInvariant : Obligations.ResetMeetsInvariant := by
  have h := powerOn_inv State.reset
  rwa [powerOn_reset] at h

end Sys2Proof.Machine

/-! ## Table elements and their bytes (R157 to R160, and the layouts of R49, R51, R77, R93, R111, R137, R177) -/

namespace Sys2Proof.Machine

set_option Elab.async false

variable {bs : List Byte}

/-! ### Elements that are laid out field by field -/

/-- The RIDE fields in order (R160). -/
def RideTable.fields (r : RideTable) : List Nat :=
  [r.n, r.pitch, r.maxSpeed, r.reverseLimit, r.creepSpeed, r.restrictCeiling, r.platformSpeed,
    r.doorSpeedLimit, r.accel, r.decel, r.holdDecel, r.period, r.staleTime, r.lossTime,
    r.feedbackTimeout, r.stillBand, r.stillTime, r.w, r.missLimit, r.lockMargin, r.statusPeriod]

/-- The ZONE fields in order (R51). -/
def ZoneTable.fields (z : ZoneTable) : List Nat :=
  [z.idStart, z.idEnd, z.aStart, z.bStart, z.bEnd, z.tagFloor, z.requiredReads]

/-- The WIND fields in order (R111). -/
def WindTable.fields (t : WindTable) : List Nat :=
  [t.meanShift, t.gustLength, t.watchMean, t.watchGust, t.restrictMean, t.restrictGust, t.holdMean,
    t.holdGust, t.meanHyst, t.gustHyst, t.entryPersistence, t.exitPersistence, t.minFresh]

theorem rideBytes_eq (r : RideTable) : rideBytes r = layFields rideWidths r.fields := rfl

theorem zoneBytes_eq (z : ZoneTable) : zoneBytes z = layFields zoneWidths z.fields := rfl

theorem windBytes_eq (t : WindTable) : windBytes t = layFields windWidths t.fields := rfl

/-- The RIDE element of some bytes is the table whose fields they hold, in range. -/
theorem rideOf_eq_some {r : RideTable} :
    rideOf bs = some r ↔ cutFields rideWidths bs = r.fields ∧ r.inRange = true := by
  unfold rideOf
  split
  · next hcut =>
    rw [hcut]
    simp only [Option.ite_none_right_eq_some, Option.some.injEq]
    constructor
    · rintro ⟨h, rfl⟩
      exact ⟨rfl, h⟩
    · rintro ⟨h, hr⟩
      cases r
      cases h
      exact ⟨hr, rfl⟩
  · next hne => exact ⟨nofun, fun h => (hne _ _ _ _ _ _ _ _ _ _ _ _ _ _ _ _ _ _ _ _ _ h.1).elim⟩

theorem zoneOf_eq_some {z : ZoneTable} :
    zoneOf bs = some z ↔ cutFields zoneWidths bs = z.fields ∧ z.inRange = true := by
  unfold zoneOf
  split
  · next hcut =>
    rw [hcut]
    simp only [Option.ite_none_right_eq_some, Option.some.injEq]
    constructor
    · rintro ⟨h, rfl⟩
      exact ⟨rfl, h⟩
    · rintro ⟨h, hr⟩
      cases z
      cases h
      exact ⟨hr, rfl⟩
  · next hne => exact ⟨nofun, fun h => (hne _ _ _ _ _ _ _ h.1).elim⟩

theorem windOf_eq_some {t : WindTable} :
    windOf bs = some t ↔ cutFields windWidths bs = t.fields ∧ t.inRange = true := by
  unfold windOf
  split
  · next hcut =>
    rw [hcut]
    simp only [Option.ite_none_right_eq_some, Option.some.injEq]
    constructor
    · rintro ⟨h, rfl⟩
      exact ⟨rfl, h⟩
    · rintro ⟨h, hr⟩
      cases t
      cases h
      exact ⟨hr, rfl⟩
  · next hne => exact ⟨nofun, fun h => (hne _ _ _ _ _ _ _ _ _ _ _ _ _ h.1).elim⟩

theorem rideOf_rideBytes {r : RideTable} (h : r.inRange = true) : rideOf (rideBytes r) = some r := by
  refine rideOf_eq_some.mpr ⟨cutFields_layFields _ _ rfl ?_, h⟩
  simp only [RideTable.inRange, within, Bool.and_eq_true, decide_eq_true_eq] at h
  simp only [rideWidths, List.zip_cons_cons, List.zip_nil_right, List.forall_mem_cons,
    List.not_mem_nil, false_imp_iff, implies_true, and_true, Nat.reducePow]
  omega

theorem zoneOf_zoneBytes {z : ZoneTable} (h : z.inRange = true) : zoneOf (zoneBytes z) = some z := by
  refine zoneOf_eq_some.mpr ⟨cutFields_layFields _ _ rfl ?_, h⟩
  simp only [ZoneTable.inRange, within, Bool.and_eq_true, decide_eq_true_eq] at h
  simp only [zoneWidths, List.zip_cons_cons, List.zip_nil_right, List.forall_mem_cons,
    List.not_mem_nil, false_imp_iff, implies_true, and_true, Nat.reducePow]
  omega

theorem windOf_windBytes {t : WindTable} (h : t.inRange = true) : windOf (windBytes t) = some t := by
  refine windOf_eq_some.mpr ⟨cutFields_layFields _ _ rfl ?_, h⟩
  simp only [WindTable.inRange, within, Bool.and_eq_true, decide_eq_true_eq] at h
  simp only [windWidths, List.zip_cons_cons, List.zip_nil_right, List.forall_mem_cons,
    List.not_mem_nil, false_imp_iff, implies_true, and_true, Nat.reducePow]
  omega

/-! ### Elements with coded fields -/

/-- A 0-or-1 field read as a flag is written as it was. -/
theorem mark_of_flag {m : Nat} (h : m ≤ 1) : (if (m == 1) = true then 1 else 0) = m := by
  interval_cases m <;> rfl

theorem code_of_stationKindOf {n : Nat} {k : StationKind} (h : stationKindOf n = some k) : k.code = n := by
  unfold stationKindOf at h
  split at h <;> cases h <;> rfl

theorem code_of_stepKindOf {n : Nat} {k : StepKind} (h : stepKindOf n = some k) : k.code = n := by
  unfold stepKindOf at h
  split at h <;> cases h <;> rfl

/-- An element laid out in the fields cut from some bytes has those bytes. -/
theorem layFields_of_cut {ws ns : List Nat} (h : cutFields ws bs = ns) (hl : bs.length = ws.sum) :
    layFields ws ns = bs := by
  rw [← h, layFields_cutFields ws bs hl]

theorem pollParamsBytes_of {p : PollParams} (hl : bs.length = 5) (h : pollParamsOf bs = some p) :
    pollParamsBytes p = bs := by
  unfold pollParamsOf at h
  split at h
  · next hcut =>
    simp only [Option.ite_none_right_eq_some, Option.some.injEq] at h
    obtain ⟨-, rfl⟩ := h
    exact layFields_of_cut hcut hl
  · cases h

theorem pollEntryBytes_of {e : PollEntry} (hl : bs.length = 3) (h : pollEntryOf bs = some e) :
    pollEntryBytes e = bs := by
  unfold pollEntryOf at h
  split at h
  · next hcut =>
    split at h
    · next hk =>
      simp only [Option.ite_none_right_eq_some, Option.some.injEq] at h
      obtain ⟨⟨-, hm, -⟩, rfl⟩ := h
      simp only [pollEntryBytes, mark_of_flag hm, code_of_stationKindOf hk]
      exact layFields_of_cut hcut hl
    · cases h
  · cases h

theorem passBytes_of {e : PassElement} (hl : bs.length = 4) (h : passOf bs = some e) :
    passBytes e = bs := by
  unfold passOf at h
  split at h
  · next hcut =>
    simp only [Option.ite_none_right_eq_some, Option.some.injEq] at h
    obtain ⟨⟨-, -, hm, hm', -⟩, rfl⟩ := h
    simp only [passBytes, mark_of_flag hm, mark_of_flag hm']
    exact layFields_of_cut hcut hl
  · cases h

/-- A MAST element stands in the record it configures, whether or not it changes it (R112). -/
theorem mastBytes_configured (m : Mast) (x : MastConfig) (f : Freshness) :
    mastBytes (m.configured x f) =
      layFields [1, 2, 1] [x.address, x.factor, if x.halves then 1 else 0] := by
  unfold Mast.configured
  split
  · next h =>
    obtain ⟨ha, hf, hh⟩ := h
    simp only [mastBytes, ha, hf, hh]
  · rfl

theorem mastBytes_of {x : MastConfig} (m : Mast) (f : Freshness) (hl : bs.length = 4)
    (h : mastOf bs = some x) : mastBytes (m.configured x f) = bs := by
  rw [mastBytes_configured]
  unfold mastOf at h
  split at h
  · next hcut =>
    simp only [Option.ite_none_right_eq_some, Option.some.injEq] at h
    obtain ⟨⟨-, -, -, hm⟩, rfl⟩ := h
    simp only [mark_of_flag hm]
    exact layFields_of_cut hcut hl
  · cases h

theorem cabinBytes_of {x : CabinConfig} (c : Cabin) (hl : bs.length = 10) (h : cabinOf bs = some x) :
    cabinBytes (c.loadFrom x) = bs := by
  have hdrop : (bs.drop 8).length = [1, 1].sum := by simp [hl]
  unfold cabinOf at h
  split at h
  · next capacity mark hcut =>
    simp only [Option.ite_none_right_eq_some, Option.some.injEq] at h
    obtain ⟨⟨-, -, hm⟩, rfl⟩ := h
    have hlay := layFields_of_cut hcut hdrop
    have hbytes : layFields [1, 1] [capacity, mark] = [byte capacity, flag (mark == 1)] := by
      simp only [layFields, beField, Nat.pow_zero, Nat.div_one, List.cons_append, List.nil_append]
      interval_cases mark <;> rfl
    calc cabinBytes (c.loadFrom { tag := bs.take 8, capacity := capacity, inService := mark == 1 })
        = bs.take 8 ++ [byte capacity, flag (mark == 1)] := rfl
      _ = bs.take 8 ++ bs.drop 8 := by rw [← hbytes, hlay]
      _ = bs := List.take_append_drop ..
  · cases h

/-- A 2-byte field read as two's complement is written as it was. -/
theorem signed2_asSigned16 {n : Nat} (h : n < 65536) : signed2 (asSigned16 n) = beField 2 n := by
  simp only [signed2, asSigned16, BitVec.ofInt_toInt, BitVec.toNat_ofNat, Nat.mod_eq_of_lt h]
  simp [be2, beField]

theorem stepBytes_of {x : Step} (hl : bs.length = 14) (h : stepOf bs = some x) : stepBytes x = bs := by
  unfold stepOf at h
  split at h
  · next target rate kind param maxDuration mark hcut =>
    have htarget : target < 65536 := by
      have hlt := natOf_lt (bs.take 2)
      have heq : natOf (bs.take 2) = target := (List.cons.inj hcut).1
      rwa [List.length_take, hl, heq] at hlt
    split at h
    · next k hk =>
      simp only at h
      have hx : mark ≤ 1 ∧ x = { target := asSigned16 target, rate := rate, kind := k, param := param,
                                 maxDuration := maxDuration, last := mark == 1 } := by
        split at h
        · next hc =>
          cases h
          exact ⟨by omega, rfl⟩
        · split at h <;> cases h
          next hc =>
          obtain ⟨-, -, -, -, -, -, -, -, hm⟩ := hc
          exact ⟨hm, rfl⟩
      obtain ⟨hm, rfl⟩ := hx
      simp only [stepBytes, signed2_asSigned16 htarget, mark_of_flag hm, code_of_stepKindOf hk]
      exact layFields_of_cut hcut hl
    · cases h
  · cases h

/-- Settles O52: the fields of every element are laid out and cut with the same widths. -/
theorem elementsRoundTrip : Obligations.ElementsRoundTrip :=
  ⟨fun _ h => ⟨layFields_length _ _ rfl, rideOf_rideBytes h⟩,
    fun _ h => ⟨layFields_length _ _ rfl, zoneOf_zoneBytes h⟩,
    fun _ h => ⟨layFields_length _ _ rfl, windOf_windBytes h⟩,
    fun _ _ hl h => layFields_of_cut (rideOf_eq_some.mp h).1 hl,
    fun _ _ hl h => layFields_of_cut (zoneOf_eq_some.mp h).1 hl,
    fun _ _ hl h => layFields_of_cut (windOf_eq_some.mp h).1 hl,
    fun _ _ => pollParamsBytes_of, fun _ _ => pollEntryBytes_of, fun _ _ => passBytes_of,
    fun _ _ => stepBytes_of, fun _ _ m f => mastBytes_of m f, fun _ _ c => cabinBytes_of c⟩

end Sys2Proof.Machine

/-! ## MODE SET (R161 to R164) -/

namespace Sys2Proof.Machine

set_option Elab.async false

variable {s : State}

/-! ### The commit checks as the rules state them (R162) -/

theorem within_iff {lo n hi : Nat} : within lo n hi = true ↔ lo ≤ n ∧ n ≤ hi := by
  simp only [within, Bool.and_eq_true, decide_eq_true_eq]

theorem zoneCheck_iff {z : ZoneTable} {r : RideTable} : zoneCheck z r = true ↔
    z.idStart < z.idEnd ∧ z.idEnd ≤ z.aStart ∧ z.aStart < z.bStart ∧ z.bStart < z.bEnd ∧
      z.bEnd ≤ r.n * r.pitch ∧ z.idEnd ≤ z.idStart + r.pitch ∧ z.bStart ≤ z.aStart + r.pitch ∧
      z.bEnd ≤ z.bStart + r.pitch := by
  simp only [zoneCheck, Bool.and_eq_true, decide_eq_true_eq]
  simp only [RideTable.circumference]
  omega

theorem allDifferent_iff {l : List Nat} : allDifferent l = true ↔ l.Nodup := by
  induction l with
  | nil => simp [allDifferent]
  | cons x xs ih => simp [allDifferent, ih]

theorem pollCheck_iff {walked : List PollEntry} {masts : List Mast} {minFresh : Nat} :
    pollCheck walked masts minFresh = true ↔
      let set := walked.filter fun e => e.kind != .unset
      let one (k : StationKind) : Prop := (set.filter fun e => e.kind == k).length = 1
      let addresses := (masts.filter fun m => m.address != 0).map fun m => m.address
      walked ≠ [] ∧ one .alight ∧ one .board ∧ one .tagReader ∧ (set.map fun e => e.address).Nodup ∧
        addresses.Nodup ∧ (∀ a ∈ addresses, ∃ e ∈ walked, e.kind = .mast ∧ e.address = a) ∧
        minFresh ≤ addresses.length := by
  have hmast (a : Nat) : ((setEntries walked).any fun e => e.kind == .mast && e.address == a) = true ↔
      ∃ e ∈ walked, e.kind = .mast ∧ e.address = a := by
    simp only [setEntries, List.any_eq_true, List.mem_filter, Bool.and_eq_true, beq_iff_eq,
      bne_iff_ne]
    constructor
    · rintro ⟨e, ⟨he, -⟩, hk⟩
      exact ⟨e, he, hk⟩
    · rintro ⟨e, he, hk, ha⟩
      exact ⟨e, ⟨he, by rw [hk]; decide⟩, hk, ha⟩
  simp only [pollCheck, Bool.and_eq_true, Bool.not_eq_true', List.isEmpty_eq_false_iff, beq_iff_eq,
    allDifferent_iff, List.all_eq_true, hmast, decide_eq_true_eq, and_assoc]
  rfl

theorem profileCheck_iff {steps : List Step} : profileCheck steps = true ↔
    ∀ x ∈ steps.take (profileLength steps),
      (x.kind = .speed ∨ x.kind = .allEmpty ∨ x.kind = .revolution) ∧ x.param = 0 ∨
      x.kind = .dwell ∧ 1 ≤ x.param ∧ x.param ≤ 3600000 ∨
      x.kind = .cabinAt ∧ x.param / 8 ≤ 63 ∧ 1 ≤ x.param % 8 ∧ x.param % 8 ≤ 5 ∨
      x.kind = .windBelow ∧ x.param ≤ 3 := by
  simp only [profileCheck, List.all_eq_true]
  refine forall₂_congr fun x _ => ?_
  unfold Step.paramAllowed
  cases x.kind <;> simp [within_iff]

/-- The number of the first check that fails (R161), with `c k` for check `k`. -/
theorem firstFailure_spec {c : Nat → Prop} {i : Nat} {l : List Bool}
    (h : ∀ (j : Nat) (b : Bool), l[j]? = some b → (c (i + j) ↔ b = true)) :
    ((∀ j < l.length, c (i + j)) → firstFailure i l = none) ∧
      ∀ j < l.length, (∀ m < j, c (i + m)) → ¬ c (i + j) → firstFailure i l = some (i + j) := by
  induction l generalizing i with
  | nil => exact ⟨fun _ => rfl, nofun⟩
  | cons b l ih =>
    have hb : c i ↔ b = true := h 0 b rfl
    have hshift (m : Nat) : i + 1 + m = i + (m + 1) := by omega
    obtain ⟨hnone, hsome⟩ := ih (i := i + 1) fun j b hj => by
      rw [hshift]
      exact h (j + 1) b hj
    constructor
    · intro hall
      rw [firstFailure, if_pos (hb.mp (hall 0 (by simp)))]
      exact hnone fun j hj => hshift j ▸ hall (j + 1) (by simpa using hj)
    · intro j hj hlt hf
      cases j with
      | zero => exact if_neg fun hx => hf (hb.mpr hx)
      | succ j =>
        rw [firstFailure, if_pos (hb.mp (hlt 0 (by omega))), ← hshift j]
        refine hsome j (by simpa using hj) (fun m hm => ?_) (by rwa [hshift])
        rw [hshift]
        exact hlt (m + 1) (by omega)

/-! ### The request -/

theorem exec_modeSetService (h : s.ready) (tag : Byte) :
    exec (.modeSetService tag) s = .next (placeReply 0x02 tag (serveModeService s)) :=
  arrive_of_ready h .modeSet tag [2]

theorem exec_modeSetSetup (h : s.ready) (tag : Byte) :
    exec (.modeSetSetup tag) s = .next (placeReply 0x02 tag (serveModeSetup s)) :=
  arrive_of_ready h .modeSet tag [1]

/-- MODE SET(SERVICE) in SETUP, by the first commit check that fails (R161 to R163). -/
theorem exec_modeSetService_of_failure (h : s.ready) (hm : s.modeRec.mode = .setup) (tag : Byte) :
    exec (.modeSetService tag) s = .next (match s.commitFailure with
      | some k => s.queued [onePart 0x02 tag 9 [byte k]]
      | none => (commit s).queued [onePart 0x02 tag 0 []]) := by
  rw [exec_modeSetService h, serveModeService, if_neg (by simp [hm])]
  cases s.commitFailure with
  | none => exact congrArg _ (placeReply_served (by simp))
  | some k => exact congrArg _ (placeReply_one_part (st := .invalid) (by simp))

/-- When the return to SETUP is accepted (R164). -/
theorem mayReturnToSetup_iff : s.mayReturnToSetup = true ↔ s.out.v = 0 ∧ s.still.flag = true ∧
    (∀ c ∈ s.cabins, c.state ≠ .alighting ∧ c.state ≠ .boarding) ∧ s.run.running = false := by
  have hocc : s.occupied = false ↔ ∀ c ∈ s.cabins, c.state ≠ .alighting ∧ c.state ≠ .boarding := by
    simp only [State.occupied, List.any_eq_false]
    refine forall₂_congr fun c _ => ?_
    cases c.state <;> simp [CabinState.onPlatform]
  simp only [State.mayReturnToSetup, Bool.and_eq_true, Bool.not_eq_true', decide_eq_true_eq, hocc,
    and_assoc]

/-- A mode change while no restart is pending leaves none pending. -/
theorem commit_of_ready (h : s.ready) : commit s = { s with
    modeRec := ⟨.service, true, false⟩
    req := { s.req with armed := false, ageBase := s.ms, stale := false }
    expiries := ⟨true, true⟩ } := by
  obtain ⟨-, hpending, -⟩ := h
  simp only [commit, hpending]

theorem returnToSetup_of_ready (h : s.ready) : returnToSetup s = { s with
    modeRec := ⟨.setup, s.modeRec.checked, false⟩
    req := { s.req with stale := false }
    expiries := ⟨false, false⟩ } := by
  obtain ⟨-, hpending, -⟩ := h
  simp only [returnToSetup, hpending]

/-- Settles O49: the eleven checks are those of the rules one by one, and the first that fails is the one
the request is answered with. -/
theorem modeSetJudged : Obligations.ModeSetJudged := by
  intro s tag hr z r t set one masts check run ok
  have hchecks : ∀ (j : Nat) (b : Bool), s.commitChecks[j]? = some b → (check (1 + j) ↔ b = true) := by
    intro j b hj
    have hlen : j < 11 := (List.getElem?_eq_some_iff.mp hj).1
    interval_cases j <;> cases hj
    · exact within_iff.symm
    · exact within_iff.symm
    · exact zoneCheck_iff.symm
    · simp only [Bool.and_eq_true, decide_eq_true_eq]
      rfl
    · simp only [decide_eq_true_eq]
      rfl
    · simp only [Bool.and_eq_true, decide_eq_true_eq]
      rfl
    · simp only [decide_eq_true_eq]
      rfl
    · simp only [Bool.and_eq_true, decide_eq_true_eq, and_assoc]
      rfl
    · exact pollCheck_iff.symm
    · simp only [List.all_eq_true, profileCheck_iff]
      rfl
    · rfl
  have hstill : ∀ (j : Nat) (b : Bool), [s.still.flag][j]? = some b → (check (11 + j) ↔ b = true) := by
    intro j b hj
    have hlen : j < 1 := (List.getElem?_eq_some_iff.mp hj).1
    interval_cases j
    cases hj
    rfl
  have hnone : (∀ k ∈ run, check k) → s.commitFailure = none := by
    intro hall
    unfold State.commitFailure
    by_cases hc : s.modeRec.checked = true
    · simp only [run, if_pos hc, List.mem_singleton, forall_eq] at hall
      rw [if_pos hc]
      refine (firstFailure_spec hstill).1 fun j hj => ?_
      obtain rfl : j = 0 := by simpa using hj
      exact hall
    · simp only [run, if_neg hc] at hall
      rw [if_neg hc]
      refine (firstFailure_spec hchecks).1 fun j (hj : j < 11) => hall _ ?_
      simp only [List.mem_cons, List.not_mem_nil, or_false]
      omega
  have hsome : ∀ k ∈ run, (∀ j ∈ run, j < k → check j) → ¬ check k → s.commitFailure = some k := by
    intro k hk hlt hf
    unfold State.commitFailure
    by_cases hc : s.modeRec.checked = true
    · simp only [run, if_pos hc, List.mem_singleton] at hk
      subst hk
      rw [if_pos hc]
      exact (firstFailure_spec hstill).2 0 Nat.one_pos nofun hf
    · have hrun (k : Nat) : k ∈ run ↔ 1 ≤ k ∧ k ≤ 11 := by
        simp only [run, if_neg hc, List.mem_cons, List.not_mem_nil, or_false]
        omega
      rw [if_neg hc]
      obtain ⟨hk1, hk11⟩ := (hrun k).mp hk
      obtain ⟨j, rfl⟩ := Nat.exists_eq_add_of_le hk1
      refine (firstFailure_spec hchecks).2 j (show j < 11 by omega) (fun m hm => ?_) hf
      exact hlt _ ((hrun _).mpr (by omega)) (by omega)
  refine ⟨fun hm => ?_, fun hm => ?_, fun hm k hk hlt hf => ?_, fun hm hall => ?_, fun hm => ⟨?_, ?_⟩⟩
  · rw [exec_modeSetService hr, serveModeService, if_pos hm]
    exact congrArg _ (placeReply_served (by simp))
  · rw [exec_modeSetSetup hr, serveModeSetup, if_pos hm]
    exact congrArg _ (placeReply_served (by simp))
  · rw [exec_modeSetService_of_failure hr hm, hsome k hk hlt hf]
  · rw [exec_modeSetService_of_failure hr hm, hnone hall, commit_of_ready hr]
  · intro hmay
    rw [exec_modeSetSetup hr, serveModeSetup, if_neg (by simp [hm]),
      if_pos (mayReturnToSetup_iff.mpr hmay), returnToSetup_of_ready hr]
    exact congrArg _ (placeReply_served (by simp))
  · intro hmay
    rw [exec_modeSetSetup hr, serveModeSetup, if_neg (by simp [hm]),
      if_neg fun hx => hmay (mayReturnToSetup_iff.mp hx)]
    exact congrArg _ (placeReply_refused ..)

end Sys2Proof.Machine

/-! ## What the records of cabins and masts hold of the tables (R49, R93, R157)

The CABIN and MAST tables are kept in the records themselves (log entry 12).  What a record holds of its
table element is left by every operation but a table write. -/

namespace Sys2Proof.Machine

set_option Elab.async false

variable (s : State)

/-! ### Records -/

/-- What a cabin record holds of its CABIN element, but for the in-service mark (R49). -/
def Cabin.element (c : Cabin) : List Byte × Nat := (c.tag, c.capacity)

/-- What a mast record holds of its MAST element (R93). -/
def Mast.element (m : Mast) : Nat × Nat × Bool := (m.address, m.factor, m.halves)

theorem map_map_of_same {α β : Type} {g : α → β} {f : α → α} (h : ∀ x, g (f x) = g x) (l : List α) :
    (l.map f).map g = l.map g := by
  simp only [List.map_map, Function.comp_def, h]

theorem map_modify_of_same {α β : Type} {g : α → β} {f : α → α} (h : ∀ x, g (f x) = g x) (k : Nat)
    (l : List α) : (l.modify k f).map g = l.map g := by
  induction l generalizing k with
  | nil => simp
  | cons x l ih => cases k <;> simp [h, ih]

namespace Cabin

@[simp] theorem element_withCount (c : Cabin) (n : Nat) : (c.withCount n).element = c.element := rfl

@[simp] theorem element_converted (ms : Word32) (c : Cabin) : (c.converted ms).element = c.element := by
  unfold converted
  split <;> rfl

@[simp] theorem element_windowClosed (c : Cabin) (o : IdOutcome) :
    (c.windowClosed o).element = c.element := by
  unfold windowClosed
  split <;> rfl

@[simp] theorem element_leaveAlightZone (c : Cabin) (bar : Bool) (ms : Word32) :
    (c.leaveAlightZone bar ms).element = c.element := by
  unfold leaveAlightZone
  split <;> rfl

@[simp] theorem element_leaveBoardZone (c : Cabin) (ms : Word32) :
    (c.leaveBoardZone ms).element = c.element := by
  unfold leaveBoardZone
  simp only
  split <;> rfl

end Cabin

namespace Mast

@[simp] theorem element_sampled (m : Mast) (t : WindTable) (a : MastAnswer) :
    (m.sampled t a).element = m.element := by
  unfold sampled
  simp only
  split <;> rfl

@[simp] theorem element_withFreshness (m : Mast) (f : Freshness) :
    (m.withFreshness f).element = m.element := by
  unfold withFreshness
  split
  · rfl
  · split <;> rfl

end Mast

/-! ### Cabin records through the operations of the blocks -/

theorem modifyCabin_elements (k : Nat) {f : Cabin → Cabin}
    (h : ∀ c, (f c).element = c.element := by intro c; rfl) :
    (modifyCabin k f s).cabins.map Cabin.element = s.cabins.map Cabin.element :=
  map_modify_of_same h k s.cabins

@[simp] theorem barBoarding_elements :
    (barBoarding s).cabins.map Cabin.element = s.cabins.map Cabin.element :=
  map_map_of_same (fun c => by split <;> rfl) s.cabins

@[simp] theorem causeReport_elements (src : HoldSource) (n : Nat) (cls : HoldClass) (sub : Option Nat) :
    (causeReport src n cls sub s).cabins.map Cabin.element = s.cabins.map Cabin.element := by
  unfold causeReport addEntry
  split
  · simp only [stopEffectsIf_frame]
    split
    · exact barBoarding_elements _
    · rfl
  · simp only [stopEffectsIf_frame, putEntry_frame]

@[simp] theorem doorCause_elements (cause k : Nat) :
    (doorCause cause k s).cabins.map Cabin.element = s.cabins.map Cabin.element :=
  causeReport_elements ..

@[simp] theorem platformCause_elements (cause : Nat) (p : Station) :
    (platformCause cause p s).cabins.map Cabin.element = s.cabins.map Cabin.element :=
  causeReport_elements ..

@[simp] theorem convert_elements :
    (convert s).cabins.map Cabin.element = s.cabins.map Cabin.element := by
  have h : (s.cabins.map (Cabin.converted s.ms)).map Cabin.element = s.cabins.map Cabin.element :=
    map_map_of_same (Cabin.element_converted s.ms) s.cabins
  rw [convert_eq_offPlatform]
  split
  · simp only [cabinChanged_frame]
    exact h
  · exact h

@[simp] theorem stationStale_elements (p : Station) :
    (stationStale p s).cabins.map Cabin.element = s.cabins.map Cabin.element := by
  unfold stationStale
  split <;> simp only [doorCause_elements, platformCause_elements]

@[simp] theorem stationFreshness_elements (p : Station) (f : Freshness) :
    (stationFreshness p f s).cabins.map Cabin.element = s.cabins.map Cabin.element := by
  have hbar (u : State) (c : Prop) [Decidable c] : (if c then barBoarding u else u).cabins.map
      Cabin.element = u.cabins.map Cabin.element := by
    split
    · exact barBoarding_elements u
    · rfl
  unfold stationFreshness
  split
  · rfl
  · simp only [retest_frame]
    split
    · simp only [stationStale_elements, hbar, writeStation_frame]
    · simp only [hbar, writeStation_frame]

@[simp] theorem takeStationAnswer_elements (p : Station) (a : StationAnswer) :
    (takeStationAnswer p a s).cabins.map Cabin.element = s.cabins.map Cabin.element := by
  have answer (k : Nat) : (applyAnswer a k s).cabins.map Cabin.element = s.cabins.map Cabin.element := by
    unfold applyAnswer
    simp only
    split
    · rw [doorCause_elements]
      exact modifyCabin_elements s k
    · exact modifyCabin_elements s k
  have button (u : State) :
      (takeButton p a.pressed u).cabins.map Cabin.element = u.cabins.map Cabin.element := by
    unfold takeButton
    simp only
    split <;> simp
  simp only [takeStationAnswer, retest_frame, button]
  split
  · exact answer _
  · rfl

@[simp] theorem setTracker_elements (x : Tracker) :
    (setTracker x s).cabins.map Cabin.element = s.cabins.map Cabin.element := by
  unfold setTracker reportTracker
  split
  · rfl
  · split <;> simp

@[simp] theorem trackFeedback_elements (b : Bool) (f : FeedbackFields) :
    (trackFeedback b f s).cabins.map Cabin.element = s.cabins.map Cabin.element := by
  simp [trackFeedback]

@[simp] theorem searchRead_elements (j : Nat) :
    (searchRead j s).cabins.map Cabin.element = s.cabins.map Cabin.element := by
  unfold searchRead
  split <;> simp

@[simp] theorem takeOutcome_elements (o : IdOutcome) :
    (takeOutcome o s).cabins.map Cabin.element = s.cabins.map Cabin.element := by
  unfold takeOutcome
  split
  · simp
  · split
    · rfl
    · rfl
    · split <;> simp
  · rfl

@[simp] theorem passEnd_elements (k : Nat) :
    (passEnd k s).cabins.map Cabin.element = s.cabins.map Cabin.element := by
  have h := modifyCabin_elements s k (fun c => Cabin.element_leaveBoardZone c s.ms)
  unfold passEnd
  simp only
  split <;> simpa using h

@[simp] theorem takeCrossing_elements (k : Nat) (p : Point) :
    (takeCrossing k p s).cabins.map Cabin.element = s.cabins.map Cabin.element := by
  cases p with
  | idStart =>
    simp only [takeCrossing, openWindow]
    split
    · exact modifyCabin_elements s k
    · rfl
  | idEnd =>
    simp only [takeCrossing, closeWindow]
    split
    · simp only [takeOutcome_elements, latchIf_frame]
      exact modifyCabin_elements s k (fun c => c.element_windowClosed _)
    · rfl
  | aStart =>
    simp only [takeCrossing, crossAStart]
    split
    · simpa using modifyCabin_elements s k
    · rfl
  | bStart =>
    simp only [takeCrossing, crossBStart]
    split
    · simpa using modifyCabin_elements s k (fun c => c.element_leaveAlightZone s.entryBar s.ms)
    · rfl
  | lock =>
    simp only [takeCrossing, crossLock]
    split
    · exact doorCause_elements ..
    · rfl
  | bEnd =>
    have h := modifyCabin_elements (f := fun c => { c with withheld := none }) s k
    simp only [takeCrossing, crossBEnd]
    split
    · rw [passEnd_elements, h]
    · exact h

@[simp] theorem takeCrossings_elements (xs : List (Nat × Point)) :
    (takeCrossings xs s).cabins.map Cabin.element = s.cabins.map Cabin.element := by
  induction xs generalizing s with
  | nil => rfl
  | cons x xs ih =>
    simp only [takeCrossings]
    split
    · rw [ih, takeCrossing_elements]
    · exact takeCrossing_elements ..

@[simp] theorem boardFeedback_elements (b : Tracker) :
    (boardFeedback b s).cabins.map Cabin.element = s.cabins.map Cabin.element := by
  unfold boardFeedback
  split
  · rfl
  · split <;> simp

@[simp] theorem takeTagAnswer_elements (a : TagAnswer) :
    (takeTagAnswer a s).cabins.map Cabin.element = s.cabins.map Cabin.element := by
  have offer (j : Nat) : (offerRead j s).cabins.map Cabin.element = s.cabins.map Cabin.element := by
    unfold offerRead
    split
    · split
      · rfl
      · exact modifyCabin_elements s _
    · rfl
  unfold takeTagAnswer
  split
  · split
    · simp
    · split
      · exact searchRead_elements ..
      · exact offer _
      · exact offer _
      · rfl
  · rfl

@[simp] theorem feedbackTurns_elements (f : FeedbackFields) :
    (feedbackTurns f s).cabins.map Cabin.element = s.cabins.map Cabin.element := by
  have drive (u : State) : (reportDrive u).cabins.map Cabin.element = u.cabins.map Cabin.element := by
    unfold reportDrive
    split <;> simp
  simp [feedbackTurns, gateFeedback, drive]

@[simp] theorem feedbackSilent_elements :
    (feedbackSilent s).cabins.map Cabin.element = s.cabins.map Cabin.element := by
  simp [feedbackSilent]

@[simp] theorem finishCycle_elements :
    (finishCycle s).cabins.map Cabin.element = s.cabins.map Cabin.element := by
  have wind (u : State) : (reportWind u).cabins.map Cabin.element = u.cabins.map Cabin.element := by
    unfold reportWind
    split <;> simp
  have masts (u : State) : (reportMasts u).cabins.map Cabin.element = u.cabins.map Cabin.element := by
    unfold reportMasts
    split
    · simp
    · split <;> simp
  simp [finishCycle, windCycleEnd, wind, masts]

@[simp] theorem startCycle_elements :
    (startCycle s).cabins.map Cabin.element = s.cabins.map Cabin.element := by
  unfold startCycle
  split
  · rfl
  · split <;> simp

@[simp] theorem moveOn_elements (i : Nat) :
    (moveOn i s).cabins.map Cabin.element = s.cabins.map Cabin.element := by
  unfold moveOn endCycle
  split
  · rfl
  · simp only
    split <;> simp

@[simp] theorem recordResult_elements (i : Nat) (r : PollResult) :
    (recordResult i r s).cabins.map Cabin.element = s.cabins.map Cabin.element ∧
    (recordResult i r s).masts.map Mast.element = s.masts.map Mast.element := by
  have report (f : Freshness) (u : State) :
      (reportFreshness i f u).cabins.map Cabin.element = u.cabins.map Cabin.element ∧
      (reportFreshness i f u).masts.map Mast.element = u.masts.map Mast.element := by
    unfold reportFreshness
    split
    · refine ⟨by simp, map_map_of_same (fun m => ?_) u.masts⟩
      split
      · exact m.element_withFreshness f
      · rfl
    · split <;> simp
    · split <;> simp
    · exact ⟨rfl, rfl⟩
    · exact ⟨rfl, rfl⟩
  unfold recordResult
  simp only
  split
  · exact ⟨rfl, rfl⟩
  · exact report ..

@[simp] theorem overrun_elements (i : Nat) :
    (overrun i s).cabins.map Cabin.element = s.cabins.map Cabin.element ∧
    (overrun i s).masts.map Mast.element = s.masts.map Mast.element := by
  simp [overrun]

@[simp] theorem fieldFrame_elements (raw : RawFrame) :
    (fieldFrame raw s).cabins.map Cabin.element = s.cabins.map Cabin.element ∧
    (fieldFrame raw s).masts.map Mast.element = s.masts.map Mast.element := by
  have hand (i : Nat) (c : AnswerContent) (u : State) :
      (handContent i c u).cabins.map Cabin.element = u.cabins.map Cabin.element ∧
      (handContent i c u).masts.map Mast.element = u.masts.map Mast.element := by
    cases c with
    | mast a =>
      refine ⟨by simp [handContent], ?_⟩
      simp only [handContent, takeMastAnswer, latchIf_frame]
      refine map_map_of_same (fun m => ?_) u.masts
      split
      · exact m.element_sampled ..
      · rfl
    | station p a =>
      simp only [handContent]
      split <;> simp
    | tag a => simp [handContent]
  obtain ⟨i, -, h⟩ | ⟨-, h⟩ := fieldFrame_cases raw s <;> rw [h]
  · unfold settleFrame
    split
    · simp
    · split <;> simp [hand]
  · simp

end Sys2Proof.Machine

/-! ## The tables from SERVICE to SERVICE (R157, R167) -/

namespace Sys2Proof.Machine

set_option Elab.async false

variable {s t u : State}

/-- Every table alike, but for the in-service marks (R157). -/
structure SameTables (s t : State) : Prop where
  ride : t.ride = s.ride
  zone : t.zone = s.zone
  windTable : t.windTable = s.windTable
  pollParams : t.pollParams = s.pollParams
  pollEntries : t.pollEntries = s.pollEntries
  passList : t.passList = s.passList
  profiles : t.profiles = s.profiles
  masts : t.masts.map Mast.element = s.masts.map Mast.element
  cabins : t.cabins.map Cabin.element = s.cabins.map Cabin.element

/-- What an operation does to the tables: nothing, or something that only SETUP allows (R157). -/
def TablesKept (s t : State) : Prop :=
  SameTables s t ∨ s.modeRec.mode = .setup ∧ t.modeRec.mode = .setup

namespace SameTables

theorem refl (s : State) : SameTables s s := ⟨rfl, rfl, rfl, rfl, rfl, rfl, rfl, rfl, rfl⟩

theorem trans (h : SameTables s t) (k : SameTables t u) : SameTables s u :=
  ⟨k.ride.trans h.ride, k.zone.trans h.zone, k.windTable.trans h.windTable,
    k.pollParams.trans h.pollParams, k.pollEntries.trans h.pollEntries, k.passList.trans h.passList,
    k.profiles.trans h.profiles, k.masts.trans h.masts, k.cabins.trans h.cabins⟩

/-- An operation that leaves every table, by its frame. -/
theorem of_frame (hr : t.ride = s.ride := by simp) (hz : t.zone = s.zone := by simp)
    (hw : t.windTable = s.windTable := by simp) (hp : t.pollParams = s.pollParams := by simp)
    (he : t.pollEntries = s.pollEntries := by simp) (hl : t.passList = s.passList := by simp)
    (hf : t.profiles = s.profiles := by simp)
    (hm : t.masts.map Mast.element = s.masts.map Mast.element := by simp)
    (hc : t.cabins.map Cabin.element = s.cabins.map Cabin.element := by simp) : SameTables s t :=
  ⟨hr, hz, hw, hp, he, hl, hf, hm, hc⟩

/-- Fields of the state that are no table, written after it. -/
theorem keep {t' : State} (h : SameTables s t) (k : SameTables t t' := by exact SameTables.of_frame) :
    SameTables s t' := h.trans k

theorem ite {c : Prop} [Decidable c] {t' : State} (h : SameTables s t) (h' : SameTables s t') :
    SameTables s (if c then t else t') := by
  split
  · exact h
  · exact h'

theorem ite_served {c : Prop} [Decidable c] {x y : Served} (h : SameTables s x.2)
    (h' : SameTables s y.2) : SameTables s (if c then x else y).2 := by
  split
  · exact h
  · exact h'

/-! ### Requests that are no table write -/

theorem of_modifyCabin (k : Nat) {f : Cabin → Cabin}
    (h : ∀ c, (f c).element = c.element := by intro c; rfl) : SameTables s (modifyCabin k f s) :=
  of_frame (hc := modifyCabin_elements s k h)

theorem of_cabinChanged (h : SameTables s t) : SameTables s (cabinChanged t) := h.trans of_frame

theorem of_retest (h : SameTables s t) : SameTables s (retest t) := h.trans of_frame

theorem of_serveModeSet (code : Byte) : SameTables s (serveModeSet code s).2 := by
  have service : SameTables s (serveModeService s).2 := by
    refine ite_served (refl s) ?_
    split
    · exact refl s
    · exact of_frame rfl rfl rfl rfl rfl rfl rfl rfl rfl
  have setup : SameTables s (serveModeSetup s).2 :=
    ite_served (refl s) (ite_served (of_frame rfl rfl rfl rfl rfl rfl rfl rfl rfl) (refl s))
  exact ite_served service (ite_served setup (refl s))

theorem of_serveCabinSet (cabin action count : Byte) :
    SameTables s (serveCabinSet cabin action count s).2 := by
  have reply (k : Nat) {o : Option State} (ho : ∀ u, o = some u → SameTables s u) :
      SameTables s (cabinSetReply k s o).2 := by
    cases o with
    | none => exact refl s
    | some u => exact ho u rfl
  have confirm (k n : Nat) {f : Cabin → Cabin} (hf : ∀ c, (f c).element = c.element) :
      SameTables s (confirmCount k n f s) := by
    have record := of_modifyCabin (s := s) k (f := fun c =>
      let d := (f c).withCount n
      { d with state := confirmedState d.count }) hf
    exact of_retest (of_cabinChanged record.keep)
  refine ite_served (refl s) (ite_served ?_ (ite_served ?_ (ite_served ?_ (ite_served ?_ (refl s))))) <;>
    refine reply _ fun u hu => ?_
  · simp only [cabinVerify] at hu
    split at hu <;> cases hu
    exact confirm _ _ fun _ => rfl
  · simp only [cabinCorrect] at hu
    split at hu <;> cases hu
    exact confirm _ _ fun _ => rfl
  · simp only [cabinTakeOut] at hu
    split at hu <;> cases hu
    have record := of_modifyCabin (s := s) cabin.toNat
      (f := fun c => { c with state := .outOfService, inService := false })
    exact of_retest record.keep
  · simp only [cabinReturn] at hu
    split at hu <;> cases hu
    exact of_retest (of_cabinChanged (of_modifyCabin _))

theorem of_serveHoldRelease (code : Byte) : SameTables s (serveHoldRelease code s).2 := by
  have remove (src : HoldSource) : SameTables s (removeEntry src s) := of_frame
  unfold serveHoldRelease
  split
  · exact refl s
  · split
    · exact refl s
    · split
      · exact refl s
      · exact refl s
      · exact refl s
      · exact ite_served (of_retest of_frame) (refl s)
      · exact remove _
      · exact ite_served (refl s) (remove _)

theorem of_serveProfileRun (tag n r w : Byte) : SameTables s (serveProfileRun tag n r w s).2 := by
  unfold serveProfileRun
  split
  · exact refl s
  · have h : SameTables s (acceptRun tag n.toNat r.toNat w.toNat s) :=
      of_frame rfl rfl rfl rfl rfl rfl rfl rfl rfl
    exact h.keep

theorem of_serveHoldPlace (code : Byte) : SameTables s (serveHoldPlace code s).2 := by
  unfold serveHoldPlace
  split
  · exact refl s
  · exact (of_frame : SameTables s (causeReport .console 1 _ none s))

end SameTables

/-! ### Table writes -/

@[simp] theorem resource_modeRec (p : Station) (b : Option Nat × Option Nat) (s : State) :
    (resource p b s).modeRec = s.modeRec := (resource_frame p b s).1

/-- Storing the elements of a write leaves the mode record. -/
theorem storeElements_modeRec {id : TableId} {first : Nat} {es : List (List Byte)}
    (h : storeElements id first es s = some t) : t.modeRec = s.modeRec := by
  have ride (r : RideTable) : (storeRide r s).modeRec = s.modeRec := by
    unfold storeRide
    simp only
    split <;> simp
  have poll (p : Option PollParams) (xs : List PollEntry) :
      (storePoll first p xs s).modeRec = s.modeRec := by
    have cut (u : State) : (cutCycle u).modeRec = u.modeRec := by
      unfold cutCycle
      split
      · simp only
        split <;> simp
      · rfl
    simp [storePoll, cut, storeEntries]
  cases id <;> simp only [storeElements, Option.map_eq_some_iff] at h
  case ride => split at h <;> cases h; exact ride _
  case zone => split at h <;> cases h; rfl
  case wind => split at h <;> cases h; rfl
  all_goals obtain ⟨x, -, rfl⟩ := h
  case cabin => simp [storeCabins]
  case poll => exact poll ..
  all_goals rfl

namespace TablesKept

theorem of_serveTableWrite (id first : Byte) (data : List Byte) :
    TablesKept s (serveTableWrite id first data s).2 := by
  have same : TablesKept s s := .inl (.refl s)
  simp only [serveTableWrite, writeTable]
  split
  · exact same
  · next hm =>
    have hsetup : s.modeRec.mode = .setup := by simpa using hm
    repeat' split
    case h_2 hu =>
      refine .inr ⟨hsetup, ?_⟩
      rw [storeElements_modeRec hu]
      exact hsetup
    all_goals exact same

/-! ### Requests taken (R172, R180) -/

theorem of_serveKind (k : RequestKind) (tag : Byte) (args : List Byte) :
    TablesKept s (serveKind k tag args s).2 := by
  have same : SameTables s s := .refl s
  have none0 {f : State → Served} (hf : SameTables s (f s).2) : TablesKept s (serve0 f args s).2 := by
    unfold serve0; split
    · exact .inl hf
    · exact .inl same
  have one {f : Byte → State → Served} (hf : ∀ a, SameTables s (f a s).2) :
      TablesKept s (serve1 f args s).2 := by
    unfold serve1; split
    · exact .inl (hf _)
    · exact .inl same
  have two {f : Byte → Byte → State → Served} (hf : ∀ a b, SameTables s (f a b s).2) :
      TablesKept s (serve2 f args s).2 := by
    unfold serve2; split
    · exact .inl (hf ..)
    · exact .inl same
  have three {f : Byte → Byte → Byte → State → Served} (hf : ∀ a b c, SameTables s (f a b c s).2) :
      TablesKept s (serve3 f args s).2 := by
    unfold serve3; split
    · exact .inl (hf ..)
    · exact .inl same
  cases k with
  | statusRead => exact none0 (.of_frame rfl rfl rfl rfl rfl rfl rfl rfl rfl)
  | modeSet => exact one .of_serveModeSet
  | restart => exact none0 (.ite_served same (.of_frame rfl rfl rfl rfl rfl rfl rfl rfl rfl))
  | tableWrite =>
    simp only [serveKind, serveRest]
    split
    · exact of_serveTableWrite ..
    · exact .inl same
  | tableRead => exact three fun _ _ _ => same
  | cabinRead => exact two fun _ _ => .ite_served same same
  | cabinSet => exact three .of_serveCabinSet
  | holdPlace => exact one .of_serveHoldPlace
  | holdRelease => exact one .of_serveHoldRelease
  | holdList => exact none0 same
  | snapshotTake =>
    refine none0 ?_
    unfold serveSnapshotTake
    refine .ite_served same ?_
    split
    · exact same
    · exact .of_frame rfl rfl rfl rfl rfl rfl rfl rfl rfl
  | profileRun => exact three (.of_serveProfileRun tag)
  | profileStop => exact none0 (.ite_served (.of_frame : SameTables s (endRun .aborted s)) same)
  | profileStatus => exact none0 same
  | windRead => exact none0 same
  | traceTake =>
    exact one fun _ => .ite_served same (.ite_served same (.of_frame rfl rfl rfl rfl rfl rfl rfl rfl rfl))
  | pollNow =>
    refine none0 (.ite (.of_frame rfl rfl rfl rfl rfl rfl rfl rfl rfl) ?_)
    exact (.of_frame : SameTables s (startCycle s))
  | pollResults => exact none0 same

theorem of_takeRequest (r : Request) : TablesKept s (takeRequest r s) := by
  have served : TablesKept s (serveRequest r s).2 := by
    unfold serveRequest
    split
    · exact .inl (.refl s)
    · exact of_serveKind ..
  unfold takeRequest placeReply
  split
  · refine served.imp (fun h => h.trans .of_frame) fun ⟨hs, ht⟩ => ⟨hs, ?_⟩
    simpa using ht
  · exact served

theorem same_of_service (h : TablesKept s t) (hm : s.modeRec.mode = .service ∨ t.modeRec.mode = .service) :
    SameTables s t := by
  refine h.resolve_right ?_
  rintro ⟨hs, ht⟩
  rcases hm with hm | hm
  · rw [hs] at hm; cases hm
  · rw [ht] at hm; cases hm

end TablesKept

/-! ### Events -/

namespace SameTables

/-- At most two requests are taken in one event, and between the modes at its ends there is no place for a
table write: it needs SETUP before it and leaves SETUP behind it. -/
theorem of_takeRequests {n : Nat} (hn : n ≤ 2) (hs : s.modeRec.mode = .service)
    (ht : (takeRequests n s).modeRec.mode = .service) : SameTables s (takeRequests n s) := by
  have step (m : Nat) (u : State) : takeRequests (m + 1) u = u ∨
      ∃ r rest, takeRequests (m + 1) u = takeRequests m (takeRequest r { u with requests := rest }) := by
    rw [takeRequests]
    split
    · exact .inl rfl
    · split
      · exact .inr ⟨_, _, rfl⟩
      · exact .inl rfl
  have buffer (u : State) (rs : List Request) : SameTables u { u with requests := rs } :=
    of_frame rfl rfl rfl rfl rfl rfl rfl rfl rfl
  match n, hn with
  | 0, _ => exact refl s
  | 1, _ =>
    obtain h | ⟨r, rest, h⟩ := step 0 s <;> rw [h]
    · exact refl s
    · exact (buffer s rest).trans ((TablesKept.of_takeRequest r).same_of_service (.inl hs))
  | 2, _ =>
    obtain h | ⟨r, rest, h⟩ := step 1 s <;> rw [h] at ht ⊢
    · exact refl s
    · refine ((buffer s rest).trans ((TablesKept.of_takeRequest r).same_of_service (.inl hs))).trans ?_
      obtain h | ⟨r', rest', h⟩ := step 0 (takeRequest r { s with requests := rest }) <;> rw [h] at ht ⊢
      · exact refl _
      · exact (buffer _ rest').trans ((TablesKept.of_takeRequest r').same_of_service (.inr ht))

theorem of_receiveRequest (r : Request) (hs : s.modeRec.mode = .service)
    (ht : (receiveRequest r s).modeRec.mode = .service) : SameTables s (receiveRequest r s) := by
  unfold receiveRequest at ht ⊢
  split
  · next hlen =>
    rw [if_pos hlen] at ht
    refine .trans (t := { s with requests := s.requests ++ [r] })
      (of_frame rfl rfl rfl rfl rfl rfl rfl rfl rfl) (of_takeRequests ?_ hs ht)
    simp only [List.length_append, List.length_singleton]
    omega
  · exact of_frame

theorem of_takeFeedback (f : FeedbackFields) : SameTables s (takeFeedback f s) :=
  (of_frame : SameTables s (feedbackTurns f s)).trans
    (of_frame : SameTables _ (forwardFeedback f s.consoleQueue.length (feedbackTurns f s)))

theorem of_takeAux (line : Line) (f : Frame) : SameTables s (takeAux line f s) := by
  unfold takeAux queueAux
  refine ite ?_ of_frame
  split
  · exact ite (of_frame rfl rfl rfl rfl rfl rfl rfl rfl rfl) of_frame
  · exact of_frame

/-- A received frame, which may be a request. -/
theorem of_receiveFrame (line : Line) (raw : RawFrame) (hs : s.modeRec.mode = .service)
    (ht : (receiveFrame line raw s).modeRec.mode = .service) :
    SameTables s (receiveFrame line raw s) := by
  unfold receiveFrame at ht ⊢
  split at ht
  · exact of_frame
  · split at ht
    · exact of_frame
    · next d _ =>
      cases d with
      | setpoint v => exact (of_frame : SameTables s (takeSetpoint v s))
      | feedback f => exact of_takeFeedback f
      | request r => exact of_receiveRequest r hs ht
      | aux f => exact of_takeAux line f

/-- A command taken with no restart pending, from SERVICE to SERVICE: a reset ends in SETUP, and every
command but a request leaves the tables whatever the mode. -/
theorem of_exec {c : Instr} (hq : s.requests.length ≤ 2) (hp : s.modeRec.restartPending = false)
    (he : exec c s = .next t) (hs : s.modeRec.mode = .service) (ht : t.modeRec.mode = .service) :
    SameTables s t := by
  have same : SameTables s s := .refl s
  cases c with
  | resetn => cases he; cases ht
  | setpoint v => cases he; exact of_frame
  | feedback f => cases he; exact of_takeFeedback f
  | auxFrame l kind payload => cases he; exact of_takeAux ..
  | discardedFrame l raw => cases he; exact of_receiveFrame l raw hs ht
  | answer raw => cases he; exact of_frame
  | lateAnswer raw => cases he; exact of_frame
  | unsolicitedFrame raw => cases he; exact of_frame
  | replyWaitExpiry =>
    simp only [exec, execReplyWaitExpiry] at he
    split at he <;> cases he
    · exact of_frame
    · exact same
  | lateWindowEnd =>
    simp only [exec, execLateWindowEnd] at he
    split at he <;> cases he
    · exact of_frame
    · exact same
  | settlingFrameOverrun =>
    simp only [exec, execSettlingFrameOverrun] at he
    split at he <;> cases he
    · exact of_frame
    · exact of_frame
    · exact same
  | poll =>
    simp only [exec, execPoll] at he
    split at he <;> cases he
    · exact ite of_frame same
    · exact same
  | pollTimerExpiry =>
    simp only [exec, execPollTimerExpiry] at he
    split at he <;> cases he
    · exact of_frame
    · exact of_frame
  | drivePeriodExpiry => cases he; exact (of_frame : SameTables s (driveOrder s))
  | staleExpiry => cases he; exact ite (of_frame rfl rfl rfl rfl rfl rfl rfl rfl rfl) same
  | lossExpiry => cases he; exact ite of_frame same
  | feedbackTimeout => cases he; exact ite of_frame same
  | statusPeriodExpiry => cases he; exact ite of_frame of_frame
  | dwellTimerExpiry => cases he; exact ite of_frame same
  | durationTimerExpiry => cases he; exact ite of_frame same
  | restartTakesEffect => cases he; rw [hp]; exact same
  | consoleFrameSent =>
    cases he
    unfold consoleFrameSent at ht ⊢
    split at ht
    · exact same
    · next f rest _ =>
      simp only [hp, Bool.false_and, Bool.false_eq_true, if_false] at ht ⊢
      exact .trans (t := { s with consoleQueue := rest })
        (of_frame rfl rfl rfl rfl rfl rfl rfl rfl rfl) (of_takeRequests hq hs ht)
  | driveFrameSent => cases he; exact of_frame rfl rfl rfl rfl rfl rfl rfl rfl rfl
  | entrySettled =>
    simp only [exec, execEntrySettled] at he
    split at he <;> cases he
    · exact of_frame
    · exact same
    · exact of_frame
  | _ => cases he; exact of_receiveRequest _ hs ht

end SameTables

/-- Settles O11: a step from SERVICE takes one command with no restart pending, or lets a ms pass. -/
theorem tablesFixedInService : Obligations.TablesFixedInService := by
  intro s t htable hqueue hstep hs ht
  obtain ⟨-, hq, -⟩ := hqueue
  have hp : s.modeRec.restartPending = false := by
    by_contra hp
    have := htable.2.2 (by simpa using hp)
    rw [hs] at this
    cases this
  have run {c : Instr} {u : State} (he : exec c u = .next t) (hu : SameTables s u)
      (hr : u.requests = s.requests) (hm : u.modeRec = s.modeRec) : SameTables s t :=
    hu.trans (.of_exec (by rwa [hr]) (by rwa [hm]) he (by rwa [hm]) ht)
  have h : SameTables s t := by
    unfold step at hstep
    split at hstep
    · exact run hstep (.of_frame rfl rfl rfl rfl rfl rfl rfl rfl rfl) rfl rfl
    · split at hstep
      · next c u hd =>
        unfold nextDue at hd
        split at hd <;> cases hd
        · exact run hstep (.refl s) rfl rfl
        · exact run hstep (.of_frame rfl rfl rfl rfl rfl rfl rfl rfl rfl) rfl rfl
      · cases hstep
        exact .of_frame rfl rfl rfl rfl rfl rfl rfl rfl rfl
  exact ⟨h.ride, h.zone, h.windTable, h.pollParams, h.pollEntries, h.passList, h.profiles, h.masts,
    h.cabins⟩

end Sys2Proof.Machine

/-! ## What the request buffer does not change (R172)

A request taken does what it does whatever waits behind it: no block reads the request buffer.  Each
operation that serves a request commutes with the buffer's contents. -/

namespace Sys2Proof.Machine

set_option Elab.async false

/-- The state with these requests in the buffer. -/
def State.withRequests (s : State) (rs : List Request) : State := { s with requests := rs }

variable (rs : List Request)

/-! ### Runs and holds -/

theorem endRun_withRequests (e : EndStatus) (s : State) :
    endRun e (s.withRequests rs) = (endRun e s).withRequests rs := by
  simp only [endRun_eq]
  rfl

theorem nextStep_withRequests (s : State) :
    nextStep (s.withRequests rs) = (nextStep s).map fun t => t.withRequests rs := by
  have hrun : (s.withRequests rs).run = s.run := rfl
  have hsteps : (s.withRequests rs).runSteps = s.runSteps := rfl
  simp only [nextStep, hrun, hsteps]
  split
  · rfl
  · split <;> rfl

theorem beginStep_withRequests (n : Nat) (s : State) :
    beginStep n (s.withRequests rs) = (beginStep n s).withRequests rs := by
  induction n generalizing s with
  | zero => rfl
  | succ n ih =>
    have hstart : startStep (s.withRequests rs) = (startStep s).withRequests rs := rfl
    have hfail (x : Step) (u : State) : (u.withRequests rs).cabinAtFails x = u.cabinAtFails x := rfl
    have hempty (u : State) : (u.withRequests rs).allEmpty = u.allEmpty := rfl
    have hstep (u : State) : (u.withRequests rs).currentStep = u.currentStep := rfl
    simp only [beginStep, hstart, hfail, hempty, hstep]
    split
    · exact endRun_withRequests ..
    · split
      · rw [nextStep_withRequests]
        cases nextStep (startStep s) with
        | none => exact endRun_withRequests ..
        | some u => exact ih u
      · rfl

theorem stepMet_withRequests (s : State) :
    stepMet (s.withRequests rs) = (stepMet s).withRequests rs := by
  unfold stepMet
  rw [nextStep_withRequests]
  cases nextStep s with
  | none => exact endRun_withRequests ..
  | some u => exact beginStep_withRequests rs s.stepFuel u

/-- An operation made under a condition that does not read the buffer. -/
theorem ite_withRequests {c : Prop} [Decidable c] {a b a' b' : State} (ha : a' = a.withRequests rs)
    (hb : b' = b.withRequests rs) : (if c then a' else b') = (if c then a else b).withRequests rs := by
  split
  · exact ha
  · exact hb

theorem cabinChanged_withRequests (s : State) :
    cabinChanged (s.withRequests rs) = (cabinChanged s).withRequests rs :=
  ite_withRequests rs (stepMet_withRequests rs s) rfl

theorem cabinTakenOut_withRequests (k : Nat) (s : State) :
    cabinTakenOut k (s.withRequests rs) = (cabinTakenOut k s).withRequests rs :=
  ite_withRequests rs (endRun_withRequests rs .fault s) (cabinChanged_withRequests rs s)

theorem stopEffectsIf_withRequests (c : Bool) (e : HoldEntry) (s : State) :
    stopEffectsIf c e (s.withRequests rs) = (stopEffectsIf c e s).withRequests rs := by
  have capture (u : State) : capture e (u.withRequests rs) = (capture e u).withRequests rs :=
    ite_withRequests rs rfl rfl
  have effects : stopEffects e (s.withRequests rs) = (stopEffects e s).withRequests rs := by
    unfold stopEffects
    rw [← capture]
    exact congrArg _ (ite_withRequests rs
      (endRun_withRequests rs .held { s with req := { s.req with armed := false } }) rfl)
  exact ite_withRequests rs effects rfl

theorem causeReport_withRequests (src : HoldSource) (n : Nat) (cls : HoldClass) (sub : Option Nat)
    (s : State) : causeReport src n cls sub (s.withRequests rs) =
      (causeReport src n cls sub s).withRequests rs := by
  have hentry : (s.withRequests rs).entry src = s.entry src := rfl
  unfold causeReport
  rw [hentry]
  split
  · unfold addEntry
    rw [← stopEffectsIf_withRequests]
    exact congrArg _ (ite_withRequests rs rfl rfl)
  · exact stopEffectsIf_withRequests rs _ _ (putEntry _ s)

theorem absenceReport_withRequests (src : HoldSource) (s : State) :
    absenceReport src (s.withRequests rs) = (absenceReport src s).withRequests rs := by
  have hentry : (s.withRequests rs).entry src = s.entry src := rfl
  unfold absenceReport
  rw [hentry]
  split
  · exact ite_withRequests rs rfl rfl
  · rfl

/-! ### The rim tracker and the platform stations -/

theorem convert_withRequests (s : State) :
    convert (s.withRequests rs) = (convert s).withRequests rs :=
  ite_withRequests rs (cabinChanged_withRequests rs s.offPlatform) rfl

theorem setTracker_withRequests (x : Tracker) (s : State) :
    setTracker x (s.withRequests rs) = (setTracker x s).withRequests rs := by
  have report (u : State) : reportTracker (u.withRequests rs) = (reportTracker u).withRequests rs := by
    have htracker : (u.withRequests rs).tracker = u.tracker := rfl
    unfold reportTracker
    rw [htracker]
    split
    · rw [causeReport_withRequests, convert_withRequests]
    · exact causeReport_withRequests ..
    · exact absenceReport_withRequests ..
    · rw [causeReport_withRequests, convert_withRequests]
  exact ite_withRequests rs rfl (report { s with tracker := x })

theorem stationStale_withRequests (p : Station) (s : State) :
    stationStale p (s.withRequests rs) = (stationStale p s).withRequests rs := by
  have hzone : (s.withRequests rs).zoneCabin p = s.zoneCabin p := rfl
  have platform : platformCause 2 p (s.withRequests rs) = (platformCause 2 p s).withRequests rs :=
    causeReport_withRequests ..
  unfold stationStale
  rw [hzone, platform]
  split
  · rfl
  · exact causeReport_withRequests ..

theorem writeStation_withRequests (p : Station) (r : StationRecord) (s : State) :
    writeStation p r (s.withRequests rs) = (writeStation p r s).withRequests rs := by
  cases p <;> rfl

theorem station_withRequests (p : Station) (s : State) :
    (s.withRequests rs).station p = s.station p := by
  cases p <;> rfl

theorem stationFreshness_withRequests (p : Station) (f : Freshness) (s : State) :
    stationFreshness p f (s.withRequests rs) = (stationFreshness p f s).withRequests rs := by
  have retest (u : State) : retest (u.withRequests rs) = (retest u).withRequests rs := rfl
  have barred (c : Prop) [Decidable c] (u : State) :
      (if c then barBoarding (u.withRequests rs) else u.withRequests rs) =
        (if c then barBoarding u else u).withRequests rs := ite_withRequests rs rfl rfl
  simp only [stationFreshness, station_withRequests, writeStation_withRequests, barred]
  refine ite_withRequests rs rfl ?_
  rw [← retest]
  exact congrArg _ (ite_withRequests rs (stationStale_withRequests ..) rfl)

/-! ### The field poller and the wind monitor -/

theorem finishCycle_withRequests (s : State) :
    finishCycle (s.withRequests rs) = (finishCycle s).withRequests rs := by
  have wind (u : State) : reportWind (u.withRequests rs) = (reportWind u).withRequests rs := by
    have hlevel : (u.withRequests rs).wind = u.wind := rfl
    unfold reportWind
    rw [hlevel]
    split
    · exact absenceReport_withRequests ..
    · exact absenceReport_withRequests ..
    · exact causeReport_withRequests ..
    · exact causeReport_withRequests ..
  have masts (u : State) : reportMasts (u.withRequests rs) = (reportMasts u).withRequests rs :=
    ite_withRequests rs (causeReport_withRequests ..)
      (ite_withRequests rs (causeReport_withRequests ..) (absenceReport_withRequests ..))
  have trace (l : WindLevel) (u : State) :
      appendTrace l (u.withRequests rs) = (appendTrace l u).withRequests rs :=
    ite_withRequests rs (ite_withRequests rs rfl rfl) (ite_withRequests rs rfl rfl)
  have cycle (u : State) : windCycleEnd (u.withRequests rs) = (windCycleEnd u).withRequests rs := by
    unfold windCycleEnd
    rw [← trace, ← masts, ← wind]
    rfl
  have profile (u : State) :
      profileCycleEnd (u.withRequests rs) = (profileCycleEnd u).withRequests rs :=
    ite_withRequests rs (stepMet_withRequests rs u) rfl
  unfold finishCycle
  rw [← profile, ← cycle]
  rfl

theorem startCycle_withRequests (s : State) :
    startCycle (s.withRequests rs) = (startCycle s).withRequests rs := by
  have hnext : (s.withRequests rs).nextEntry 0 = s.nextEntry 0 := rfl
  refine ite_withRequests rs rfl ?_
  rw [hnext]
  split
  · rfl
  · exact finishCycle_withRequests rs s

/-! ### Table writes -/

theorem storeRide_withRequests (r : RideTable) (s : State) :
    storeRide r (s.withRequests rs) = (storeRide r s).withRequests rs := by
  have track := setTracker_withRequests rs s.tracker.searchAnew { s with ride := r }
  exact ite_withRequests rs (congrArg retest track) rfl

theorem storeCabins_withRequests (first : Nat) (xs : List CabinConfig) (s : State) :
    storeCabins first xs (s.withRequests rs) = (storeCabins first xs s).withRequests rs :=
  congrArg retest (cabinChanged_withRequests rs { s with
    cabins := overwrite first (List.zipWith Cabin.loadFrom (s.cabins.drop first) xs) s.cabins })

theorem storePoll_withRequests (first : Nat) (p : Option PollParams) (xs : List PollEntry) (s : State) :
    storePoll first p xs (s.withRequests rs) = (storePoll first p xs s).withRequests rs := by
  have source (q : Station) (b : Option Nat × Option Nat) (u : State) :
      resource q b (u.withRequests rs) = (resource q b u).withRequests rs := by
    have hentry (v : State) : (v.withRequests rs).stationEntry q = v.stationEntry q := rfl
    have haddr (v : State) : (v.withRequests rs).stationAddress q = v.stationAddress q := rfl
    have hfresh (v : State) : (v.withRequests rs).stationFresh q = v.stationFresh q := rfl
    have released (c : Prop) [Decidable c] (r : StationRecord) :
        (if c then u.withRequests rs else writeStation q r (u.withRequests rs)) =
          (if c then u else writeStation q r u).withRequests rs :=
      ite_withRequests rs rfl (writeStation_withRequests ..)
    simp only [resource, hentry, haddr, hfresh, station_withRequests, released,
      stationFreshness_withRequests]
  have entries (es : List PollEntry) (u : State) :
      storeEntries es (u.withRequests rs) = (storeEntries es u).withRequests rs := by
    have h1 : ({ u.withRequests rs with
        pollEntries := es, results := resetChanged u.pollEntries es u.results } : State) =
        State.withRequests { u with
          pollEntries := es, results := resetChanged u.pollEntries es u.results } rs := rfl
    have hentry (q : Station) (v : State) : (v.withRequests rs).stationEntry q = v.stationEntry q := rfl
    have haddr (q : Station) (v : State) :
        (v.withRequests rs).stationAddress q = v.stationAddress q := rfl
    have hents : (u.withRequests rs).pollEntries = u.pollEntries := rfl
    have hres : (u.withRequests rs).results = u.results := rfl
    simp only [storeEntries, hentry, haddr, hents, hres]
    rw [h1, source, source]
    rfl
  have cut (u : State) : cutCycle (u.withRequests rs) = (cutCycle u).withRequests rs :=
    ite_withRequests rs (ite_withRequests rs (startCycle_withRequests rs { u with poller :=
      { u.poller with phase := .idle, inFlight := none, timer := none, pendingMark := false } }) rfl) rfl
  unfold storePoll
  rw [← cut, ← entries]
  rfl

theorem storeElements_withRequests (id : TableId) (first : Nat) (es : List (List Byte)) (s : State) :
    storeElements id first es (s.withRequests rs) =
      (storeElements id first es s).map fun t => t.withRequests rs := by
  cases id with
  | ride =>
    simp only [storeElements]
    split
    · exact congrArg some (storeRide_withRequests ..)
    · rfl
  | zone =>
    simp only [storeElements]
    split <;> rfl
  | wind =>
    simp only [storeElements]
    split <;> rfl
  | cabin =>
    simp only [storeElements, storeCabins_withRequests, Option.map_map]
    rfl
  | poll =>
    simp only [storeElements, storePoll_withRequests, Option.map_map]
    rfl
  | mast =>
    simp only [storeElements, Option.map_map]
    rfl
  | pass =>
    simp only [storeElements, Option.map_map]
    rfl
  | profile n =>
    simp only [storeElements, Option.map_map]
    rfl

/-! ### Requests served and taken -/

/-- A request served with these requests behind it. -/
def Served.withRequests (x : Served) (rs : List Request) : Served := (x.1, x.2.withRequests rs)

theorem ite_served_withRequests {c : Prop} [Decidable c] {a b a' b' : Served}
    (ha : a' = a.withRequests rs) (hb : b' = b.withRequests rs) :
    (if c then a' else b') = (if c then a else b).withRequests rs := by
  split
  · exact ha
  · exact hb

theorem serveTableWrite_withRequests (id first : Byte) (data : List Byte) (s : State) :
    serveTableWrite id first data (s.withRequests rs) =
      (serveTableWrite id first data s).withRequests rs := by
  have hm : (s.withRequests rs).modeRec = s.modeRec := rfl
  have hu : markUnchecked (s.withRequests rs) = (markUnchecked s).withRequests rs := rfl
  simp only [serveTableWrite, writeTable, hm, hu, storeElements_withRequests]
  split
  · rfl
  · split
    · rfl
    · split
      · rfl
      · split
        · rfl
        · split
          · rfl
          · next t _ _ _ es _ _ =>
            cases storeElements t first.toNat es (markUnchecked s) <;> rfl

theorem serveCabinSet_withRequests (cabin action count : Byte) (s : State) :
    serveCabinSet cabin action count (s.withRequests rs) =
      (serveCabinSet cabin action count s).withRequests rs := by
  have confirm (k n : Nat) (f : Cabin → Cabin) :
      confirmCount k n f (s.withRequests rs) = (confirmCount k n f s).withRequests rs := by
    have latched (c : Bool) (u : State) : latchIf c .countSaturated (u.withRequests rs) =
        (latchIf c .countSaturated u).withRequests rs := ite_withRequests rs rfl rfl
    have hcabin : (s.withRequests rs).cabin k = s.cabin k := rfl
    have hmodify (g : Cabin → Cabin) :
        modifyCabin k g (s.withRequests rs) = (modifyCabin k g s).withRequests rs := rfl
    simp only [confirmCount, hcabin, hmodify, latched, cabinChanged_withRequests]
    rfl
  have reply (k : Nat) {c : Prop} [Decidable c] {u' u : State} (hu : u' = u.withRequests rs) :
      cabinSetReply k (s.withRequests rs) (if c then some u' else none) =
        (cabinSetReply k s (if c then some u else none)).withRequests rs := by
    subst hu
    split <;> rfl
  refine ite_served_withRequests rs rfl (ite_served_withRequests rs ?_ (ite_served_withRequests rs ?_
    (ite_served_withRequests rs ?_ (ite_served_withRequests rs ?_ rfl))))
  · exact reply _ (confirm ..)
  · exact reply _ (confirm ..)
  · exact reply _ (congrArg retest (cabinTakenOut_withRequests rs _ (modifyCabin ..)))
  · exact reply _ (congrArg retest (cabinChanged_withRequests rs (modifyCabin ..)))

theorem serveHoldPlace_withRequests (code : Byte) (s : State) :
    serveHoldPlace code (s.withRequests rs) = (serveHoldPlace code s).withRequests rs := by
  unfold serveHoldPlace
  split
  · rfl
  · rw [causeReport_withRequests]
    rfl

theorem serveHoldRelease_withRequests (code : Byte) (s : State) :
    serveHoldRelease code (s.withRequests rs) = (serveHoldRelease code s).withRequests rs := by
  have hentry (src : HoldSource) : (s.withRequests rs).entry src = s.entry src := rfl
  have release (e : HoldEntry) :
      releasePosition e (s.withRequests rs) = (releasePosition e s).withRequests rs :=
    congrArg retest (convert_withRequests rs { putEntry (creepForm e) s with
      tracker := s.tracker.searchAnew })
  unfold serveHoldRelease
  simp only [hentry, release]
  split
  · rfl
  · split
    · rfl
    · split
      · rfl
      · rfl
      · rfl
      · exact ite_served_withRequests rs rfl rfl
      · rfl
      · exact ite_served_withRequests rs rfl rfl

theorem serveProfileRun_withRequests (tag n r w : Byte) (s : State) :
    serveProfileRun tag n r w (s.withRequests rs) = (serveProfileRun tag n r w s).withRequests rs := by
  have hrefusal : (s.withRequests rs).runRefusal n.toNat w.toNat = s.runRefusal n.toNat w.toNat := rfl
  unfold serveProfileRun
  rw [hrefusal]
  split
  · rfl
  · exact Prod.ext rfl (beginStep_withRequests rs _ (acceptRun tag n.toNat r.toNat w.toNat s))

theorem serveSnapshotTake_withRequests (s : State) :
    serveSnapshotTake (s.withRequests rs) = (serveSnapshotTake s).withRequests rs := by
  have hsnaps : (s.withRequests rs).snaps = s.snaps := rfl
  unfold serveSnapshotTake
  rw [hsnaps]
  refine ite_served_withRequests rs rfl ?_
  split <;> rfl

theorem servePollNow_withRequests (s : State) :
    servePollNow (s.withRequests rs) = (servePollNow s).withRequests rs :=
  Prod.ext rfl (ite_withRequests rs rfl (startCycle_withRequests rs s))

theorem cabinsBytes_withRequests (k n : Nat) (s : State) :
    (s.withRequests rs).cabinsBytes k n = s.cabinsBytes k n := by
  induction n generalizing k with
  | zero => rfl
  | succ n ih => exact congrArg _ (ih (k + 1))

theorem serveKind_withRequests (k : RequestKind) (tag : Byte) (args : List Byte) (s : State) :
    serveKind k tag args (s.withRequests rs) = (serveKind k tag args s).withRequests rs := by
  have none0 {f : State → Served} (hf : f (s.withRequests rs) = (f s).withRequests rs) :
      serve0 f args (s.withRequests rs) = (serve0 f args s).withRequests rs := by
    unfold serve0; split
    · exact hf
    · rfl
  have one {f : Byte → State → Served} (hf : ∀ a, f a (s.withRequests rs) = (f a s).withRequests rs) :
      serve1 f args (s.withRequests rs) = (serve1 f args s).withRequests rs := by
    unfold serve1; split
    · exact hf _
    · rfl
  have two {f : Byte → Byte → State → Served}
      (hf : ∀ a b, f a b (s.withRequests rs) = (f a b s).withRequests rs) :
      serve2 f args (s.withRequests rs) = (serve2 f args s).withRequests rs := by
    unfold serve2; split
    · exact hf ..
    · rfl
  have three {f : Byte → Byte → Byte → State → Served}
      (hf : ∀ a b c, f a b c (s.withRequests rs) = (f a b c s).withRequests rs) :
      serve3 f args (s.withRequests rs) = (serve3 f args s).withRequests rs := by
    unfold serve3; split
    · exact hf ..
    · rfl
  have ite {c : Prop} [Decidable c] {a b a' b' : Served} := ite_served_withRequests (c := c)
    (a := a) (b := b) (a' := a') (b' := b') rs
  cases k with
  | statusRead => exact none0 rfl
  | modeSet =>
    have hfailure : (s.withRequests rs).commitFailure = s.commitFailure := rfl
    refine one fun _ => ite (ite rfl ?_) (ite (ite rfl (ite rfl rfl)) rfl)
    rw [hfailure]
    split <;> rfl
  | restart => exact none0 (ite rfl rfl)
  | tableWrite =>
    simp only [serveKind, serveRest]
    split
    · exact serveTableWrite_withRequests ..
    · rfl
  | tableRead => exact three fun _ _ _ => rfl
  | cabinRead =>
    refine two fun _ _ => ite ?_ rfl
    rw [cabinsBytes_withRequests]
    rfl
  | cabinSet => exact three fun _ _ _ => serveCabinSet_withRequests ..
  | holdPlace => exact one fun _ => serveHoldPlace_withRequests ..
  | holdRelease => exact one fun _ => serveHoldRelease_withRequests ..
  | holdList => exact none0 rfl
  | snapshotTake => exact none0 (serveSnapshotTake_withRequests ..)
  | profileRun => exact three fun _ _ _ => serveProfileRun_withRequests ..
  | profileStop => exact none0 (ite (Prod.ext rfl (endRun_withRequests ..)) rfl)
  | profileStatus => exact none0 rfl
  | windRead => exact none0 rfl
  | traceTake => exact one fun _ => ite rfl (ite rfl rfl)
  | pollNow => exact none0 (servePollNow_withRequests ..)
  | pollResults => exact none0 rfl

/-- A request does what it does whatever waits behind it (R172). -/
theorem takeRequest_withRequests (r : Request) (s : State) :
    takeRequest r (s.withRequests rs) = (takeRequest r s).withRequests rs := by
  have served : serveRequest r (s.withRequests rs) = (serveRequest r s).withRequests rs := by
    unfold serveRequest
    split
    · rfl
    · exact serveKind_withRequests ..
  unfold takeRequest
  rw [served]
  simp only [placeReply, Served.withRequests]
  split <;> rfl

/-- A request taken leaves what waits behind it. -/
theorem takeRequest_requests (r : Request) (s : State) : (takeRequest r s).requests = s.requests := by
  have h := takeRequest_withRequests s.requests r s
  rw [show s.withRequests s.requests = s from rfl] at h
  rw [h]
  rfl

end Sys2Proof.Machine

/-! ## The request buffer (R166, R172, R174, R180) -/

namespace Sys2Proof.Machine

set_option Elab.async false

variable {s : State}

/-! ### Requests by their code and their arguments (R180) -/

/-- The number of argument bytes of a request, none for TABLE WRITE, which has 2 at the least (10.1). -/
def RequestKind.arity : RequestKind → Option Nat
  | .statusRead | .restart | .holdList | .snapshotTake | .profileStop | .profileStatus | .windRead
  | .pollNow | .pollResults => some 0
  | .modeSet | .holdPlace | .holdRelease | .traceTake => some 1
  | .cabinRead => some 2
  | .tableRead | .cabinSet | .profileRun => some 3
  | .tableWrite => none

theorem code_of_requestKindOf {code : Byte} {k : RequestKind} (h : requestKindOf code = some k) :
    k.code = code := by
  simpa using List.find?_some h

theorem requestKindOf_code (k : RequestKind) : requestKindOf k.code = some k := by
  cases k <;> decide

/-- A request with a wrong number of arguments does nothing (R180, 2). -/
theorem serveKind_wrong_length {k : RequestKind} {tag : Byte} {args : List Byte}
    (h : (∃ n, k.arity = some n ∧ args.length ≠ n) ∨ k = .tableWrite ∧ args.length < 2) :
    serveKind k tag args s = refusedWith .length s := by
  have none0 (f : State → Served) (hl : args.length ≠ 0) : serve0 f args s = refusedWith .length s := by
    unfold serve0; split
    · exact absurd rfl hl
    · rfl
  have one (f : Byte → State → Served) (hl : args.length ≠ 1) :
      serve1 f args s = refusedWith .length s := by
    unfold serve1; split
    · exact absurd rfl hl
    · rfl
  have two (f : Byte → Byte → State → Served) (hl : args.length ≠ 2) :
      serve2 f args s = refusedWith .length s := by
    unfold serve2; split
    · exact absurd rfl hl
    · rfl
  have three (f : Byte → Byte → Byte → State → Served) (hl : args.length ≠ 3) :
      serve3 f args s = refusedWith .length s := by
    unfold serve3; split
    · exact absurd rfl hl
    · rfl
  obtain ⟨n, hn, hl⟩ | ⟨rfl, hl⟩ := h
  · cases k with
    | tableWrite => cases hn
    | statusRead | restart | holdList | snapshotTake | profileStop | profileStatus | windRead | pollNow
    | pollResults => cases hn; exact none0 _ hl
    | modeSet | holdPlace | holdRelease | traceTake => cases hn; exact one _ hl
    | cabinRead => cases hn; exact two _ hl
    | tableRead | cabinSet | profileRun => cases hn; exact three _ hl
  · simp only [serveKind, serveRest]
    split
    · simp at hl
    · rfl

/-! ### When a request is taken (R172) -/

theorem freePlaces_eq (s : State) :
    s.freePlaces = 16 - s.consoleQueue.length - (if s.waitTag = none then 0 else 1) := by
  unfold State.freePlaces
  cases s.waitTag <;> rfl

/-- A request waits while a restart is pending or fewer than 3 places are free. -/
theorem mayTake_eq_false : s.mayTake = false ↔ s.modeRec.restartPending = true ∨
    16 - s.consoleQueue.length - (if s.waitTag = none then 0 else 1) < 3 := by
  rw [← freePlaces_eq, State.mayTake, Bool.and_eq_false_iff, Bool.not_eq_false', decide_eq_false_iff_not,
    Nat.not_le]

theorem takeRequests_waiting (h : s.mayTake = false) (n : Nat) : takeRequests n s = s := by
  cases n with
  | zero => rfl
  | succ n =>
    rw [takeRequests]
    split
    · rfl
    · exact if_neg (by simp [h])

theorem takeWaiting_nil (h : s.requests = []) : takeWaiting s = s := by
  rw [takeWaiting, h]
  rfl

theorem takeRequests_cons {q : Request} {rest : List Request} (hr : s.requests = q :: rest)
    (h : s.mayTake = true) (n : Nat) :
    takeRequests (n + 1) s = takeRequests n (takeRequest q { s with requests := rest }) := by
  rw [takeRequests]
  split
  · next hn => rw [hr] at hn; cases hn
  · next hc =>
    rw [hr] at hc
    cases hc
    exact if_pos h

/-- With an empty buffer a request is taken as it arrives, unless it has to wait. -/
theorem exec_request_of_empty (hr : s.requests = []) (h : s.mayTake = true) (q : Request) :
    exec (.request q.code q.tag q.args) s = .next (takeRequest q s) := by
  obtain ⟨hp, hf⟩ := Bool.and_eq_true_iff.mp h
  exact congrArg _ (receiveRequest_of_ready ⟨hr, by simpa using hp, of_decide_eq_true hf⟩ q)

/-- A request that finds a full buffer is discarded (R172). -/
theorem exec_request_full (h : 2 ≤ s.requests.length) (q : Request) :
    exec (.request q.code q.tag q.args) s = .next (latch .frameDiscarded s) :=
  congrArg _ (if_neg (Nat.not_lt.mpr h))

/-- A request that may not be taken waits behind the others (R172). -/
theorem exec_request_waits (hl : s.requests.length < 2) (h : s.mayTake = false) (q : Request) :
    exec (.request q.code q.tag q.args) s = .next { s with requests := s.requests ++ [q] } := by
  have hm : State.mayTake { s with requests := s.requests ++ [q] } = false := h
  refine congrArg Host.Outcome.next ?_
  rw [receiveRequest, if_pos hl]
  exact takeRequests_waiting hm _

/-- A request taken and refused is answered with the status alone (R173, R181). -/
theorem exec_request_refused (hr : s.requests = []) (h : s.mayTake = true) (q : Request) {st : Status}
    (hs : serveRequest q s = refusedWith st s) : exec (.request q.code q.tag q.args) s =
      .next (s.queued [onePart q.code q.tag (byte st.code) []]) := by
  rw [exec_request_of_empty hr h, takeRequest, hs, placeReply_refused]

/-- The one waiting request taken (R172). -/
theorem takeWaiting_one {q : Request} (hr : s.requests = [q]) (h : s.mayTake = true) :
    takeWaiting s = takeRequest q { s with requests := [] } := by
  rw [takeWaiting, hr, List.length_singleton, takeRequests_cons hr h]
  rfl

/-- Of two waiting requests the second waits, or is taken, by what the first leaves (R172). -/
theorem takeWaiting_two {q r : Request} {t : State} (hr : s.requests = [q, r]) (h : s.mayTake = true)
    (ht : takeRequest q { s with requests := [] } = t) : t.requests = [] ∧
      (t.mayTake = false → takeWaiting s = { t with requests := [r] }) ∧
      (t.mayTake = true → takeWaiting s = takeRequest r t) := by
  have hempty : t.requests = [] := ht ▸ takeRequest_requests q _
  have htaken : takeWaiting s = takeRequests 1 (t.withRequests [r]) := by
    rw [takeWaiting, hr, List.length_cons, List.length_singleton, takeRequests_cons hr h, ← ht,
      ← takeRequest_withRequests]
    rfl
  refine ⟨hempty, fun hm => htaken.trans
    (takeRequests_waiting (s := t.withRequests [r]) hm 1), fun hm => htaken.trans ?_⟩
  have hback : ({ t.withRequests [r] with requests := [] } : State) = t := by
    rw [← hempty]
    rfl
  rw [takeRequests_cons (s := t.withRequests [r]) rfl hm 0, hback]
  rfl

/-! ### A frame sent (R166, R174) -/

/-- A frame that is no RESTART reply taking effect leaves the queue, and waiting requests may be taken. -/
theorem consoleFrameSent_cons {f : Frame} {rest : List Frame} (hq : s.consoleQueue = f :: rest)
    (h : s.modeRec.restartPending = true → isRestartReply f = false) :
    consoleFrameSent s = takeWaiting { s with consoleQueue := rest } := by
  unfold consoleFrameSent
  rw [hq]
  refine if_neg fun hc => ?_
  obtain ⟨hp, hf⟩ := Bool.and_eq_true_iff.mp hc
  rw [h hp] at hf
  cases hf

theorem isRestartReply_false {f : Frame} (h : f.kind ≠ 0x21 ∨ f.payload.head? ≠ some 0x03) :
    isRestartReply f = false := by
  unfold isRestartReply
  rw [Bool.and_eq_false_iff]
  refine h.imp (fun hk => beq_eq_false_iff_ne.mpr hk) fun hp => ?_
  split
  · next hpay =>
    rw [hpay] at hp
    rw [Bool.and_eq_false_iff]
    exact .inl (beq_eq_false_iff_ne.mpr fun hc => hp (congrArg some hc))
  · rfl

/-- The going of a frame when the waiting requests stay (R172, R174). -/
theorem exec_consoleFrameSent_waiting {f : Frame} {rest : List Frame} (hq : s.consoleQueue = f :: rest)
    (h : s.modeRec.restartPending = true → isRestartReply f = false)
    (hw : s.requests = [] ∨ State.mayTake { s with consoleQueue := rest } = false) :
    exec .consoleFrameSent s = .next { s with consoleQueue := rest } := by
  refine congrArg Host.Outcome.next ?_
  rw [consoleFrameSent_cons hq h]
  obtain hr | hm := hw
  · exact takeWaiting_nil hr
  · exact takeRequests_waiting hm _

/-- The going of a frame that lets the one waiting request be taken (R172, R174). -/
theorem exec_consoleFrameSent_one {f : Frame} {rest : List Frame} {q : Request}
    (hq : s.consoleQueue = f :: rest) (hp : s.modeRec.restartPending = false) (hr : s.requests = [q])
    (hm : State.mayTake { s with consoleQueue := rest } = true) : exec .consoleFrameSent s =
      exec (.request q.code q.tag q.args) { s with consoleQueue := rest, requests := [] } := by
  have hexec := exec_request_of_empty (s := { s with consoleQueue := rest, requests := [] }) rfl hm q
  rw [hexec]
  refine congrArg Host.Outcome.next ?_
  rw [consoleFrameSent_cons hq fun hp' => absurd hp' (by simp [hp])]
  exact takeWaiting_one hr hm

/-- The going of a frame while two requests wait: the first is taken, and the second waits or is taken as
if it arrived then, by what the first leaves (R172, R174). -/
theorem exec_consoleFrameSent_two {f : Frame} {rest : List Frame} {q r : Request}
    (hq : s.consoleQueue = f :: rest) (hp : s.modeRec.restartPending = false)
    (hr : s.requests = [q, r]) (hm : State.mayTake { s with consoleQueue := rest } = true) :
    ∃ t, exec (.request q.code q.tag q.args) { s with consoleQueue := rest, requests := [] } = .next t ∧
      t.requests = [] ∧
      (t.mayTake = false → exec .consoleFrameSent s = .next { t with requests := [r] }) ∧
      (t.mayTake = true → exec .consoleFrameSent s = exec (.request r.code r.tag r.args) t) := by
  obtain ⟨ht, hwait, htake⟩ := takeWaiting_two (s := { s with consoleQueue := rest }) hr hm rfl
  have hsent := consoleFrameSent_cons hq fun hp' => absurd hp' (by simp [hp])
  refine ⟨_, exec_request_of_empty (s := { s with consoleQueue := rest, requests := [] }) rfl hm q, ht,
    fun hw => congrArg Host.Outcome.next (hsent.trans (hwait hw)), fun hw => ?_⟩
  rw [exec_request_of_empty ht hw r]
  exact congrArg Host.Outcome.next (hsent.trans (htake hw))

/-- Settles O56: the buffer by its length and the responder's conditions; of two waiting requests the
second is taken from what the first leaves, which the buffer does not change. -/
theorem requestsBufferedAndTested : Obligations.RequestsBufferedAndTested := by
  intro s places
  have room {t : State} (h : ¬ (t.modeRec.restartPending = true ∨
      16 - t.consoleQueue.length - (if t.waitTag = none then 0 else 1) < 3)) : t.mayTake = true := by
    by_contra hm
    exact h (mayTake_eq_false.mp (by simpa using hm))
  refine ⟨?_, ?_, ?_⟩
  · intro code tag args waits arguments
    have harguments : arguments = (requestKindOf code).bind RequestKind.arity := by
      cases hk : requestKindOf code with
      | some k =>
        obtain rfl := code_of_requestKindOf hk
        cases k <;> rfl
      | none =>
        have hne (k : RequestKind) : code.toNat ≠ k.code.toNat := fun hc => by
          rw [BitVec.eq_of_toNat_eq hc, requestKindOf_code] at hk
          cases hk
        unfold arguments
        split
        · exact absurd ‹_› (hne .statusRead)
        · exact absurd ‹_› (hne .modeSet)
        · exact absurd ‹_› (hne .restart)
        · exact absurd ‹_› (hne .tableRead)
        · exact absurd ‹_› (hne .cabinRead)
        · exact absurd ‹_› (hne .cabinSet)
        · exact absurd ‹_› (hne .holdPlace)
        · exact absurd ‹_› (hne .holdRelease)
        · exact absurd ‹_› (hne .holdList)
        · exact absurd ‹_› (hne .snapshotTake)
        · exact absurd ‹_› (hne .profileRun)
        · exact absurd ‹_› (hne .profileStop)
        · exact absurd ‹_› (hne .profileStatus)
        · exact absurd ‹_› (hne .windRead)
        · exact absurd ‹_› (hne .traceTake)
        · exact absurd ‹_› (hne .pollNow)
        · exact absurd ‹_› (hne .pollResults)
        · rfl
    refine ⟨fun h => exec_request_full h ⟨code, tag, args⟩,
      fun hl hw => exec_request_waits hl (mayTake_eq_false.mpr hw) ⟨code, tag, args⟩,
      fun hr hw => ⟨fun hn h8 => ?_, fun n hn hl => ?_, ?_⟩⟩
    · have hk : requestKindOf code = none := by
        cases hk : requestKindOf code with
        | none => rfl
        | some k =>
          rw [harguments, hk] at hn
          rw [← code_of_requestKindOf hk] at h8
          cases k with
          | tableWrite => exact absurd rfl h8
          | _ => cases hn
      have h := exec_request_refused hr (room hw) ⟨code, tag, args⟩ (st := .unknown) (by simp only [serveRequest, hk])
      exact ⟨h, h⟩
    · rw [harguments] at hn
      obtain ⟨k, hk, hka⟩ := Option.bind_eq_some_iff.mp hn
      refine exec_request_refused hr (room hw) ⟨code, tag, args⟩ (st := .length) ?_
      simp only [serveRequest, hk]
      exact serveKind_wrong_length (.inl ⟨n, hka, hl⟩)
    · rintro rfl hl
      exact exec_request_refused hr (room hw) ⟨0x08, tag, args⟩ (st := .length)
        (serveKind_wrong_length (k := .tableWrite) (tag := tag) (.inr ⟨rfl, hl⟩))
  · exact fun hq => congrArg Host.Outcome.next (by rw [consoleFrameSent, hq])
  · intro f rest hq
    have taken (hp : s.modeRec.restartPending = false) (h : 3 ≤ places rest) :
        State.mayTake { s with consoleQueue := rest } = true :=
      room (t := { s with consoleQueue := rest }) fun hw => hw.elim
        (fun hp' => by rw [hp] at hp'; cases hp') fun hn => absurd h (Nat.not_le.mpr hn)
    have unrestarted (hp : s.modeRec.restartPending = false) :
        s.modeRec.restartPending = true → isRestartReply f = false := fun hp' => by
      rw [hp] at hp'
      cases hp'
    refine ⟨?_, fun hp hf => ?_, fun hp h => ?_, fun q hp hr h => ?_, fun q r hp hr h => ?_⟩
    · rintro hp ⟨tag, rfl⟩
      refine congrArg Host.Outcome.next ?_
      rw [consoleFrameSent, hq, hp]
      rfl
    · exact exec_consoleFrameSent_waiting hq (fun _ => isRestartReply_false hf)
        (.inr (mayTake_eq_false.mpr (.inl hp)))
    · exact exec_consoleFrameSent_waiting hq (unrestarted hp)
        (h.imp_right fun hn => mayTake_eq_false.mpr (.inr hn))
    · exact exec_consoleFrameSent_one hq hp hr (taken hp h)
    · obtain ⟨t, hexec, ht, hwait, htake⟩ := exec_consoleFrameSent_two hq hp hr (taken hp h)
      exact ⟨t, hexec, ht, fun hw => hwait (mayTake_eq_false.mpr hw), fun hw => htake (room hw)⟩

end Sys2Proof.Machine

/-! ## TABLE WRITE: its tests, and the elements it stores (R157, R158) -/

namespace Sys2Proof.Machine

set_option Elab.async false

variable {s : State} {t : TableId} {first n : Nat} {data : List Byte}

/-! ### Element data cut into elements (R157, 4) -/

/-- The bytes of `n` consecutive elements of a table. -/
def TableId.total (t : TableId) (first n : Nat) : Nat :=
  ((List.range n).map fun k => t.elementSize (first + k)).sum

/-- Element data cut out for element number `k` of a write. -/
def TableId.piece (t : TableId) (first : Nat) (data : List Byte) (k : Nat) : List Byte :=
  (data.drop (t.total first k)).take (t.elementSize (first + k))

/-- Whether a table takes an element's bytes: its own parse answers an element (R157, 6). -/
def TableId.accepts (t : TableId) (k : Nat) (bs : List Byte) : Bool :=
  match t with
  | .ride => (rideOf bs).isSome
  | .zone => (zoneOf bs).isSome
  | .cabin => (cabinOf bs).isSome
  | .wind => (windOf bs).isSome
  | .mast => (mastOf bs).isSome
  | .poll => if k = 0 then (pollParamsOf bs).isSome else (pollEntryOf bs).isSome
  | .pass => (passOf bs).isSome
  | .profile _ => (stepOf bs).isSome

theorem elementSize_pos (t : TableId) (k : Nat) : 0 < t.elementSize k := by
  cases t with
  | poll =>
    unfold TableId.elementSize
    simp only
    split <;> decide
  | _ => exact Nat.succ_pos _

/-- Only the first element of the POLL table has a size of its own. -/
theorem elementSize_succ (t : TableId) (first k : Nat) :
    t.elementSize (first + (k + 1)) = t.elementSize (first + 1) := by
  cases t with
  | poll =>
    unfold TableId.elementSize
    simp only
    rw [if_neg (by omega), if_neg (by omega)]
  | _ => rfl

theorem total_succ (t : TableId) (first n : Nat) :
    t.total first (n + 1) = t.total first n + t.elementSize (first + n) := by
  simp [TableId.total, List.range_succ]

/-- The first element, and the others of one size. -/
theorem total_eq (t : TableId) (first n : Nat) :
    t.total first (n + 1) = t.elementSize first + t.elementSize (first + 1) * n := by
  induction n with
  | zero => simp [TableId.total]
  | succ n ih => rw [total_succ, ih, elementSize_succ t first n, Nat.mul_succ, Nat.add_assoc]

theorem total_one (t : TableId) (first : Nat) : t.total first 1 = t.elementSize first := total_eq t first 0

theorem cutElements_eq (size n : Nat) (bs : List Byte) :
    cutElements size n bs = (List.range n).map fun k => (bs.drop (size * k)).take size := by
  induction n generalizing bs with
  | zero => rfl
  | succ n ih =>
    rw [cutElements, ih, List.range_succ_eq_map]
    simp only [List.map_cons, List.map_map, Nat.mul_zero, List.drop_zero, Function.comp_def, List.drop_drop,
      Nat.mul_succ, Nat.add_comm]

/-- Element data whose length is the sum of the sizes of `n` elements is cut into them. -/
theorem cut_of_total (h : data.length = t.total first (n + 1)) :
    t.cut first data = some ((List.range (n + 1)).map (t.piece first data)) := by
  have hsize := elementSize_pos t (first + 1)
  rw [total_eq] at h
  have hn : (data.length - t.elementSize first) / t.elementSize (first + 1) = n := by
    rw [h, Nat.add_sub_cancel_left, Nat.mul_div_cancel_left n hsize]
  have hmod : (data.length - t.elementSize first) % t.elementSize (first + 1) = 0 := by
    rw [h, Nat.add_sub_cancel_left, Nat.mul_mod_right]
  have hpieces : cutElements (t.elementSize (first + 1)) n (data.drop (t.elementSize first)) =
      (List.range n).map fun k => t.piece first data (k + 1) := by
    rw [cutElements_eq]
    refine List.map_congr_left fun k _ => ?_
    rw [TableId.piece, total_eq, elementSize_succ t first k, List.drop_drop]
  simp only [TableId.cut, hmod, hn, hpieces, if_true]
  rw [if_neg (by omega), List.range_succ_eq_map, List.map_cons, List.map_map]
  rfl

/-- Element data of any other length is not (R157, 4). -/
theorem cut_eq_none (h : ∀ n, data.length ≠ t.total first (n + 1)) : t.cut first data = none := by
  unfold TableId.cut
  simp only
  split
  · rfl
  · next hlen =>
    refine if_neg fun hmod => h ((data.length - t.elementSize first) / t.elementSize (first + 1)) ?_
    rw [total_eq, Nat.mul_div_cancel' (Nat.dvd_of_mod_eq_zero hmod)]
    omega

/-! ### Elements parsed (R157, 6) -/

section

variable {α : Type} {f : List Byte → Option α} {bs : List (List Byte)} {xs : List α}

theorem parseAll_getElem? (h : parseAll f bs = some xs) (k : Nat) : xs[k]? = bs[k]?.bind f := by
  induction bs generalizing xs k with
  | nil => cases h; simp
  | cons b bs ih =>
    unfold parseAll at h
    split at h
    · next x ys hx hys =>
      cases h
      cases k with
      | zero => simp [hx]
      | succ k => simpa using ih hys k
    · cases h

theorem parseAll_isSome (h : ∀ b ∈ bs, (f b).isSome = true) : ∃ xs, parseAll f bs = some xs := by
  induction bs with
  | nil => exact ⟨[], rfl⟩
  | cons b bs ih =>
    obtain ⟨x, hx⟩ := Option.isSome_iff_exists.mp (h b (by simp))
    obtain ⟨xs, hxs⟩ := ih fun c hc => h c (by simp [hc])
    exact ⟨x :: xs, by simp only [parseAll, hx, hxs]⟩

theorem parseAll_eq_none {b : List Byte} (hb : b ∈ bs) (h : (f b).isSome = false) :
    parseAll f bs = none := by
  cases hp : parseAll f bs with
  | none => rfl
  | some xs =>
    obtain ⟨k, hk⟩ := List.mem_iff_getElem?.mp hb
    have hx := parseAll_getElem? hp k
    have hb : f b = none := by simpa using h
    rw [hk, Option.bind_some, hb] at hx
    have hlt := (List.getElem?_eq_some_iff.mp hk).1
    have hle := List.getElem?_eq_none_iff.mp hx
    rw [(parseAll_spec hp).1] at hle
    omega

end

/-- The numbered pieces of a write. -/
def TableId.pieces (t : TableId) (first : Nat) (data : List Byte) (n : Nat) : List (List Byte) :=
  (List.range n).map (t.piece first data)

theorem pieces_length : (t.pieces first data n).length = n := by simp [TableId.pieces]

theorem pieces_getElem? {k : Nat} (h : k < n) :
    (t.pieces first data n)[k]? = some (t.piece first data k) := by
  simp [TableId.pieces, h]

theorem mem_pieces {b : List Byte} : b ∈ t.pieces first data n ↔ ∃ k < n, t.piece first data k = b := by
  simp [TableId.pieces]

/-- The elements behind the first one. -/
theorem pieces_succ : t.pieces first data (n + 1) =
    t.piece first data 0 :: (List.range n).map fun k => t.piece first data (k + 1) := by
  rw [TableId.pieces, List.range_succ_eq_map, List.map_cons, List.map_map]
  rfl

/-- An element of a write that is refused keeps all of it from being stored (R157, 6). -/
theorem storeElements_eq_none (hfit : first + n ≤ t.elements) {k : Nat} (hk : k < n)
    (hr : t.accepts (first + k) (t.piece first data k) = false) (s : State) :
    storeElements t first (t.pieces first data n) s = none := by
  have none {α : Type} {f : List Byte → Option α} (hf : (f (t.piece first data k)).isSome = false) :
      parseAll f (t.pieces first data n) = none := parseAll_eq_none (mem_pieces.mpr ⟨k, hk, rfl⟩) hf
  cases t with
  | ride => simp only [storeElements, none (f := rideOf) hr]
  | zone => simp only [storeElements, none (f := zoneOf) hr]
  | wind => simp only [storeElements, none (f := windOf) hr]
  | cabin => simp only [storeElements, none (f := cabinOf) hr, Option.map_none]
  | mast => simp only [storeElements, none (f := mastOf) hr, Option.map_none]
  | pass => simp only [storeElements, none (f := passOf) hr, Option.map_none]
  | profile m => simp only [storeElements, none (f := stepOf) hr, Option.map_none]
  | poll =>
    have hparse : parsePoll first (TableId.poll.pieces first data n) = Option.none := by
      unfold parsePoll
      by_cases h0 : first = 0
      · obtain ⟨m, rfl⟩ := Nat.exists_eq_add_of_lt (Nat.zero_lt_of_lt hk)
        rw [if_pos h0, Nat.zero_add, pieces_succ]
        simp only
        cases k with
        | zero =>
          rw [TableId.accepts, if_pos (by omega)] at hr
          have hp : pollParamsOf (TableId.poll.piece first data 0) = Option.none := by simpa using hr
          rw [hp]
        | succ k =>
          rw [TableId.accepts, if_neg (by omega)] at hr
          rw [parseAll_eq_none (List.mem_map.mpr ⟨k, by simpa using hk, rfl⟩) hr]
          split
          · next h => cases h
          · rfl
      · rw [TableId.accepts, if_neg (by omega)] at hr
        rw [if_neg h0, none (f := pollEntryOf) hr, Option.map_none]
    simp only [storeElements, hparse, Option.map_none]

/-! ### The tests in order (R157) -/

theorem exec_tableWrite (h : s.ready) (tag table fst : Byte) (data : List Byte) :
    exec (.tableWrite tag table fst data) s =
      .next (placeReply 0x08 tag (serveTableWrite table fst data s)) :=
  arrive_of_ready h .tableWrite tag (table :: fst :: data)

/-- A write that fails a test is answered with its status, and nothing is stored. -/
theorem exec_tableWrite_refused (h : s.ready) {table fst : Byte} {st : Status}
    (hw : writeTable table fst data s = (st, [], s)) (tag : Byte) :
    exec (.tableWrite tag table fst data) s = .next (s.queued [onePart 0x08 tag (byte st.code) []]) := by
  rw [exec_tableWrite h, serveTableWrite, hw, placeReply_one_part (by simp)]

section

variable {table fst : Byte}

theorem writeTable_service (hm : s.modeRec.mode = .service) :
    writeTable table fst data s = (.mode, [], s) := if_pos (by simp [hm])

theorem writeTable_unknown (hm : s.modeRec.mode = .setup) (ht : tableOf table = none) :
    writeTable table fst data s = (.range, [], s) := by
  rw [writeTable, if_neg (by simp [hm]), ht]

theorem writeTable_first (hm : s.modeRec.mode = .setup) (ht : tableOf table = some t)
    (hf : t.elements ≤ fst.toNat) : writeTable table fst data s = (.range, [], s) := by
  rw [writeTable, if_neg (by simp [hm]), ht]
  exact if_pos hf

theorem writeTable_length (hm : s.modeRec.mode = .setup) (ht : tableOf table = some t)
    (hf : fst.toNat < t.elements) (hl : ∀ n, data.length ≠ t.total fst.toNat (n + 1)) :
    writeTable table fst data s = (.length, [], s) := by
  rw [writeTable, if_neg (by simp [hm]), ht]
  simp only [cut_eq_none hl]
  exact if_neg (by omega)

/-- What the sixth test and the store make of a write that passes the first four (R157). -/
theorem writeTable_cut (hm : s.modeRec.mode = .setup) (ht : tableOf table = some t)
    (hf : fst.toNat < t.elements) (hn : 1 ≤ n) (hl : data.length = t.total fst.toNat n) :
    writeTable table fst data s = if t.elements < fst.toNat + n then (.range, [], s)
      else match storeElements t fst.toNat (t.pieces fst.toNat data n) (markUnchecked s) with
        | none => (.range, [], s)
        | some u => (.ok, [byte n], u) := by
  obtain ⟨m, rfl⟩ := Nat.exists_eq_add_of_le' hn
  rw [writeTable, if_neg (by simp [hm]), ht]
  simp only [cut_of_total hl, List.length_map, List.length_range]
  rw [if_neg (by omega)]
  rfl

/-- A write that passes its tests is stored, and answered OK with the number of its elements. -/
theorem exec_tableWrite_stored (h : s.ready) (tag : Byte) (hm : s.modeRec.mode = .setup)
    (ht : tableOf table = some t) (hn : 1 ≤ n) (hl : data.length = t.total fst.toNat n)
    (hfit : fst.toNat + n ≤ t.elements) {u : State}
    (hu : storeElements t fst.toNat (t.pieces fst.toNat data n) (markUnchecked s) = some u) :
    exec (.tableWrite tag table fst data) s = .next (State.queued
      { u with modeRec := { s.modeRec with checked := false } } [onePart 0x08 tag 0 [byte n]]) := by
  have hrec : u.modeRec = { s.modeRec with checked := false } := storeElements_modeRec hu
  rw [exec_tableWrite h, serveTableWrite, writeTable_cut hm ht (by omega) hn hl, if_neg (by omega), hu,
    placeReply_one_part (by simp), ← hrec]
  rfl

end

/-- A write of one element has it whole as its element data. -/
theorem piece_whole {fst : Nat} (h : data.length = t.elementSize fst) : t.piece fst data 0 = data := by
  simp [TableId.piece, TableId.total, ← h]

theorem pieces_one : t.pieces first data 1 = [t.piece first data 0] := rfl

end Sys2Proof.Machine

/-! ## The elements of a write stored in each table (R158) -/

namespace Sys2Proof.Machine

set_option Elab.async false

variable {s : State}

/-! ### A RIDE table (R44) -/

/-- Where the hold list is as it should be, a test report changes nothing. -/
theorem HoldLaw.retest_eq (h : HoldLaw s) (hc : s.causes = s.tests) : retest s = s := by
  have hmap : (s.holds.map fun e => { e with present := presentFlag e.source s.tests }) = s.holds := by
    conv_rhs => rw [← List.map_id s.holds]
    refine List.map_congr_left fun e he => ?_
    have hform := h.2 e he
    simp only [HoldEntry.formed, Bool.and_eq_true, beq_iff_eq] at hform
    rw [← hc, ← hform.1]
    rfl
  exact congrArg₂ (fun c l => ({ s with causes := c, holds := l } : State)) hc.symm hmap

/-- A RIDE table stored while the tracker keeps its state. -/
theorem storeRide_same {x : RideTable}
    (h : x.n = s.ride.n ∧ x.pitch = s.ride.pitch ∨ s.tracker.state = .lost) :
    storeRide x s = { s with ride := x } := by
  refine if_neg ?_
  rintro ⟨hdiff, hlost⟩
  obtain ⟨hn, hp⟩ := h.resolve_right hlost
  exact hdiff.elim (fun hd => hd hn) (fun hd => hd hp)

theorem storeRide_anew {x : RideTable} (h : ¬(x.n = s.ride.n ∧ x.pitch = s.ride.pitch))
    (hlost : s.tracker.state ≠ .lost) :
    storeRide x s = retest (setTracker s.tracker.searchAnew { s with ride := x }) :=
  if_pos ⟨by rwa [← not_and_or], hlost⟩

/-- A SEARCHING tracker is only given its new record. -/
theorem storeRide_searching (hi : HoldInv s) {x : RideTable}
    (h : ¬(x.n = s.ride.n ∧ x.pitch = s.ride.pitch)) (hs : s.tracker.state = .searching) :
    storeRide x s = { s with ride := x, tracker := s.tracker.searchAnew } := by
  obtain ⟨hlaw, hc, -⟩ := holdInv_iff.mp hi
  have hlaw' : HoldLaw { s with ride := x, tracker := s.tracker.searchAnew } := hlaw
  have hset : setTracker s.tracker.searchAnew { s with ride := x } =
      { s with ride := x, tracker := s.tracker.searchAnew } := if_pos hs.symm
  rw [storeRide_anew h (by simp [hs]), hset]
  exact hlaw'.retest_eq hc

/-- Cabins off the platform, each with its window closed (R54). -/
theorem map_converted_offPlatform (hp : ∀ c ∈ s.cabins, c.state ≠ .alighting ∧ c.state ≠ .boarding)
    (ms : Word32) : s.cabins.map (Cabin.converted ms) =
      s.cabins.map fun c => { c with window := ⟨false, 0, none, 0⟩ } := by
  refine List.map_congr_left fun c hc => if_neg ?_
  obtain ⟨ha, hb⟩ := hp c hc
  cases hst : c.state <;> simp_all [CabinState.onPlatform]

theorem occupied_eq_false (hp : ∀ c ∈ s.cabins, c.state ≠ .alighting ∧ c.state ≠ .boarding) :
    s.occupied = false := by
  refine List.any_eq_false.mpr fun c hc => ?_
  obtain ⟨ha, hb⟩ := hp c hc
  cases hst : c.state <;> simp_all [CabinState.onPlatform]

/-- Cabins off the platform have no entry to bar. -/
theorem withEntry_offPlatform (hp : ∀ c ∈ s.cabins, c.state ≠ .alighting ∧ c.state ≠ .boarding)
    (e : HoldEntry) : s.withEntry e = { s with holds := s.holds ++ [e] } := by
  have hmap : (s.cabins.map fun k =>
      if s.holds = [] ∧ k.state = .boarding then { k with entryBarred := true } else k) = s.cabins := by
    conv_rhs => rw [← List.map_id s.cabins]
    exact List.map_congr_left fun c hc => if_neg fun hb => (hp c hc).2 hb.2
  simp only [State.withEntry, hmap]

/-- The hold list with its POSITION entry written over, or added at the end (R115, R117). -/
def State.positionHolds (s : State) (cls : HoldClass) (cause : Nat) : List HoldEntry :=
  if s.entry .position = none then s.holds ++ [s.positionEntry cls cause]
  else s.holds.map fun h => if h.source = .position then s.positionEntry cls cause else h

theorem putPosition_offPlatform (hp : ∀ c ∈ s.cabins, c.state ≠ .alighting ∧ c.state ≠ .boarding)
    (cls : HoldClass) (cause : Nat) :
    s.putPosition cls cause = { s with holds := s.positionHolds cls cause } := by
  unfold State.putPosition State.positionHolds
  split
  · exact withEntry_offPlatform hp _
  · rfl

/-- The POSITION entry of the list that a position cause leaves. -/
theorem positionHolds_find (cls : HoldClass) (cause : Nat) :
    (s.positionHolds cls cause).find? (fun h => h.source == .position) =
      some (s.positionEntry cls cause) := by
  unfold State.positionHolds
  cases he : s.entry .position with
  | none =>
    rw [if_pos rfl, List.find?_append, show s.holds.find? (fun h => h.source == .position) = none from he]
    rfl
  | some e =>
    rw [if_neg (by simp)]
    exact entry_putEntry_same (s := s) (e := s.positionEntry cls cause) he

theorem positionHolds_others (cls : HoldClass) (cause : Nat) :
    (s.positionHolds cls cause).filter (fun h => h.source != .position) =
      s.holds.filter (fun h => h.source != .position) := by
  unfold State.positionHolds
  split
  · simp [List.filter_append, State.positionEntry]
  · rw [List.filter_map]
    have hsrc : ((fun h : HoldEntry => h.source != .position) ∘
        fun h => if h.source = .position then s.positionEntry cls cause else h) =
        fun h => h.source != .position := by
      funext h
      simp only [Function.comp]
      split
      · next hs => rw [hs]; rfl
      · rfl
    rw [hsrc]
    conv_rhs => rw [← List.map_id (s.holds.filter _)]
    refine List.map_congr_left fun h hh => if_neg ?_
    simpa using (List.mem_filter.mp hh).2

theorem positionHolds_sources (cls : HoldClass) (cause : Nat) :
    (s.positionHolds cls cause).map (fun h => h.source) = s.holds.map (fun h => h.source) ++
      (if (s.entry .position).isNone then [.position] else []) := by
  unfold State.positionHolds
  split
  · next h => simp [h, State.positionEntry]
  · next h =>
    rw [if_neg (by simpa using h), List.append_nil, List.map_map]
    exact List.map_congr_left fun x _ => putEntry_keeps_source (s.positionEntry cls cause) x

/-- Every ID window closed without an outcome. -/
def State.windowsClosed (s : State) : State :=
  { s with cabins := s.cabins.map fun c => { c with window := ⟨false, 0, none, 0⟩ } }

theorem windowsClosed_tests : s.windowsClosed.tests = s.tests := by
  refine tests_congr_doorTest fun a b => ?_
  rw [State.windowsClosed, List.any_map]
  rfl

/-- The report of a SEARCHING tracker over an empty platform: a CREEP for POSITION, and every window
closed (R45, R46, R54). -/
theorem reportTracker_searching (hs : s.tracker.state = .searching)
    (ho : ∀ e, s.entry .position = some e → e.present = true ∧ e.latched = false ∧ e.cls = .creep)
    (hp : ∀ c ∈ s.cabins, c.state ≠ .alighting ∧ c.state ≠ .boarding) :
    reportTracker s = { s with holds := s.positionHolds .creep 1 }.windowsClosed := by
  have hreport : reportTracker s = convert (causeReport .position 1 .creep none s) := by
    unfold reportTracker
    rw [hs]
  have hput : causeReport .position 1 .creep none s = { s with holds := s.positionHolds .creep 1 } := by
    rw [causeReport_position 1 ho, if_neg (by simp), putPosition_offPlatform hp]
  have hocc : State.occupied { s with holds := s.positionHolds .creep 1 } = false :=
    occupied_eq_false hp
  rw [hreport, hput, convert_eq_offPlatform, hocc]
  exact congrArg (fun l => ({ s with holds := s.positionHolds .creep 1, cabins := l } : State))
    (map_converted_offPlatform hp s.ms)

/-- The hold list with its POSITION entry written stays one of R116. -/
theorem HoldLaw.positionHolds (h : HoldLaw s)
    (ho : ∀ e, s.entry .position = some e → e.present = true ∧ e.latched = false ∧ e.cls = .creep)
    (hp : ∀ c ∈ s.cabins, c.state ≠ .alighting ∧ c.state ≠ .boarding) :
    HoldLaw { s with holds := s.positionHolds .creep 1 } := by
  have hlaw := h.report reportable_searching fun _ e he => (ho e he).2.1
  rwa [causeReport_position 1 ho, if_neg (by simp), putPosition_offPlatform hp] at hlaw

/-- A tracker that knew its position is sent SEARCHING, with a CREEP for POSITION and every window
closed (R44, R45, R46, R54). -/
theorem storeRide_research (hi : HoldInv s) {x : RideTable}
    (h : ¬(x.n = s.ride.n ∧ x.pitch = s.ride.pitch))
    (hs : s.tracker.state = .locked ∨ s.tracker.state = .coasting)
    (hp : ∀ c ∈ s.cabins, c.state ≠ .alighting ∧ c.state ≠ .boarding) :
    storeRide x s = { s with
      ride := x, tracker := s.tracker.searchAnew, holds := s.positionHolds .creep 1
      cabins := s.cabins.map fun c => { c with window := ⟨false, 0, none, 0⟩ } } := by
  obtain ⟨hlaw, hc, hpos, -⟩ := holdInv_iff.mp hi
  have hlost : s.tracker.state ≠ .lost := by rcases hs with h | h <;> simp [h]
  have hanew : s.tracker.searchAnew.state ≠ s.tracker.state := by
    rcases hs with h | h <;> simp [h, Tracker.searchAnew]
  have hauto (e : HoldEntry) (he : s.entry .position = some e) :
      e.present = true ∧ e.latched = false ∧ e.cls = .creep := by
    obtain ⟨hsrc, hform⟩ := hlaw.formed he
    have hl := hlaw.position_unlatched hpos hlost he
    obtain ⟨hpres, -, hcls⟩ := HoldEntry.formed_position hform hsrc
    split at hcls
    · rw [hl] at hcls; cases hcls.1
    · exact ⟨hpres, hcls⟩
  have hset : setTracker s.tracker.searchAnew { s with ride := x } =
      reportTracker { s with ride := x, tracker := s.tracker.searchAnew } := if_neg hanew
  have hreport := reportTracker_searching
    (s := { s with ride := x, tracker := s.tracker.searchAnew }) rfl hauto hp
  have hform : HoldLaw { s with holds := s.positionHolds .creep 1 } := hlaw.positionHolds hauto hp
  rw [storeRide_anew h hlost, hset, hreport]
  exact HoldLaw.retest_eq hform (hc.trans windowsClosed_tests.symm)

end Sys2Proof.Machine

namespace Sys2Proof.Machine

set_option Elab.async false

variable {s : State} {t : TableId} {first n : Nat} {data : List Byte}

/-! ### Elements written over a list -/

section

variable {α β : Type} {xs l : List α} {ys : List β} {f : α → β → α}

theorem overwrite_getElem? (h : first ≤ l.length) {k : Nat} (hk : k < xs.length) :
    (overwrite first xs l)[first + k]? = xs[k]? := by
  have hlen : (l.take first).length = first := List.length_take_of_le h
  rw [overwrite, List.getElem?_append_left (by rw [List.length_append, hlen]; omega),
    List.getElem?_append_right (by omega), hlen, Nat.add_sub_cancel_left]

theorem overwrite_getElem?_outside (h : first + xs.length ≤ l.length) {k : Nat}
    (hk : k < first ∨ first + xs.length ≤ k) : (overwrite first xs l)[k]? = l[k]? := by
  have hlen : (l.take first).length = first := List.length_take_of_le (by omega)
  rcases hk with hk | hk
  · rw [overwrite, List.append_assoc, List.getElem?_append_left (by omega), List.getElem?_take_of_lt hk]
  · rw [overwrite, List.getElem?_append_right (by rw [List.length_append, hlen]; omega), List.getElem?_drop,
      List.length_append, hlen, Nat.add_sub_cancel' hk]

theorem overwrite_one (h : first < l.length) (x : α) : overwrite first [x] l = l.set first x := by
  rw [overwrite, List.set_eq_take_append_cons_drop, if_pos h, List.append_assoc]
  rfl

/-- The elements stored, each made from the record in its place. -/
theorem zipWith_drop_length (h : first + ys.length ≤ l.length) :
    (List.zipWith f (l.drop first) ys).length = ys.length := by
  rw [List.length_zipWith, List.length_drop]
  omega

theorem overwrite_zipWith_getElem? (h : first + ys.length ≤ l.length) {k : Nat} {x : α} {y : β}
    (hx : l[first + k]? = some x) (hy : ys[k]? = some y) :
    (overwrite first (List.zipWith f (l.drop first) ys) l)[first + k]? = some (f x y) := by
  have hk : k < ys.length := (List.getElem?_eq_some_iff.mp hy).1
  rw [overwrite_getElem? (by omega) (by rwa [zipWith_drop_length h]), List.getElem?_zipWith,
    List.getElem?_drop, hx, hy]

theorem overwrite_zipWith_outside (h : first + ys.length ≤ l.length) {k : Nat}
    (hk : k < first ∨ first + ys.length ≤ k) :
    (overwrite first (List.zipWith f (l.drop first) ys) l)[k]? = l[k]? :=
  overwrite_getElem?_outside (by rwa [zipWith_drop_length h]) (by rwa [zipWith_drop_length h])

end

/-- The elements of a write whose bytes all parse. -/
theorem parseAll_pieces {α : Type} {f : List Byte → Option α}
    (h : ∀ k, k < n → (f (t.piece first data k)).isSome = true) :
    ∃ xs, parseAll f (t.pieces first data n) = some xs ∧ xs.length = n ∧
      ∀ k, k < n → xs[k]? = f (t.piece first data k) := by
  have hall : ∀ b ∈ t.pieces first data n, (f b).isSome = true := by
    intro b hb
    obtain ⟨k, hk, rfl⟩ := mem_pieces.mp hb
    exact h k hk
  obtain ⟨xs, hxs⟩ := parseAll_isSome hall
  refine ⟨xs, hxs, (parseAll_spec hxs).1.trans pieces_length, fun k hk => ?_⟩
  rw [parseAll_getElem? hxs, pieces_getElem? hk, Option.bind_some]

/-- One element parsed. -/
theorem parseAll_one {α : Type} {f : List Byte → Option α} {x : α}
    (h : f (t.piece first data 0) = some x) : parseAll f (t.pieces first data 1) = some [x] := by
  rw [pieces_one, parseAll, h, parseAll]

/-! ### One element alone: RIDE, ZONE, WIND, PASS and PROFILE -/

theorem storeElements_ride {x : RideTable} (h : rideOf (TableId.ride.piece first data 0) = some x) :
    storeElements .ride first (TableId.ride.pieces first data 1) s = some (storeRide x s) := by
  simp only [storeElements, parseAll_one h]

theorem storeElements_zone {x : ZoneTable} (h : zoneOf (TableId.zone.piece first data 0) = some x) :
    storeElements .zone first (TableId.zone.pieces first data 1) s = some { s with zone := x } := by
  simp only [storeElements, parseAll_one h]

theorem storeElements_wind {x : WindTable} (h : windOf (TableId.wind.piece first data 0) = some x) :
    storeElements .wind first (TableId.wind.pieces first data 1) s = some (storeWind x s) := by
  simp only [storeElements, parseAll_one h]

theorem storeElements_pass {x : PassElement} (hf : first < s.passList.length)
    (h : passOf (TableId.pass.piece first data 0) = some x) :
    storeElements .pass first (TableId.pass.pieces first data 1) s =
      some { s with passList := s.passList.set first x } := by
  simp only [storeElements, parseAll_one h, Option.map_some, overwrite_one hf]

theorem storeElements_profile {m : Nat} {steps : List Step} {x : Step} (hs : s.profiles[m]? = some steps)
    (hf : first < steps.length) (h : stepOf ((TableId.profile m).piece first data 0) = some x) :
    storeElements (.profile m) first ((TableId.profile m).pieces first data 1) s =
      some { s with profiles := s.profiles.set m (steps.set first x) } := by
  have hmodify : s.profiles.modify m (overwrite first [x]) = s.profiles.set m (steps.set first x) := by
    rw [List.modify_eq_set, hs, Option.getD_some, overwrite_one hf]
  simp only [storeElements, parseAll_one h, Option.map_some, hmodify]

/-! ### CABIN elements (R49) -/

theorem storeElements_cabin (hfit : first + n ≤ s.cabins.length) (hrun : s.run.running = false)
    (h : ∀ k, k < n → (cabinOf (TableId.cabin.piece first data k)).isSome = true) :
    ∃ u, storeElements .cabin first (TableId.cabin.pieces first data n) s = some u ∧
      u = retest { s with cabins := u.cabins } ∧ u.cabins.length = s.cabins.length ∧
      (∀ k, k < first ∨ first + n ≤ k → u.cabins[k]? = s.cabins[k]?) ∧
      ∀ (k : Nat) (x : CabinConfig) (c : Cabin), cabinOf (TableId.cabin.piece first data k) = some x →
        k < n → s.cabins[first + k]? = some c → u.cabins[first + k]? = some (c.loadFrom x) := by
  obtain ⟨xs, hxs, hlen, hget⟩ := parseAll_pieces h
  have hstore : storeCabins first xs s = retest { s with
      cabins := overwrite first (List.zipWith Cabin.loadFrom (s.cabins.drop first) xs) s.cabins } :=
    congrArg retest (cabinChanged_idle hrun)
  have hu : storeElements .cabin first (TableId.cabin.pieces first data n) s =
      some (storeCabins first xs s) := by simp only [storeElements, hxs, Option.map_some]
  rw [hstore] at hu
  refine ⟨_, hu, rfl, ?_, ?_, ?_⟩
  · exact overwrite_length rfl (by rwa [zipWith_drop_length (by omega), hlen])
  · exact fun k hk => overwrite_zipWith_outside (by omega) (by omega)
  · exact fun k x c hx hk hc => overwrite_zipWith_getElem? (by omega) hc ((hget k hk).trans hx)

/-! ### MAST elements (R112) -/

theorem storeElements_mast (hfit : first + n ≤ s.masts.length)
    (h : ∀ k, k < n → (mastOf (TableId.mast.piece first data k)).isSome = true) :
    ∃ masts, storeElements .mast first (TableId.mast.pieces first data n) s = some { s with masts := masts } ∧
      masts.length = s.masts.length ∧
      (∀ k, k < first ∨ first + n ≤ k → masts[k]? = s.masts[k]?) ∧
      ∀ (k : Nat) (x : MastConfig) (m : Mast), mastOf (TableId.mast.piece first data k) = some x →
        k < n → s.masts[first + k]? = some m →
        masts[first + k]? = some (m.configured x (s.mastFresh x.address)) := by
  obtain ⟨xs, hxs, hlen, hget⟩ := parseAll_pieces h
  have hu : storeElements .mast first (TableId.mast.pieces first data n) s =
      some (storeMasts first xs s) := by simp only [storeElements, hxs, Option.map_some]
  refine ⟨_, hu, ?_, ?_, ?_⟩
  · exact overwrite_length rfl (by rwa [zipWith_drop_length (by omega), hlen])
  · exact fun k hk => overwrite_zipWith_outside (by omega) (by omega)
  · exact fun k x c hx hk hc => overwrite_zipWith_getElem? (f := fun m x => m.configured x (s.mastFresh x.address))
      (by omega) hc ((hget k hk).trans hx)

end Sys2Proof.Machine

namespace Sys2Proof.Machine

set_option Elab.async false

variable {s : State} {t : TableId} {first n : Nat} {data : List Byte} {p q : Station}

/-! ### POLL elements parsed and stored (R77, R90) -/

theorem accepts_poll_entry {k : Nat} (bs : List Byte) (h : k ≠ 0) :
    TableId.poll.accepts k bs = (pollEntryOf bs).isSome := if_neg h

/-- The parameters, and the entries that go to the numbers from `first` − 1 on. -/
theorem parsePoll_pieces (hn : 1 ≤ n)
    (h : ∀ k, k < n → TableId.poll.accepts (first + k) (TableId.poll.piece first data k) = true) :
    ∃ p xs, parsePoll first (TableId.poll.pieces first data n) = some (p, xs) ∧
      (first = 0 → p = pollParamsOf (TableId.poll.piece first data 0)) ∧ (first ≠ 0 → p = none) ∧
      first - 1 + xs.length = first + n - 1 ∧
      ∀ k, k < n → 0 < first + k →
        xs[first + k - 1 - (first - 1)]? = pollEntryOf (TableId.poll.piece first data k) := by
  unfold parsePoll
  by_cases h0 : first = 0
  · subst h0
    obtain ⟨m, rfl⟩ := Nat.exists_eq_add_of_le' hn
    obtain ⟨x, hx⟩ := Option.isSome_iff_exists.mp (h 0 (Nat.succ_pos m))
    have hall : ∀ b ∈ (List.range m).map fun k => TableId.poll.piece 0 data (k + 1),
        (pollEntryOf b).isSome = true := by
      intro b hb
      obtain ⟨k, hk, rfl⟩ := List.mem_map.mp hb
      have := h (k + 1) (by simpa using hk)
      rwa [accepts_poll_entry _ (by omega)] at this
    obtain ⟨xs, hxs⟩ := parseAll_isSome hall
    have hlen := (parseAll_spec hxs).1
    rw [List.length_map, List.length_range] at hlen
    refine ⟨some x, xs, ?_, fun _ => hx.symm, fun h => absurd rfl h, by omega, fun k hk hpos => ?_⟩
    · rw [if_pos rfl, pieces_succ]
      simp only [hx, hxs]
    · obtain ⟨j, rfl⟩ := Nat.exists_eq_add_of_le' (show 1 ≤ k by omega)
      have hj : j < m := by omega
      rw [parseAll_getElem? hxs]
      simp [hj]
  · obtain ⟨xs, hxs, hlen, hget⟩ := parseAll_pieces (f := pollEntryOf) (t := .poll) (first := first)
      (data := data) (n := n) fun k hk => by
        have := h k hk
        rwa [accepts_poll_entry _ (by omega)] at this
    refine ⟨none, xs, by simp only [h0, if_false, hxs, Option.map_some], fun h => absurd h h0, fun _ => rfl,
      by omega, fun k hk _ => ?_⟩
    rw [← hget k hk]
    congr 1
    omega

theorem resetChanged_getElem? {os ns : List PollEntry} {rs : List ResultRecord} {k : Nat}
    {old new : PollEntry} {r : ResultRecord} (ho : os[k]? = some old) (hn : ns[k]? = some new)
    (hr : rs[k]? = some r) : (resetChanged os ns rs)[k]? =
      some (if old.address = new.address ∧ old.kind = new.kind then r else ResultRecord.initial) := by
  induction k generalizing os ns rs with
  | zero =>
    cases os <;> cases ns <;> cases rs <;> simp_all [resetChanged]
  | succ k ih =>
    cases os with
    | nil => simp at ho
    | cons o os =>
      cases ns with
      | nil => simp at hn
      | cons m ns =>
        cases rs with
        | nil => simp at hr
        | cons x rs => simpa [resetChanged] using ih (by simpa using ho) (by simpa using hn) (by simpa using hr)

/-! ### A platform station's freshness taken from a new list (R72, R90) -/

theorem station_congr {u : State} (ha : u.alightStation = s.alightStation)
    (hb : u.boardStation = s.boardStation) (q : Station) : u.station q = s.station q := by
  cases q
  · exact ha
  · exact hb

/-- The record of a station whose freshness has changed written, before the causes are reported: the
cabin in BOARDING is barred if it is the board station that leaves FRESH or goes STALE (R62, R72). -/
def State.freshnessNoted (s : State) (p : Station) (f : Freshness) : State :=
  let u := writeStation p { s.station p with freshness := f } s
  if p = .board ∧ ((s.station p).freshness = .fresh ∨ f = .stale) then barBoarding u else u

theorem stationFreshness_changed {f : Freshness} (h : (s.station p).freshness ≠ f) :
    stationFreshness p f s =
      retest (if f = .stale then stationStale p (s.freshnessNoted p f) else s.freshnessNoted p f) :=
  if_neg h

theorem freshnessNoted_holds (p : Station) (f : Freshness) : (s.freshnessNoted p f).holds = s.holds := by
  unfold State.freshnessNoted
  simp only
  split <;> simp

theorem freshnessNoted_station (p q : Station) (f : Freshness) : (s.freshnessNoted p f).station q =
    if q = p then { s.station p with freshness := f } else s.station q := by
  rw [← writeStation_station]
  unfold State.freshnessNoted
  simp only
  split
  · exact station_congr (by simp) (by simp) q
  · rfl

theorem stationFreshness_station (p q : Station) (f : Freshness) : (stationFreshness p f s).station q =
    if q = p then { s.station p with freshness := f } else s.station q := by
  by_cases h : (s.station p).freshness = f
  · have hself : stationFreshness p f s = s := if_pos h
    rw [hself]
    split
    · next hq => subst hq; rw [← h]
    · rfl
  · rw [stationFreshness_changed h, ← freshnessNoted_station]
    split
    · exact station_congr (by simp) (by simp) q
    · rfl

/-- An entry that a station gone STALE leaves (R72, R116). -/
def HoldEntry.stationStale (e : HoldEntry) : Bool := e.cause == 2 && e.cls == .stop

theorem entry_platformStale (s : State) (p : Station) :
    ((Machine.stationStale p s).entry .platform).any HoldEntry.stationStale = true := by
  have hplat : ((platformCause 2 p s).entry .platform).any HoldEntry.stationStale = true := by
    rw [platformCause, entry_causeReport_same]
    cases s.entry .platform with
    | none => rfl
    | some old =>
      simp only [Option.any_some, reportedEntry, higher_stop]
      split <;> rfl
  unfold Machine.stationStale
  cases s.zoneCabin p with
  | none => exact hplat
  | some k =>
    have hdoor : (doorCause 4 k (platformCause 2 p s)).entry .platform =
        (platformCause 2 p s).entry .platform := entry_causeReport_other (by decide) ..
    simp only
    rw [hdoor]
    exact hplat

theorem retest_platformStale : ((retest s).entry .platform).any HoldEntry.stationStale =
    (s.entry .platform).any HoldEntry.stationStale := by
  rw [entry_retest, Option.any_map]
  rfl

/-- The PLATFORM entry of a station gone STALE is there once one of the stations has gone STALE (R72). -/
theorem stationFreshness_platformStale {f : Freshness}
    (h : (s.entry .platform).any HoldEntry.stationStale = true ∨
      (s.station p).freshness ≠ .stale ∧ f = .stale) :
    ((stationFreshness p f s).entry .platform).any HoldEntry.stationStale = true := by
  by_cases hf : (s.station p).freshness = f
  · have hself : stationFreshness p f s = s := if_pos hf
    rw [hself]
    exact h.resolve_right fun ⟨hne, hs⟩ => hne (hf.trans hs)
  · rw [stationFreshness_changed hf, retest_platformStale]
    split
    · exact entry_platformStale ..
    · next hs =>
      rw [entry_congr (freshnessNoted_holds p f)]
      exact h.resolve_right fun hst => hs hst.2

/-! ### The sources of a new list (R78, R90) -/

section

variable (before : Option Nat × Option Nat)

/-- The state with a station's button released if its source has changed (R90). -/
def State.resourced (s : State) (p : Station) (before : Option Nat × Option Nat) : State :=
  if before = (s.stationEntry p, s.stationAddress p) then s
  else writeStation p { s.station p with pressed := false } s

theorem resource_eq : resource p before s =
    stationFreshness p ((s.resourced p before).stationFresh p) (s.resourced p before) := rfl

theorem resourced_stationFresh (q : Station) :
    (s.resourced p before).stationFresh q = s.stationFresh q := by
  unfold State.resourced
  split
  · rfl
  · cases p <;> rfl

theorem resourced_holds : (s.resourced p before).holds = s.holds := by
  unfold State.resourced
  split <;> simp

theorem resourced_station (q : Station) : (s.resourced p before).station q =
    if q = p then { s.station p with
      pressed := if before = (s.stationEntry p, s.stationAddress p) then (s.station p).pressed else false }
    else s.station q := by
  unfold State.resourced
  split
  · split
    · next hq => rw [hq]
    · rfl
  · exact writeStation_station ..

/-- What a new source leaves of the other records. -/
theorem resource_keeps :
    (resource p before s).pollParams = s.pollParams ∧ (resource p before s).pollEntries = s.pollEntries ∧
    (resource p before s).results = s.results ∧ (resource p before s).masts = s.masts ∧
    (resource p before s).wind = s.wind ∧ (resource p before s).trace = s.trace ∧
    (resource p before s).rx = s.rx ∧ (resource p before s).tracker = s.tracker ∧
    (resource p before s).ride = s.ride ∧ (resource p before s).windTable = s.windTable ∧
    (resource p before s).poller = s.poller := by
  rw [resource_eq]
  unfold State.resourced
  split <;> simp

theorem resource_station (q : Station) : (resource p before s).station q =
    if q = p then ⟨(s.station p).shown,
      if before = (s.stationEntry p, s.stationAddress p) then (s.station p).pressed else false,
      s.stationFresh p⟩
    else s.station q := by
  rw [resource_eq, stationFreshness_station, resourced_stationFresh, resourced_station, resourced_station,
    if_pos rfl]
  split <;> rfl

theorem resource_platformStale (h : (s.entry .platform).any HoldEntry.stationStale = true ∨
      (s.station p).freshness ≠ .stale ∧ s.stationFresh p = .stale) :
    ((resource p before s).entry .platform).any HoldEntry.stationStale = true := by
  rw [resource_eq]
  refine stationFreshness_platformStale ?_
  rw [resourced_stationFresh, entry_congr (resourced_holds before), resourced_station, if_pos rfl]
  exact h

end

end Sys2Proof.Machine

namespace Sys2Proof.Machine

set_option Elab.async false

variable {s : State} {t : TableId} {first n : Nat} {data : List Byte} {p q : Station}

/-! ### The consumers of a new poll list (R88, R90) -/

theorem stationFresh_congr {u : State} (hp : u.pollEntries = s.pollEntries) (hr : u.results = s.results)
    (q : Station) : u.stationFresh q = s.stationFresh q := by
  simp only [State.stationFresh, State.stationEntry, State.result, hp, hr]

theorem stationSource_congr {u : State} (hp : u.pollEntries = s.pollEntries) (q : Station) :
    (u.stationEntry q, u.stationAddress q) = (s.stationEntry q, s.stationAddress q) := by
  have haddress : u.addressOf = s.addressOf := by
    funext i
    simp only [State.addressOf, hp]
  simp only [State.stationEntry, State.stationAddress, haddress, hp]

theorem mastFresh_congr {u : State} (hp : u.pollEntries = s.pollEntries) (hr : u.results = s.results)
    (a : Nat) : u.mastFresh a = s.mastFresh a := by
  simp only [State.mastFresh, State.result, hp, hr]

/-- The poll list stored and the results of its changed entries reset (R90). -/
def State.withEntries (s : State) (es : List PollEntry) : State :=
  { s with pollEntries := es, results := resetChanged s.pollEntries es s.results }

/-- The freshness of both stations taken from a new poll list, the alight station's first (log entry 31). -/
def State.stationsResourced (s : State) (es : List PollEntry) : State :=
  resource .board (s.stationEntry .board, s.stationAddress .board)
    (resource .alight (s.stationEntry .alight, s.stationAddress .alight) (s.withEntries es))

theorem storeEntries_eq (es : List PollEntry) : storeEntries es s = retest { s.stationsResourced es with
    masts := (s.stationsResourced es).masts.map fun m =>
      m.withFreshness ((s.stationsResourced es).mastFresh m.address) } := rfl

theorem stationsResourced_keeps (es : List PollEntry) :
    (s.stationsResourced es).pollParams = s.pollParams ∧ (s.stationsResourced es).pollEntries = es ∧
    (s.stationsResourced es).results = resetChanged s.pollEntries es s.results ∧
    (s.stationsResourced es).masts = s.masts ∧ (s.stationsResourced es).wind = s.wind ∧
    (s.stationsResourced es).trace = s.trace ∧ (s.stationsResourced es).rx = s.rx ∧
    (s.stationsResourced es).tracker = s.tracker ∧ (s.stationsResourced es).ride = s.ride ∧
    (s.stationsResourced es).windTable = s.windTable ∧ (s.stationsResourced es).poller = s.poller := by
  simp only [State.stationsResourced, resource_keeps]
  exact ⟨rfl, rfl, rfl, rfl, rfl, rfl, rfl, rfl, rfl, rfl, rfl⟩

theorem stationsResourced_station (es : List PollEntry) (q : Station) :
    (s.stationsResourced es).station q = ⟨(s.station q).shown,
      if (s.stationEntry q, s.stationAddress q) =
          ((s.withEntries es).stationEntry q, (s.withEntries es).stationAddress q)
        then (s.station q).pressed else false,
      (s.withEntries es).stationFresh q⟩ := by
  obtain ⟨-, hentries, hresults, -⟩ := resource_keeps (s := s.withEntries es) (p := .alight)
    (s.stationEntry .alight, s.stationAddress .alight)
  rw [State.stationsResourced, resource_station, resource_station, resource_station,
    stationFresh_congr hentries hresults, stationSource_congr hentries]
  cases q <;> rfl

theorem stationsResourced_platformStale (es : List PollEntry) (q : Station)
    (hq : (s.station q).freshness ≠ .stale) (hf : (s.withEntries es).stationFresh q = .stale) :
    ((s.stationsResourced es).entry .platform).any HoldEntry.stationStale = true := by
  obtain ⟨-, hentries, hresults, -⟩ := resource_keeps (s := s.withEntries es) (p := .alight)
    (s.stationEntry .alight, s.stationAddress .alight)
  refine resource_platformStale _ ?_
  cases q with
  | alight => exact .inl (resource_platformStale _ (.inr ⟨hq, hf⟩))
  | board =>
    refine .inr ⟨?_, (stationFresh_congr hentries hresults _).trans hf⟩
    rw [resource_station]
    exact hq

/-- What a new poll list leaves of the other records, and what the masts take from it. -/
theorem storeEntries_keeps (es : List PollEntry) :
    (storeEntries es s).pollParams = s.pollParams ∧ (storeEntries es s).pollEntries = es ∧
    (storeEntries es s).results = resetChanged s.pollEntries es s.results ∧
    (storeEntries es s).masts =
      s.masts.map (fun m => m.withFreshness ((storeEntries es s).mastFresh m.address)) ∧
    (storeEntries es s).wind = s.wind ∧ (storeEntries es s).trace = s.trace ∧
    (storeEntries es s).rx = s.rx ∧ (storeEntries es s).tracker = s.tracker ∧
    (storeEntries es s).ride = s.ride ∧ (storeEntries es s).windTable = s.windTable ∧
    (storeEntries es s).poller = s.poller := by
  obtain ⟨hparams, hentries, hresults, hmasts, hwind, htrace, hrx, htracker, hride, htable, hpoller⟩ :=
    stationsResourced_keeps (s := s) es
  refine ⟨hparams, hentries, hresults, ?_, hwind, htrace, hrx, htracker, hride, htable, hpoller⟩
  rw [storeEntries_eq, ← hmasts]
  rfl

theorem storeEntries_station (es : List PollEntry) (q : Station) : (storeEntries es s).station q =
    ⟨(s.station q).shown,
      if (s.stationEntry q, s.stationAddress q) =
          ((storeEntries es s).stationEntry q, (storeEntries es s).stationAddress q)
        then (s.station q).pressed else false,
      (storeEntries es s).stationFresh q⟩ := by
  obtain ⟨-, hentries, hresults, -⟩ := storeEntries_keeps (s := s) es
  have hsource : ((storeEntries es s).stationEntry q, (storeEntries es s).stationAddress q) =
      ((s.withEntries es).stationEntry q, (s.withEntries es).stationAddress q) :=
    stationSource_congr hentries q
  have hfresh : (storeEntries es s).stationFresh q = (s.withEntries es).stationFresh q :=
    stationFresh_congr hentries hresults q
  rw [hsource, hfresh, ← stationsResourced_station]
  exact station_congr rfl rfl q

theorem storeEntries_platformStale (es : List PollEntry) (q : Station)
    (hq : (s.station q).freshness ≠ .stale) (hf : (storeEntries es s).stationFresh q = .stale) :
    ((storeEntries es s).entry .platform).any HoldEntry.stationStale = true := by
  obtain ⟨-, hentries, hresults, -⟩ := storeEntries_keeps (s := s) es
  have hfresh : (storeEntries es s).stationFresh q = (s.withEntries es).stationFresh q :=
    stationFresh_congr hentries hresults q
  rw [storeEntries_eq, retest_platformStale]
  exact stationsResourced_platformStale es q hq (hfresh ▸ hf)

theorem storeEntries_causes (es : List PollEntry) :
    (storeEntries es s).causes = (storeEntries es s).tests := by
  rw [storeEntries_eq, retest_causes, retest_tests]

/-! ### A cycle in flight cut (R90) -/

theorem windCycleEnd_tests : (windCycleEnd s).tests = s.tests := by
  have wind (u : State) : (reportWind u).tests = u.tests := by
    have absent (src : HoldSource) : (absenceReport src u).tests = u.tests :=
      tests_congr (by simp) (by simp) (by simp) (by simp)
    unfold reportWind
    split
    · exact absent _
    · exact absent _
    · exact causeReport_tests ..
    · exact causeReport_tests ..
  have masts (u : State) : (reportMasts u).tests = u.tests := by
    unfold reportMasts
    split
    · exact causeReport_tests ..
    · split
      · exact causeReport_tests ..
      · exact tests_congr (by simp) (by simp) (by simp) (by simp)
  have trace (l : WindLevel) (u : State) : (appendTrace l u).tests = u.tests :=
    tests_congr (by simp) (by simp) (by simp) (by simp)
  exact (trace ..).trans ((masts _).trans (wind _))

theorem finishCycle_tests : (finishCycle s).tests = s.tests := by
  have hprofile : (finishCycle s).tests = (windCycleEnd s.polledOut).tests :=
    tests_congr (by simp [finishCycle_eq]) (by simp [finishCycle_eq]) (by simp [finishCycle_eq])
      (by simp [finishCycle_eq])
  exact hprofile.trans windCycleEnd_tests

theorem finishCycle_entry_platform : (finishCycle s).entry .platform = s.entry .platform := by
  obtain ⟨-, -, -, hholds⟩ := finishCycle_frame_wind s
  exact (entry_congr hholds).trans (windCycleEnd_entry_other (s := s.polledOut) (by decide) (by decide))

theorem startCycle_keeps_tests : (startCycle s).tests = s.tests ∧
    (startCycle s).entry .platform = s.entry .platform := by
  unfold startCycle
  split
  · exact ⟨rfl, rfl⟩
  · split
    · exact ⟨rfl, rfl⟩
    · exact ⟨finishCycle_tests, finishCycle_entry_platform⟩

/-- The poller of a cycle cut, before a pending mark starts the next (R90). -/
def Poller.cut (p : Poller) : Poller :=
  { p with phase := .idle, inFlight := none, timer := none, pendingMark := false }

theorem cutCycle_of_idle (h : s.poller.phase = .idle) : cutCycle s = s :=
  if_neg fun hc => (inCycle_iff _).mp hc h

theorem cutCycle_of_inCycle (h : s.poller.phase ≠ .idle) : cutCycle s =
    if s.poller.pendingMark then startCycle { s with poller := s.poller.cut }
    else { s with poller := s.poller.cut } := if_pos ((inCycle_iff _).mpr h)

/-- A cycle cut leaves the records that a new poll list has been taken to. -/
theorem cutCycle_keeps :
    (cutCycle s).pollParams = s.pollParams ∧ (cutCycle s).pollEntries = s.pollEntries ∧
    (cutCycle s).results = s.results ∧ (cutCycle s).masts = s.masts ∧
    (cutCycle s).rx = s.rx ∧ (cutCycle s).tracker = s.tracker ∧ (cutCycle s).ride = s.ride ∧
    (cutCycle s).windTable = s.windTable ∧ (cutCycle s).alightStation = s.alightStation ∧
    (cutCycle s).boardStation = s.boardStation ∧ (cutCycle s).causes = s.causes ∧
    (cutCycle s).tests = s.tests ∧ (cutCycle s).entry .platform = s.entry .platform := by
  by_cases h : s.poller.phase = .idle
  · rw [cutCycle_of_idle h]
    exact ⟨rfl, rfl, rfl, rfl, rfl, rfl, rfl, rfl, rfl, rfl, rfl, rfl, rfl⟩
  · rw [cutCycle_of_inCycle h]
    split
    · obtain ⟨htests, hentry⟩ := startCycle_keeps_tests (s := { s with poller := s.poller.cut })
      refine ⟨?_, ?_, ?_, ?_, ?_, ?_, ?_, ?_, ?_, ?_, ?_, htests, hentry⟩ <;> simp only [startCycle_frame]
    · exact ⟨rfl, rfl, rfl, rfl, rfl, rfl, rfl, rfl, rfl, rfl, rfl, rfl, rfl⟩

theorem cutCycle_unstarted (h : s.poller.phase ≠ .idle)
    (hm : s.poller.pendingMark = false ∨ s.walked = []) :
    cutCycle s = { s with poller := s.poller.cut } := by
  rw [cutCycle_of_inCycle h]
  split
  · next hp =>
    have hempty : s.walked = [] := hm.resolve_left (by simp [hp])
    exact startCycle_of_empty hempty
  · rfl

theorem cutCycle_started (h : s.poller.phase ≠ .idle) (hm : s.poller.pendingMark = true) {j : Nat}
    (hj : s.nextEntry 0 = some j) : cutCycle s = { s with
      poller := { s.poller.cut with phase := .toPoll, inFlight := some j } } := by
  rw [cutCycle_of_inCycle h, if_pos hm]
  exact startCycle_of_next (s := { s with poller := s.poller.cut }) hj

end Sys2Proof.Machine

namespace Sys2Proof.Machine

set_option Elab.async false

variable {s : State} {first n : Nat} {data : List Byte}

/-! ### A POLL write stored (R90) -/

section

variable {p : Option PollParams} {xs : List PollEntry}

/-- The state whose poll list a POLL write stores: its parameters are stored already. -/
def State.withParams (s : State) (p : Option PollParams) : State :=
  { s with pollParams := p.getD s.pollParams }

theorem storePoll_eq : storePoll first p xs s =
    cutCycle (storeEntries (overwrite (first - 1) xs s.pollEntries) (s.withParams p)) := rfl

theorem storePoll_keeps :
    (storePoll first p xs s).pollParams = p.getD s.pollParams ∧
    (storePoll first p xs s).pollEntries = overwrite (first - 1) xs s.pollEntries ∧
    (storePoll first p xs s).results =
      resetChanged s.pollEntries (overwrite (first - 1) xs s.pollEntries) s.results ∧
    (storePoll first p xs s).masts =
      s.masts.map (fun m => m.withFreshness ((storePoll first p xs s).mastFresh m.address)) ∧
    (storePoll first p xs s).rx = s.rx ∧ (storePoll first p xs s).tracker = s.tracker ∧
    (storePoll first p xs s).ride = s.ride ∧ (storePoll first p xs s).windTable = s.windTable := by
  rw [storePoll_eq]
  generalize hes : overwrite (first - 1) xs s.pollEntries = es
  obtain ⟨hparams, hentries, hresults, hmasts, -, -, hrx, htracker, hride, htable, -⟩ :=
    storeEntries_keeps (s := s.withParams p) es
  obtain ⟨hparams', hentries', hresults', hmasts', hrx', htracker', hride', htable', -⟩ :=
    cutCycle_keeps (s := storeEntries es (s.withParams p))
  have hfresh := mastFresh_congr hentries' hresults'
  refine ⟨hparams'.trans hparams, hentries'.trans hentries, hresults'.trans hresults, ?_, hrx'.trans hrx,
    htracker'.trans htracker, hride'.trans hride, htable'.trans htable⟩
  simp only [hfresh]
  exact hmasts'.trans hmasts

theorem storePoll_station (q : Station) : (storePoll first p xs s).station q = ⟨(s.station q).shown,
    if (s.stationEntry q, s.stationAddress q) =
        ((storePoll first p xs s).stationEntry q, (storePoll first p xs s).stationAddress q)
      then (s.station q).pressed else false,
    (storePoll first p xs s).stationFresh q⟩ := by
  rw [storePoll_eq]
  obtain ⟨-, hentries, hresults, -, -, -, -, -, halight, hboard, -⟩ := cutCycle_keeps
    (s := storeEntries (overwrite (first - 1) xs s.pollEntries) (s.withParams p))
  rw [stationSource_congr hentries, stationFresh_congr hentries hresults, station_congr halight hboard]
  exact storeEntries_station (s := s.withParams p) _ q

theorem storePoll_platformStale {q : Station} (hq : (s.station q).freshness ≠ .stale)
    (hf : (storePoll first p xs s).stationFresh q = .stale) :
    ((storePoll first p xs s).entry .platform).any HoldEntry.stationStale = true := by
  rw [storePoll_eq] at hf ⊢
  obtain ⟨-, hentries, hresults, -, -, -, -, -, -, -, -, -, hentry⟩ := cutCycle_keeps
    (s := storeEntries (overwrite (first - 1) xs s.pollEntries) (s.withParams p))
  rw [hentry]
  rw [stationFresh_congr hentries hresults] at hf
  exact storeEntries_platformStale (s := s.withParams p) _ q hq hf

theorem storePoll_causes : (storePoll first p xs s).causes = (storePoll first p xs s).tests := by
  rw [storePoll_eq]
  obtain ⟨-, -, -, -, -, -, -, -, -, -, hcauses, htests, -⟩ := cutCycle_keeps
    (s := storeEntries (overwrite (first - 1) xs s.pollEntries) (s.withParams p))
  rw [hcauses, htests]
  exact storeEntries_causes _

/-- An IDLE poller stays as it is. -/
theorem storePoll_poller_idle (h : s.poller.phase = .idle) :
    (storePoll first p xs s).poller = s.poller := by
  have hpoller : (storeEntries (overwrite (first - 1) xs s.pollEntries) (s.withParams p)).poller = s.poller :=
    storeEntries_poller ..
  rw [storePoll_eq, cutCycle_of_idle (by rwa [hpoller]), hpoller]

/-- A cycle cut with no cycle to start after it. -/
theorem storePoll_unstarted (h : s.poller.phase ≠ .idle)
    (hm : s.poller.pendingMark = false ∨ (storePoll first p xs s).walked = []) :
    (storePoll first p xs s).poller = s.poller.cut ∧ (storePoll first p xs s).wind = s.wind ∧
      (storePoll first p xs s).trace = s.trace := by
  obtain ⟨-, -, -, -, hwind, htrace, -, -, -, -, hpoller⟩ := storeEntries_keeps
    (s := s.withParams p) (overwrite (first - 1) xs s.pollEntries)
  obtain ⟨-, hentries, -⟩ := cutCycle_keeps
    (s := storeEntries (overwrite (first - 1) xs s.pollEntries) (s.withParams p))
  have hpoller' : _ = s.poller := hpoller
  have hwalked : (storePoll first p xs s).walked = _ := congrArg walkedList hentries
  rw [hwalked] at hm
  rw [storePoll_eq, cutCycle_unstarted (by rwa [hpoller']) (by rwa [hpoller'])]
  exact ⟨congrArg Poller.cut hpoller', hwind, htrace⟩

/-- A cycle cut, and the next started at once on the new walked list. -/
theorem storePoll_started (h : s.poller.phase ≠ .idle) (hm : s.poller.pendingMark = true) {j : Nat}
    (hj : (storePoll first p xs s).nextEntry 0 = some j) :
    (storePoll first p xs s).poller = { s.poller.cut with phase := .toPoll, inFlight := some j } ∧
      (storePoll first p xs s).wind = s.wind ∧ (storePoll first p xs s).trace = s.trace := by
  obtain ⟨-, -, -, -, hwind, htrace, -, -, -, -, hpoller⟩ := storeEntries_keeps
    (s := s.withParams p) (overwrite (first - 1) xs s.pollEntries)
  obtain ⟨-, hentries, -⟩ := cutCycle_keeps
    (s := storeEntries (overwrite (first - 1) xs s.pollEntries) (s.withParams p))
  have hpoller' : _ = s.poller := hpoller
  rw [storePoll_eq, nextEntry_congr hentries] at hj
  rw [storePoll_eq, cutCycle_started (by rwa [hpoller']) (by rwa [hpoller']) hj, hpoller']
  exact ⟨rfl, hwind, htrace⟩

/-- What a stored POLL write leaves of a state, for its new parameters and entries (R90). -/
structure PollStored (s : State) (params : PollParams) (es : List PollEntry) (t : State) : Prop where
  params : t.pollParams = params
  entries : t.pollEntries = es
  results : t.results = resetChanged s.pollEntries es s.results
  masts : t.masts = s.masts.map fun m => m.withFreshness (t.mastFresh m.address)
  rx : t.rx = s.rx
  tracker : t.tracker = s.tracker
  ride : t.ride = s.ride
  windTable : t.windTable = s.windTable
  station (q : Station) : t.station q = ⟨(s.station q).shown,
    if (s.stationEntry q, s.stationAddress q) = (t.stationEntry q, t.stationAddress q)
      then (s.station q).pressed else false,
    t.stationFresh q⟩
  platform (q : Station) (hs : (s.station q).freshness ≠ .stale) (ht : t.stationFresh q = .stale) :
    (t.entry .platform).any HoldEntry.stationStale = true
  causes : t.causes = t.tests
  idle (h : s.poller.phase = .idle) : t.poller = s.poller
  unstarted (h : s.poller.phase ≠ .idle) (hm : s.poller.pendingMark = false ∨ t.walked = []) :
    t.poller = s.poller.cut ∧ t.wind = s.wind ∧ t.trace = s.trace
  started (h : s.poller.phase ≠ .idle) (hm : s.poller.pendingMark = true) (j : Nat)
    (hj : t.nextEntry 0 = some j) :
    t.poller = { s.poller.cut with phase := .toPoll, inFlight := some j } ∧ t.wind = s.wind ∧
      t.trace = s.trace

theorem storePoll_stored : PollStored s (p.getD s.pollParams)
    (overwrite (first - 1) xs s.pollEntries) (storePoll first p xs s) :=
  have ⟨hparams, hentries, hresults, hmasts, hrx, htracker, hride, htable⟩ :=
    storePoll_keeps (s := s) (first := first) (p := p) (xs := xs)
  ⟨hparams, hentries, hresults, hmasts, hrx, htracker, hride, htable, storePoll_station,
    fun _ => storePoll_platformStale, storePoll_causes, storePoll_poller_idle, storePoll_unstarted,
    fun h hm _ => storePoll_started h hm⟩

end

/-- A POLL write that passes its tests stores its parameters and its entries. -/
theorem storeElements_poll (hn : 1 ≤ n) (hfit : first + n ≤ s.pollEntries.length + 1)
    (h : ∀ k, k < n → TableId.poll.accepts (first + k) (TableId.poll.piece first data k) = true) :
    ∃ p es u, storeElements .poll first (TableId.poll.pieces first data n) s = some u ∧
      PollStored s p es u ∧
      (first = 0 → pollParamsOf (TableId.poll.piece first data 0) = some p) ∧
      (first ≠ 0 → p = s.pollParams) ∧ es.length = s.pollEntries.length ∧
      (∀ k, k < n → 0 < first + k →
        es[first + k - 1]? = pollEntryOf (TableId.poll.piece first data k)) ∧
      ∀ k, k + 1 < first ∨ first + n ≤ k + 1 → es[k]? = s.pollEntries[k]? := by
  obtain ⟨p, xs, hparse, hp, hnone, hlen, hget⟩ := parsePoll_pieces hn h
  have hstore : storeElements .poll first (TableId.poll.pieces first data n) s =
      some (storePoll first p xs s) := by simp only [storeElements, hparse, Option.map_some]
  refine ⟨_, _, _, hstore, storePoll_stored, fun h0 => ?_,
    fun h0 => by rw [hnone h0]; rfl, overwrite_length rfl (by omega), fun k hk hpos => ?_, fun k hk =>
      overwrite_getElem?_outside (by omega) (by omega)⟩
  · have hfirst := h 0 hn
    rw [TableId.accepts, if_pos (by omega), ← hp h0] at hfirst
    obtain ⟨x, rfl⟩ := Option.isSome_iff_exists.mp hfirst
    exact (hp h0).symm
  · have hplace : first + k - 1 = first - 1 + (first + k - 1 - (first - 1)) := by omega
    rw [← hget k hk hpos, hplace, overwrite_getElem? (by omega) (by omega)]
    congr 1
    omega

/-! ### The tables by their numbers (8.2) -/

/-- The number that names a table in a request (8.2). -/
def TableId.number : TableId → Nat
  | .ride => 1
  | .zone => 2
  | .cabin => 3
  | .wind => 4
  | .mast => 5
  | .poll => 6
  | .pass => 7
  | .profile m => m + 16

theorem tableOf_number {t : TableId} {table : Byte} (h : table.toNat = t.number) (hle : t.number ≤ 23) :
    tableOf table = some t := by
  unfold tableOf
  rw [h]
  cases t with
  | profile m =>
    have hm : 16 ≤ m + 16 ∧ m + 16 ≤ 23 := ⟨Nat.le_add_left .., hle⟩
    exact (if_pos hm).trans rfl
  | _ => rfl

theorem exists_number {i : Nat} (h : 1 ≤ i ∧ i ≤ 7 ∨ 16 ≤ i ∧ i ≤ 23) :
    ∃ t : TableId, i = t.number ∧ t.number ≤ 23 := by
  rcases h with h | h
  · obtain rfl | rfl | rfl | rfl | rfl | rfl | rfl :
      i = 1 ∨ i = 2 ∨ i = 3 ∨ i = 4 ∨ i = 5 ∨ i = 6 ∨ i = 7 := by omega
    exacts [⟨.ride, rfl, by decide⟩, ⟨.zone, rfl, by decide⟩, ⟨.cabin, rfl, by decide⟩,
      ⟨.wind, rfl, by decide⟩, ⟨.mast, rfl, by decide⟩, ⟨.poll, rfl, by decide⟩, ⟨.pass, rfl, by decide⟩]
  · exact ⟨.profile (i - 16), (Nat.sub_add_cancel h.1).symm, by simp only [TableId.number]; omega⟩

theorem tableOf_eq_none {table : Byte}
    (h : ¬(1 ≤ table.toNat ∧ table.toNat ≤ 7 ∨ 16 ≤ table.toNat ∧ table.toNat ≤ 23)) :
    tableOf table = none := by
  unfold tableOf
  split
  case h_8 => exact if_neg fun hm => h (.inr hm)
  all_goals omega

/-- The freshness of an address, from its source entry on the walked list or without one (R78). -/
theorem eq_mastFresh {a : Nat} {f : Freshness} (hzero : a = 0 → f = .unknown)
    (hsome : ∀ i, a ≠ 0 → (s.walked.findIdx? fun e : PollEntry => e.kind == .mast && e.address == a) = some i →
      f = (s.result i).freshness)
    (hnone : a ≠ 0 → (s.walked.findIdx? fun e : PollEntry => e.kind == .mast && e.address == a) = none →
      f = .unknown) : f = s.mastFresh a := by
  unfold State.mastFresh
  by_cases h : a = 0
  · simp only [mastSourceOf, h, if_true, hzero]
  · have hsource : mastSourceOf a s.pollEntries =
        s.walked.findIdx? fun e => e.kind == .mast && e.address == a := if_neg h
    rw [hsource]
    split
    · next i hi => exact hsome i h hi
    · next hi => exact hnone h hi

/-- The freshness of a station's source entry, or without one (R78). -/
theorem eq_stationFresh {q : Station} {f : Freshness}
    (hsome : ∀ i, s.stationEntry q = some i → f = (s.result i).freshness)
    (hnone : s.stationEntry q = none → f = .unknown) : f = s.stationFresh q := by
  unfold State.stationFresh
  split
  · next i hi => exact hsome i hi
  · next hi => exact hnone hi

end Sys2Proof.Machine

/-! ## TABLE WRITE settled (R157, R158) -/

namespace Sys2Proof.Machine

set_option Elab.async false

/-- Settles O51: the tests in their order, and then each table's own effects. -/
theorem tableWriteTested : Obligations.TableWriteTested := by
  intro s tag table first data hs answered wrote stored id known count size total piece accepts passes flagged
  have described (t : TableId) (ht : id = t.number) : count = t.elements ∧ accepts = t.accepts ∧
      total = t.total first.toNat ∧ piece = t.piece first.toNat data := by
    have hsize : size = t.elementSize := by
      funext k
      simp only [size, ht]
      cases t <;> rfl
    refine ⟨?_, funext fun k => funext fun bs => ?_, ?_, ?_⟩
    · simp only [count, ht]
      cases t <;> rfl
    · simp only [accepts, ht]
      cases t <;> rfl
    · simp only [total, hsize]
      rfl
    · simp only [piece, total, hsize]
      rfl
  have refused {st : Status} (h : writeTable table first data s = (st, [], s)) : answered (byte st.code) :=
    exec_tableWrite_refused hs h tag
  have writes (t : TableId) (ht : id = t.number) (hle : t.number ≤ 23) {n : Nat} {u v : State}
      (hm : s.modeRec.mode = .setup) (hn : 1 ≤ n) (hl : data.length = t.total first.toNat n)
      (hfit : first.toNat + n ≤ t.elements)
      (hu : storeElements t first.toNat (t.pieces first.toNat data n) (markUnchecked s) = some u)
      (hv : { u with modeRec := s.modeRec } = v) : wrote n v := by
    subst hv
    have hexec := exec_tableWrite_stored hs tag hm (tableOf_number ht hle) hn hl hfit hu
    exact hexec
  have one (t : TableId) (hl : data.length = t.elementSize first.toNat) :
      data.length = t.total first.toNat 1 := hl.trans (total_one ..).symm
  have passed (t : TableId) (ht : id = t.number) (hle : t.number ≤ 23) {n : Nat} (hp : passes n) :
      data.length = t.total first.toNat n ∧ first.toNat + n ≤ t.elements ∧
      (∀ k, k < n → t.accepts (first.toNat + k) (t.piece first.toNat data k) = true) ∧
      ∀ {u v : State},
        storeElements t first.toNat (t.pieces first.toNat data n) (markUnchecked s) = some u →
        { u with modeRec := s.modeRec } = v → wrote n v := by
    obtain ⟨hm, hn, hl, hfit, hall⟩ := hp
    obtain ⟨hcount, haccepts, htotal, hpiece⟩ := described t ht
    rw [htotal] at hl
    rw [hcount] at hfit
    rw [haccepts, hpiece] at hall
    exact ⟨hl, hfit, hall, fun hu hv => writes t ht hle hm hn hl hfit hu hv⟩
  refine ⟨fun hm => refused (writeTable_service hm), fun hm hk => ?_, fun hm hk hf => ?_,
    fun hm hk hf hl => ?_, fun hm hk hf n hn hl hfit => ?_, fun hm hk n hn hl hfit hr => ?_,
    fun hm hid hf hl z hz => ?_, fun hm hid hf hlen hl e he => ?_,
    fun hm m hle hid hf hl steps hsteps hlen x hx => ?_, fun hid hp hi x hx => ?_,
    fun hid n hp hrun hlen => ?_, fun hid hp x hx => ?_, fun hid n hp hlen => ?_,
    fun hid n hp hlen hres => ?_⟩
  · exact refused (writeTable_unknown hm (tableOf_eq_none hk))
  · obtain ⟨t, ht, hle⟩ := exists_number hk
    obtain ⟨hcount, -⟩ := described t ht
    exact refused (writeTable_first hm (tableOf_number ht hle) (hcount ▸ hf))
  · obtain ⟨t, ht, hle⟩ := exists_number hk
    obtain ⟨hcount, -, htotal, -⟩ := described t ht
    refine refused (writeTable_length hm (tableOf_number ht hle) (hcount ▸ hf) fun n hn => ?_)
    rcases hl with hl | hl
    · have hpos := elementSize_pos t first.toNat
      rw [hl, total_eq, List.length_nil] at hn
      omega
    · exact hl (n + 1) (htotal ▸ hn)
  · obtain ⟨t, ht, hle⟩ := exists_number hk
    obtain ⟨hcount, -, htotal, -⟩ := described t ht
    rw [hcount] at hf hfit
    rw [htotal] at hl
    refine refused ((writeTable_cut hm (tableOf_number ht hle) hf hn hl).trans (if_pos hfit))
  · obtain ⟨t, ht, hle⟩ := exists_number hk
    obtain ⟨hcount, haccepts, htotal, hpiece⟩ := described t ht
    obtain ⟨k, hkn, hr⟩ := hr
    rw [hcount] at hfit
    rw [htotal] at hl
    rw [haccepts, hpiece] at hr
    refine refused (st := .range) ?_
    rw [writeTable_cut hm (tableOf_number ht hle) (by omega) hn hl, if_neg (by omega),
      storeElements_eq_none hfit hkn hr]
  · have hpiece : zoneOf (TableId.zone.piece first.toNat data 0) = some z := by rwa [piece_whole hl]
    have hfirst : first.toNat = 0 := by simp [hf]
    exact writes .zone hid (by decide) hm (Nat.le_refl 1) (one .zone hl)
      (Nat.le_of_eq (by rw [hfirst]; rfl)) (storeElements_zone hpiece) rfl
  · have hpiece : passOf (TableId.pass.piece first.toNat data 0) = some e := by rwa [piece_whole hl]
    exact writes .pass hid (by decide) hm (Nat.le_refl 1) (one .pass hl) hf
      (storeElements_pass (s := markUnchecked s) (hf.trans_eq hlen.symm) hpiece) rfl
  · have hpiece : stepOf ((TableId.profile m).piece first.toNat data 0) = some x := by rwa [piece_whole hl]
    exact writes (.profile m) (hid.trans (Nat.add_comm ..)) (Nat.add_le_add_right hle 16) hm (Nat.le_refl 1)
      (one (.profile m) hl) hf
      (storeElements_profile (s := markUnchecked s) hsteps (hf.trans_eq hlen.symm) hpiece) rfl
  · obtain ⟨hl, -, -, hstore⟩ := passed .ride hid (by decide) hp
    rw [total_one] at hl
    have hpiece : rideOf (TableId.ride.piece first.toNat data 0) = some x := by rwa [piece_whole hl]
    have stores {u v : State} (hu : storeRide x (markUnchecked s) = u)
        (hv : { u with modeRec := s.modeRec } = v) : stored v :=
      hstore ((storeElements_ride hpiece).trans (congrArg some hu)) hv
    refine ⟨fun h => stores (storeRide_same h) rfl, fun h hsearch => ?_, fun h hknown hoff => ?_⟩
    · exact stores (storeRide_searching (s := markUnchecked s) hi h hsearch) rfl
    · exact ⟨s.positionHolds .creep 1,
        stores (storeRide_research (s := markUnchecked s) hi h hknown hoff) rfl,
        positionHolds_find .creep 1, positionHolds_others .creep 1, positionHolds_sources .creep 1⟩
  · obtain ⟨-, hfit, hall, hstore⟩ := passed .cabin hid (by decide) hp
    obtain ⟨-, -, -, hpiece⟩ := described .cabin hid
    obtain ⟨u, hu, heq, hlen', hout, hin⟩ := storeElements_cabin (s := markUnchecked s)
      (hfit.trans_eq hlen.symm) hrun hall
    rw [heq] at hu
    let loaded : State := { s with cabins := u.cabins }
    refine ⟨{ loaded with causes := loaded.tests, holds := s.holds.map (flagged loaded.tests) },
      hstore hu rfl, rfl, hlen'.trans hlen, hout, fun k x c hk hx hc => ?_⟩
    rw [hpiece] at hx
    exact hin k x c hx hk hc
  · obtain ⟨hl, -, -, hstore⟩ := passed .wind hid (by decide) hp
    rw [total_one] at hl
    have hpiece : windOf (TableId.wind.piece first.toNat data 0) = some x := by rwa [piece_whole hl]
    exact hstore (storeElements_wind hpiece) rfl
  · obtain ⟨-, hfit, hall, hstore⟩ := passed .mast hid (by decide) hp
    obtain ⟨-, -, -, hpiece⟩ := described .mast hid
    intro fresh
    obtain ⟨masts, hmasts, hlen', hout, hin⟩ := storeElements_mast (s := markUnchecked s)
      (hfit.trans_eq hlen.symm) hall
    have hfresh (a : Nat) : fresh a = s.mastFresh a :=
      eq_mastFresh (fun h => if_pos h) (fun i h hi => by simp only [fresh, if_neg h, hi])
        fun h hi => by simp only [fresh, if_neg h, hi]
    refine ⟨masts, hstore hmasts rfl, hlen'.trans hlen, hout, fun k x m hk hx hm => ?_⟩
    rw [hpiece] at hx
    rw [hfresh]
    exact hin k x m hx hk hm
  · obtain ⟨-, hfit, hall, hstore⟩ := passed .poll hid (by decide) hp
    obtain ⟨-, hn, -⟩ := hp
    obtain ⟨-, -, -, hpiece⟩ := described .poll hid
    obtain ⟨p, es, t, hu, ht, hfirst, hkept, hlen', hin, hout⟩ := storeElements_poll (s := markUnchecked s) hn
      (hfit.trans_eq (congrArg (· + 1) hlen.symm)) hall
    have hwrote : wrote n { t with modeRec := s.modeRec } := hstore hu rfl
    rw [← ht.entries] at hlen' hin hout
    refine ⟨t, hwrote, fun hf p' hp' => ?_, fun hf => ?_, hlen'.trans hlen, ?_, fun k x hk hpos hx => ?_,
      hout, fun k old new r ho hnew hr => ?_, ht.rx, ht.idle, fun hph => ⟨ht.unstarted hph,
        fun hm j hj hset hpassed => ht.started hph hm j ?_⟩, ?_, fun q => ?_, ht.causes, ht.tracker, ht.ride,
      ht.windTable⟩
    · have hparams := hfirst (by simp [hf])
      rw [← hpiece, hp'] at hparams
      exact ht.params.trans (Option.some.inj hparams).symm
    · exact ht.params.trans (hkept fun h => hf (BitVec.eq_of_toNat_eq h))
    · rw [ht.results, resetChanged_length]
      exact hres
    · rw [hpiece] at hx
      exact (hin k hk hpos).trans hx
    · rw [ht.results, ← ht.entries]
      exact resetChanged_getElem? ho hnew hr
    · exact nextEntry_eq_some (Nat.zero_le j) hj hset fun l _ => hpassed l
    · intro fresh
      have hfresh (a : Nat) : fresh a = t.mastFresh a :=
        eq_mastFresh (fun h => if_pos h) (fun i h hi => by simp only [fresh, if_neg h, hi])
          fun h hi => by simp only [fresh, if_neg h, hi]
      simp only [hfresh]
      exact ht.masts
    · intro first'
      have hsource : first' t = t.stationEntry q := rfl
      have hfresh : t.stationFresh q =
          (match first' t with | some i => (t.result i).freshness | none => .unknown) :=
        (eq_stationFresh (fun i hi => by simp only [hsource, hi]) fun hi => by simp only [hsource, hi]).symm
      refine ⟨(ht.station q).trans (congrArg₂ (StationRecord.mk _) (if_congr Prod.mk_inj rfl rfl) hfresh),
        fun hold hnew => ht.platform q hold ?_⟩
      rwa [ht.station q] at hnew

end Sys2Proof.Machine


/-! ## The bounds of the transmit queues through every step (R172, R174, R176) -/

namespace Sys2Proof.Machine

set_option Elab.async false

variable {s t : State}

/-- Power-on and a restart leave the queues empty and no wait outstanding (R165, R167). -/
theorem ResetRecords.queueInv (h : ResetRecords t) : QueueInv t := by
  obtain ⟨hqueue, hrequests, hwait, hdrive, -⟩ := h
  simp [QueueInv, hqueue, hrequests, hwait, hdrive, DriveQueue.initial]

/-- Settles O6, by what each change of an event keeps of the queues. -/
theorem queueBoundsKept : Obligations.QueueBoundsKept := by
  intro s t h hstep
  rcases step_work hstep with w | ⟨u, -, rfl | ⟨-, rfl⟩⟩
  · exact w.keeps (fun h a => a.keeps_queue h) (fun h a => a.keeps_queue h) h
  · exact (powerOn_resetRecords u).queueInv
  · exact (restart_resetRecords u).queueInv

end Sys2Proof.Machine


/-! ## The copy of a FEEDBACK in the console queue (R174, R175) -/

namespace Sys2Proof.Machine

set_option Elab.async false

variable {s t : State}

/-- The console queue has room for a frame that is no reply (R174). -/
theorem hasRoom_iff :
    s.hasRoom = true ↔ s.consoleQueue.length < if s.waitTag = none then 16 else 15 := by
  unfold State.hasRoom
  cases s.waitTag <;> simp

theorem queueOrFull_of_room (h : s.hasRoom = true) (f : Frame) :
    queueOrFull f s = s.queued [f] := if_pos h

theorem queueOrFull_of_full (h : s.hasRoom = false) (f : Frame) :
    queueOrFull f s = latch .queueFull s := if_neg (Bool.eq_false_iff.mp h)

/-! ### What the turns of the blocks place in the console queue (R153) -/

/-- From `s` to `t` nothing was placed in the console queue but the final reply of a waiting run, which
clears the marker (R153). -/
structure OnlyFinalReply (s t : State) : Prop where
  marker : t.waitTag = s.waitTag ∨ t.waitTag = none
  queue : t.waitTag = s.waitTag → t.consoleQueue = s.consoleQueue

namespace OnlyFinalReply

theorem refl (s : State) : OnlyFinalReply s s := ⟨.inl rfl, fun _ => rfl⟩

/-- A change that leaves the marker and the console queue. -/
theorem keep {u : State} (h : OnlyFinalReply s t) (hw : u.waitTag = t.waitTag := by simp)
    (hq : u.consoleQueue = t.consoleQueue := by simp) : OnlyFinalReply s u := by
  obtain ⟨hm, hk⟩ := h
  rw [← hw] at hm hk
  exact ⟨hm, fun hs => hq.trans (hk hs)⟩

theorem ite {c : Prop} [Decidable c] {u : State} (h : OnlyFinalReply s t) (h' : OnlyFinalReply s u) :
    OnlyFinalReply s (if c then t else u) := by
  split
  · exact h
  · exact h'

/-- Where the end of a run leaves the marker as it was, no wait was outstanding and no reply is made. -/
theorem after_endRun (h : OnlyFinalReply s t) (e : EndStatus) : OnlyFinalReply s (endRun e t) := by
  rw [endRun_eq]
  refine ⟨.inr rfl, fun hs => ?_⟩
  have hs : none = s.waitTag := hs
  have ht : t.waitTag = none := h.marker.elim (fun hm => hm.trans hs.symm) id
  have hparts : t.finalParts (byte e.code) = [] := by rw [State.finalParts, ht]
  simpa [hparts] using h.queue (ht.trans hs)

theorem after_startStep (h : OnlyFinalReply s t) : OnlyFinalReply s (startStep t) := h.keep

theorem of_nextStep (h : OnlyFinalReply s t) {u : State} (hn : nextStep t = some u) :
    OnlyFinalReply s u := by
  unfold nextStep at hn
  split at hn
  · cases hn; exact h.keep
  · split at hn
    · cases hn; exact h.keep
    · cases hn

theorem after_beginStep (h : OnlyFinalReply s t) (n : Nat) : OnlyFinalReply s (beginStep n t) := by
  induction n generalizing t with
  | zero => exact h.after_startStep
  | succ n ih =>
    have hstart := h.after_startStep
    refine ite (hstart.after_endRun _) (ite ?_ hstart)
    split
    · exact hstart.after_endRun _
    · next hn => exact ih (hstart.of_nextStep hn)

theorem after_stepMet (h : OnlyFinalReply s t) : OnlyFinalReply s (stepMet t) := by
  unfold stepMet
  split
  · exact h.after_endRun _
  · next hn => exact (h.of_nextStep hn).after_beginStep _

theorem after_cabinChanged (h : OnlyFinalReply s t) : OnlyFinalReply s (cabinChanged t) :=
  ite h.after_stepMet h

theorem after_profileFeedback (h : OnlyFinalReply s t) (d v : Int) (xs : List (Nat × Point)) :
    OnlyFinalReply s (profileFeedback d v xs t) :=
  have h' : OnlyFinalReply s
      { t with run := { t.run with travel := t.run.travel + BitVec.ofInt 32 d } } := h.keep
  ite h'.after_stepMet h'

theorem after_capture (h : OnlyFinalReply s t) (e : HoldEntry) : OnlyFinalReply s (capture e t) := h.keep

theorem after_stopEffects (h : OnlyFinalReply s t) (e : HoldEntry) :
    OnlyFinalReply s (stopEffects e t) := by
  have h' : OnlyFinalReply s { t with req := { t.req with armed := false } } := h.keep
  exact (ite (h'.after_endRun _) h').after_capture e

theorem after_stopEffectsIf (h : OnlyFinalReply s t) (c : Bool) (e : HoldEntry) :
    OnlyFinalReply s (stopEffectsIf c e t) := ite (h.after_stopEffects e) h

theorem after_causeReport (h : OnlyFinalReply s t) (src : HoldSource) (k : Nat) (c : HoldClass)
    (sub : Option Nat) : OnlyFinalReply s (causeReport src k c sub t) := by
  unfold causeReport
  split
  · exact (ite h.keep h.keep).after_stopEffectsIf ..
  · exact (h.keep : OnlyFinalReply s (putEntry _ t)).after_stopEffectsIf ..

theorem after_convert (h : OnlyFinalReply s t) : OnlyFinalReply s (convert t) := by
  have h' : OnlyFinalReply s { t with cabins := t.cabins.map (Cabin.converted t.ms) } := h.keep
  exact ite h'.after_cabinChanged h'

theorem after_setTracker (h : OnlyFinalReply s t) (r : Tracker) : OnlyFinalReply s (setTracker r t) := by
  have h' : OnlyFinalReply s { t with tracker := r } := h.keep
  have reported {u : State} (h : OnlyFinalReply s u) : OnlyFinalReply s (reportTracker u) := by
    unfold reportTracker
    split
    · exact (h.after_causeReport ..).after_convert
    · exact h.after_causeReport ..
    · exact h.keep
    · exact (h.after_causeReport ..).after_convert
  exact ite h' (reported h')

theorem after_takeOutcome (h : OnlyFinalReply s t) (o : IdOutcome) :
    OnlyFinalReply s (takeOutcome o t) := by
  have tracked (r : Tracker) : OnlyFinalReply s { t with tracker := r } := h.keep
  unfold takeOutcome
  split
  · exact h.after_setTracker _
  · split
    · exact h
    · exact tracked _
    · exact ite (tracked _) (tracked _).after_convert
  · exact h

/-- A crossing changes the cabin's record, latches at most, and reports the change. -/
theorem after_takeCrossing (h : OnlyFinalReply s t) (k : Nat) (p : Point) :
    OnlyFinalReply s (takeCrossing k p t) := by
  have recorded (g : Cabin → Cabin) : OnlyFinalReply s (modifyCabin k g t) := h.keep
  have latched (c : Bool) (e : Event) (g : Cabin → Cabin) :
      OnlyFinalReply s (latchIf c e (modifyCabin k g t)) := h.keep
  cases p with
  | idStart => exact ite (recorded _) h
  | idEnd => exact ite ((latched ..).after_takeOutcome _) h
  | aStart => exact ite (recorded _).after_cabinChanged h
  | bStart => exact ite (latched ..).after_cabinChanged h
  | lock => exact ite (h.after_causeReport ..) h
  | bEnd =>
    have withheld := recorded fun c => { c with withheld := none }
    have left (c : Bool) (e : Event) (g : Cabin → Cabin) : OnlyFinalReply s
        (latchIf c e (modifyCabin k g (modifyCabin k (fun c => { c with withheld := none }) t))) :=
      withheld.keep
    exact ite (ite (left ..).after_cabinChanged ((left ..).after_cabinChanged.after_causeReport ..))
      withheld

theorem after_takeCrossings (h : OnlyFinalReply s t) (xs : List (Nat × Point)) :
    OnlyFinalReply s (takeCrossings xs t) := by
  induction xs generalizing t with
  | nil => exact h
  | cons x xs ih => exact ite (ih (h.after_takeCrossing ..)) (h.after_takeCrossing ..)

theorem after_boardFeedback (h : OnlyFinalReply s t) (before : Tracker) :
    OnlyFinalReply s (boardFeedback before t) := by
  unfold boardFeedback
  split
  · exact h
  · exact ite h.after_convert (h.after_takeCrossings _)

theorem after_gateFeedback (h : OnlyFinalReply s t) (f : FeedbackFields) :
    OnlyFinalReply s (gateFeedback f t) := by
  have gated : OnlyFinalReply s (t.gated f) := h.keep rfl rfl
  rw [gateFeedback_eq]
  exact ite gated (gated.after_causeReport ..)

end OnlyFinalReply

/-- The turns of the blocks at a FEEDBACK place nothing but the final reply of a run that they end (R15,
R153). -/
theorem feedbackTurns_onlyFinalReply (f : FeedbackFields) (s : State) :
    OnlyFinalReply s (feedbackTurns f s) := by
  have gate := (OnlyFinalReply.refl s).after_gateFeedback f
  have noted (b c : Bool) : OnlyFinalReply s
      (latchIf b .missedMarker (latchIf c .strayMarker (gateFeedback f s))) := gate.keep
  have track : OnlyFinalReply s (trackFeedback (s.fb.state == .silent) f (gateFeedback f s)) :=
    (noted ..).after_setTracker _
  exact ((track.after_boardFeedback s.tracker).after_profileFeedback ..).keep rfl rfl

/-! ### The copy (R174, R175) -/

/-- With no frame placed by the turns, the copy stands at the end of the queue, or QUEUE_FULL is
latched. -/
theorem forwardFeedback_eq_queueOrFull (f : FeedbackFields) (s : State) :
    forwardFeedback f s.consoleQueue.length s = queueOrFull (feedbackFrame f) s := by
  simp only [forwardFeedback, queueOrFull, if_true]

/-- Settles O21: the turns leave the console queue of a FEEDBACK that ends no waiting run, and so its
room. -/
theorem feedbackForwarded : Obligations.FeedbackForwarded := by
  intro s t f he hw copy
  cases he
  have hwait : (feedbackTurns f s).waitTag = s.waitTag := by simpa [takeFeedback] using hw
  have hqueue := (feedbackTurns_onlyFinalReply f s).queue hwait
  have hroom := hasRoom_iff (s := feedbackTurns f s)
  rw [hqueue, hwait] at hroom
  have htake : takeFeedback f s = queueOrFull (feedbackFrame f) (feedbackTurns f s) := by
    rw [takeFeedback, ← hqueue, forwardFeedback_eq_queueOrFull]
  rw [htake]
  by_cases hr : (feedbackTurns f s).hasRoom = true
  · rw [if_pos (hroom.mp hr), queueOrFull_of_room hr]
    exact congrArg (· ++ [copy]) hqueue
  · rw [if_neg (hr ∘ hroom.mpr), queueOrFull_of_full (Bool.eq_false_iff.mpr hr)]
    exact ⟨hqueue, rfl⟩

end Sys2Proof.Machine


/-! ## Frames formed and received (R168, R169) -/

namespace Sys2Proof.Machine

set_option Elab.async false

variable {f : Frame}

theorem body_length (f : Frame) : f.body.length = f.payload.length + 3 := rfl

theorem chars_length (f : Frame) : f.chars.length = f.payload.length + 5 := by
  simp [Frame.chars, body_length]

/-- A frame that fits is received as it was formed. -/
theorem frameOf_chars (h : f.payload.length ≤ 60) : frameOf ⟨f.chars, true⟩ = some f := by
  have hlength : (byte f.payload.length).toNat = f.payload.length := by
    rw [toNat_byte]
    omega
  have hchars := chars_length f
  have hbody : f.chars.take (f.payload.length + 3) = f.body := List.take_left' (body_length f)
  have hcheck : f.chars.drop (f.payload.length + 3) = be2 (check f.body).toNat :=
    List.drop_left' (body_length f)
  have hcons : f.chars = f.kind :: f.address :: byte f.payload.length ::
    (f.payload ++ be2 (check f.body).toNat) := rfl
  unfold frameOf
  split
  · next kind address length rest heq =>
    cases hcons.symm.trans heq
    have htests : 5 ≤ f.chars.length ∧ f.chars.length ≤ 65 ∧
        (byte f.payload.length).toNat + 5 = f.chars.length := by omega
    obtain ⟨hlo, hhi, hlen⟩ := htests
    rw [if_pos ⟨rfl, hlo, hhi, hlen, by rw [hlength, hbody, hcheck]⟩, hlength, List.take_left]
  · next hno => exact absurd hcons (hno _ _ _ _)

/-- The characters of a frame that passes the tests of R168 and R169 are those of the frame formed. -/
theorem chars_of_frameOf {raw : RawFrame} (h : frameOf raw = some f) : raw.chars = f.chars := by
  obtain ⟨-, -, hlen, ⟨n, hn, hchars⟩, hcheck⟩ := frameOf_spec h
  have hbody : raw.chars = f.body ++ raw.chars.drop (f.payload.length + 3) := by
    have hbyte : byte f.payload.length = n := by rw [← hn, byte_toNat]
    simpa only [Frame.body, hbyte, List.cons_append] using hchars
  have htake : raw.chars.take (f.payload.length + 3) = f.body := by
    rw [hbody]
    exact List.take_left' (body_length f)
  rw [show raw.chars.length - 2 = f.payload.length + 3 by omega, htake] at hcheck
  rw [hbody, hcheck, Frame.chars]

/-! ### FEEDBACK fields on the line (9.5) -/

theorem feedbackPayload_eq_layFields (f : FeedbackFields) : feedbackPayload f =
    layFields [2, 4, 1, 4, 1, 1] [f.speed.toNat, f.rim.toNat, f.marker.toNat, f.latch.toNat,
      f.released.toNat, f.status.toNat] := by
  cases hm : f.marker <;> cases hr : f.released <;>
    simp [feedbackPayload, layFields, beField, be2, be4, flag, hm, hr, byte]

/-- The fields of a FEEDBACK survive the line. -/
theorem feedbackOf_feedbackPayload (f : FeedbackFields) : feedbackOf (feedbackPayload f) = some f := by
  have hcut : cutFields [2, 4, 1, 4, 1, 1] (feedbackPayload f) = [f.speed.toNat, f.rim.toNat,
      f.marker.toNat, f.latch.toNat, f.released.toNat, f.status.toNat] := by
    rw [feedbackPayload_eq_layFields]
    refine cutFields_layFields _ _ rfl ?_
    have := f.marker.toNat_lt
    have := f.released.toNat_lt
    simp
    omega
  have hlen : (feedbackPayload f).length = 13 := rfl
  simp only [feedbackOf, hcut]
  rw [if_pos ⟨hlen, Bool.toNat_le _, Bool.toNat_le _⟩]
  cases f with
  | mk speed rim marker latch released status => cases marker <;> cases released <;> simp

/-- The check value that R169 gives for the digits 1 to 9. -/
theorem check_of_digits :
    check [0x31, 0x32, 0x33, 0x34, 0x35, 0x36, 0x37, 0x38, 0x39] = 0x29B1 := by decide +kernel

/-- Settles O54, by the layout of a frame's characters and of its FEEDBACK payload. -/
theorem framesRoundTrip : Obligations.FramesRoundTrip := by
  refine ⟨check_of_digits, fun f h => frameOf_chars h, fun raw f h => ?_, fun f => ?_⟩
  · obtain ⟨hstop, hhi, hlen, -⟩ := frameOf_spec h
    exact ⟨chars_of_frameOf h, hstop, by omega⟩
  · have hdeliver : deliveryOf .drive (feedbackFrame f) =
        (feedbackOf (feedbackPayload f)).map Delivery.feedback := rfl
    rw [hdeliver, feedbackOf_feedbackPayload]
    rfl

end Sys2Proof.Machine


/-! ## AUX frames and the drive line (R174, R176, R177) -/

namespace Sys2Proof.Machine

set_option Elab.async false

variable {s : State} {line : Line} {kind : Byte}

/-! ### Leave to pass (R177) -/

theorem allowsDirection_iff {e : PassElement} (hl : line ≠ .field) : e.allowsDirection line = true ↔
    e.direction = 3 ∨ e.direction = if line = .console then 1 else 2 := by
  cases line with
  | console => simp [PassElement.allowsDirection, or_comm]
  | drive => simp [PassElement.allowsDirection, or_comm]
  | field => exact absurd rfl hl

theorem allowsMode_eq (e : PassElement) (m : Mode) :
    e.allowsMode m = if m = .setup then e.setupAllowed else e.serviceAllowed := by
  cases m <;> rfl

/-- The element that decides on a kind is the lowest-numbered set one of that kind. -/
theorem find?_passList_eq_some_iff {l : List PassElement} {e : PassElement} :
    l.find? (fun e => e.kind != 0 && e.kind == kind.toNat) = some e ↔
      ∃ i, l[i]? = some e ∧ e.kind ≠ 0 ∧ e.kind = kind.toNat ∧
        ∀ (j : Nat) (d : PassElement), j < i → l[j]? = some d → d.kind ≠ kind.toNat := by
  rw [List.find?_eq_some_iff_getElem]
  simp only [Bool.and_eq_true, bne_iff_ne, beq_iff_eq, Bool.not_eq_true', Bool.and_eq_false_iff]
  constructor
  · rintro ⟨⟨h0, hk⟩, i, hi, he, hbefore⟩
    refine ⟨i, List.getElem?_eq_some_iff.mpr ⟨hi, he⟩, h0, hk, fun j d hj hd hdk => ?_⟩
    obtain ⟨hj', rfl⟩ := List.getElem?_eq_some_iff.mp hd
    have := hbefore j hj
    simp_all
  · rintro ⟨i, he, h0, hk, hbefore⟩
    obtain ⟨hi, he⟩ := List.getElem?_eq_some_iff.mp he
    refine ⟨⟨h0, hk⟩, i, hi, he, fun j hj => .inr ?_⟩
    simpa using hbefore j _ hj (List.getElem?_eq_getElem (hj.trans hi))

theorem passes_iff (hl : line ≠ .field) : s.passes line kind = true ↔
    ∃ (i : Nat) (e : PassElement), s.passList[i]? = some e ∧ e.kind ≠ 0 ∧ e.kind = kind.toNat ∧
      (∀ (j : Nat) (d : PassElement), j < i → s.passList[j]? = some d → d.kind ≠ kind.toNat) ∧
      (e.direction = 3 ∨ e.direction = if line = .console then 1 else 2) ∧
      (if s.modeRec.mode = .setup then e.setupAllowed else e.serviceAllowed) = true := by
  have hfind : s.passes line kind = true ↔
      ∃ e, s.passList.find? (fun e => e.kind != 0 && e.kind == kind.toNat) = some e ∧
        e.allowsDirection line = true ∧ e.allowsMode s.modeRec.mode = true := by
    unfold State.passes
    cases s.passList.find? (fun e => e.kind != 0 && e.kind == kind.toNat) <;> simp
  rw [hfind]
  simp only [find?_passList_eq_some_iff, allowsDirection_iff hl, allowsMode_eq]
  constructor
  · rintro ⟨e, ⟨i, he, h0, hk, hbefore⟩, hd, hm⟩
    exact ⟨i, e, he, h0, hk, hbefore, hd, hm⟩
  · rintro ⟨i, e, he, h0, hk, hbefore, hd, hm⟩
    exact ⟨e, ⟨i, he, h0, hk, hbefore⟩, hd, hm⟩

theorem takeAux_console {f : Frame} (h : s.passes .console f.kind = true) :
    takeAux .console f s = queueAux f s := if_pos h

theorem takeAux_drive {f : Frame} (h : s.passes .drive f.kind = true) :
    takeAux .drive f s = queueOrFull f s := if_pos h

theorem takeAux_of_not_passes {f : Frame} (h : ¬s.passes line f.kind = true) :
    takeAux line f s = latch .frameDiscarded s := if_neg h

/-! ### The drive queue (R176) -/

theorem queueAux_of_full {f : Frame} (h : 3 ≤ s.driveQueue.aux.length) :
    queueAux f s = latch .queueFull s := if_neg h.not_gt

namespace DriveQueue

theorem started_eq (q : DriveQueue) : q.started =
    { q with sending := if q.sending ≠ .free then q.sending else if q.order ≠ none then .order
                        else if q.aux = [] then .free else .aux } := by
  obtain ⟨order, aux, sending⟩ := q
  cases sending <;> cases order <;> cases aux <;> rfl

variable {q : DriveQueue}

theorem sent_of_empty (hs : q.sending = .free) (ho : q.order = none) (ha : q.aux = []) : q.sent = q := by
  obtain ⟨order, aux, sending⟩ := q
  cases hs; cases ho; cases ha
  rfl

theorem sent_of_order (hs : q.sending = .order) :
    q.sent = ⟨none, q.aux, if q.aux = [] then .free else .aux⟩ := by
  simp [sent, hs, started_eq]

theorem sent_of_aux {f : Frame} {rest : List Frame} (hs : q.sending = .aux) (ha : q.aux = f :: rest) :
    q.sent = ⟨q.order, rest, if q.order ≠ none then .order else if rest = [] then .free else .aux⟩ := by
  simp [sent, hs, ha, started_eq]

end DriveQueue

/-- An AUX frame placed where there is a place, and started if the line is free. -/
theorem queueAux_of_place {f : Frame} (h : s.driveQueue.aux.length < 3) : queueAux f s =
    { s with driveQueue :=
      { order := s.driveQueue.order, aux := s.driveQueue.aux ++ [f]
        sending := if s.driveQueue.sending ≠ .free then s.driveQueue.sending
          else if s.driveQueue.order = none then .aux else .order } } := by
  rw [queueAux, if_pos h, DriveQueue.started_eq]
  cases s.driveQueue.order <;> simp

/-- Settles O57, by whether the frame passes, its line, and the room for it; and by what the drive line was
sending. -/
theorem auxFramesPassed : Obligations.AuxFramesPassed := by
  refine ⟨?_, ?_⟩
  · intro s line kind payload hl f passed full
    have hpassed : s.passes line f.kind = true ↔ passed := passes_iff hl
    have hexec : exec (.auxFrame line kind payload) s = .next (takeAux line f s) := rfl
    simp only [full, hexec]
    refine ⟨fun h => ?_, ?_, ?_⟩
    · rw [takeAux_of_not_passes (h ∘ hpassed.mp)]
      rfl
    · rintro h rfl
      rw [takeAux_drive (hpassed.mpr h)]
      refine ⟨fun hr => congrArg _ (queueOrFull_of_room (hasRoom_iff.mpr hr) f), fun hr => ?_⟩
      rw [queueOrFull_of_full (Bool.eq_false_iff.mpr fun h => hr.not_gt (hasRoom_iff.mp h))]
      rfl
    · rintro h rfl
      rw [takeAux_console (hpassed.mpr h)]
      refine ⟨fun hr => congrArg _ (queueAux_of_place hr), fun hr => ?_⟩
      rw [queueAux_of_full hr]
      rfl
  · intro s q
    have hexec : exec .driveFrameSent s = .next { s with driveQueue := q.sent } := rfl
    rw [hexec]
    refine ⟨fun hs ho ha => ?_, fun hs => ?_, fun f rest hs ha => ?_⟩
    · rw [DriveQueue.sent_of_empty hs ho ha]
    · rw [DriveQueue.sent_of_order hs]
    · rw [DriveQueue.sent_of_aux hs ha]

end Sys2Proof.Machine

/-! ## The latched events stand (R185)

An event is latched and never taken back, but for a STATUS READ and the resets.  `EventsStand s t` is that
law between two states; each operation `f` that may latch has a lemma `after_f`, and one that touches no
latched event is a `keep` by its frame lemma. -/

namespace Sys2Proof.Machine

set_option Elab.async false

variable {s t : State}

/-- Every event latched at `s` is latched at `t`. -/
structure EventsStand (s t : State) : Prop where
  has : ∀ e, s.latched.has e = true → t.latched.has e = true

namespace EventsStand

theorem refl (s : State) : EventsStand s s := ⟨fun _ he => he⟩

/-- A change that leaves the latched event set. -/
theorem keep {u : State} (h : EventsStand s t) (hl : u.latched = t.latched := by simp) :
    EventsStand s u :=
  ⟨fun e he => by rw [hl]; exact h.has e he⟩

theorem ite {c : Prop} [Decidable c] {u : State} (h : EventsStand s t) (h' : EventsStand s u) :
    EventsStand s (if c then t else u) := by
  split
  · exact h
  · exact h'

theorem after_latch (h : EventsStand s t) (e : Event) : EventsStand s (latch e t) :=
  ⟨fun f hf => by simp [h.has f hf]⟩

theorem after_latchIf (h : EventsStand s t) (c : Bool) (e : Event) : EventsStand s (latchIf c e t) :=
  ite (h.after_latch e) h

theorem after_retest (h : EventsStand s t) : EventsStand s (retest t) := h.keep

theorem after_barBoarding (h : EventsStand s t) : EventsStand s (barBoarding t) := h.keep

theorem after_endRun (h : EventsStand s t) (e : EndStatus) : EventsStand s (endRun e t) := h.keep

theorem after_cabinChanged (h : EventsStand s t) : EventsStand s (cabinChanged t) := h.keep

theorem after_profileCycleEnd (h : EventsStand s t) : EventsStand s (profileCycleEnd t) := h.keep

theorem after_convert (h : EventsStand s t) : EventsStand s (convert t) := h.keep

/-! ### Holds: the snapshot of a STOP may supersede another (R134) -/

theorem after_capture (h : EventsStand s t) (e : HoldEntry) : EventsStand s (capture e t) :=
  ite h.keep ((h.keep : EventsStand s { t with snaps := _ }).after_latch _)

theorem after_stopEffectsIf (h : EventsStand s t) (c : Bool) (e : HoldEntry) :
    EventsStand s (stopEffectsIf c e t) :=
  ite ((ite h.keep h.keep).after_capture e) h

theorem after_causeReport (h : EventsStand s t) (src : HoldSource) (k : Nat) (c : HoldClass)
    (sub : Option Nat) : EventsStand s (causeReport src k c sub t) := by
  unfold causeReport
  split
  · exact (ite h.keep h.keep).after_stopEffectsIf ..
  · exact (h.keep : EventsStand s (putEntry _ t)).after_stopEffectsIf ..

/-! ### Platform stations (R69 to R72) -/

theorem after_stationFreshness (h : EventsStand s t) (p : Station) (f : Freshness) :
    EventsStand s (stationFreshness p f t) := by
  have stale {u : State} (hu : EventsStand s u) : EventsStand s (stationStale p u) := by
    unfold stationStale
    split
    · exact hu.after_causeReport ..
    · exact (hu.after_causeReport ..).after_causeReport ..
  have written : EventsStand s (writeStation p { t.station p with freshness := f } t) := h.keep
  have barred := ite (c := p = .board ∧ ((t.station p).freshness = .fresh ∨ f = .stale))
    written.after_barBoarding written
  exact ite h (ite (stale barred) barred).after_retest

theorem after_takeStationAnswer (h : EventsStand s t) (p : Station) (a : StationAnswer) :
    EventsStand s (takeStationAnswer p a t) := by
  have answer {u : State} (hu : EventsStand s u) (c : Nat) : EventsStand s (applyAnswer a c u) :=
    have written (g : Cabin → Cabin) : EventsStand s (modifyCabin c g u) := hu.keep
    ite ((written _).after_causeReport ..) (written _)
  have button {u : State} (hu : EventsStand s u) : EventsStand s (takeButton p a.pressed u) :=
    have written (r : StationRecord) : EventsStand s (writeStation p r u) := hu.keep
    ite ((written _).after_causeReport ..) (written _)
  exact (button (ite (answer h _) h)).after_retest

/-! ### The rim tracker and the crossings (R29, R41, R42, R53) -/

theorem after_setTracker (h : EventsStand s t) (r : Tracker) : EventsStand s (setTracker r t) := by
  have reported {u : State} (hu : EventsStand s u) : EventsStand s (reportTracker u) := by
    unfold reportTracker
    split
    · exact (hu.after_causeReport ..).after_convert
    · exact hu.after_causeReport ..
    · exact hu.keep
    · exact (hu.after_causeReport ..).after_convert
  exact ite h.keep (reported h.keep)

theorem after_searchRead (h : EventsStand s t) (j : Nat) : EventsStand s (searchRead j t) := by
  unfold searchRead
  split
  · exact h
  · exact h.after_setTracker _

theorem after_takeOutcome (h : EventsStand s t) (o : IdOutcome) : EventsStand s (takeOutcome o t) := by
  unfold takeOutcome
  split
  · exact h.after_setTracker _
  · split
    · exact h
    · exact h.keep
    · exact ite h.keep h.keep
  · exact h

theorem after_passEnd (h : EventsStand s t) (k : Nat) : EventsStand s (passEnd k t) := by
  have left (c : Bool) (g : Cabin → Cabin) :
      EventsStand s (cabinChanged (latchIf c .countSaturated (modifyCabin k g t))) :=
    ((h.keep : EventsStand s (modifyCabin k g t)).after_latchIf c .countSaturated).keep
  exact ite (left ..) ((left ..).after_causeReport ..)

theorem after_takeCrossing (h : EventsStand s t) (k : Nat) (p : Point) :
    EventsStand s (takeCrossing k p t) := by
  have recorded (g : Cabin → Cabin) : EventsStand s (modifyCabin k g t) := h.keep
  have latched (c : Bool) (e : Event) (g : Cabin → Cabin) :
      EventsStand s (latchIf c e (modifyCabin k g t)) := (recorded g).after_latchIf c e
  cases p with
  | idStart => exact ite h.keep h
  | idEnd => exact ite ((latched ..).after_takeOutcome _) h
  | aStart => exact ite h.keep h
  | bStart => exact ite (latched ..).after_cabinChanged h
  | lock => exact ite (h.after_causeReport ..) h
  | bEnd => exact ite ((recorded _).after_passEnd k) (recorded _)

theorem after_takeCrossings (h : EventsStand s t) (xs : List (Nat × Point)) :
    EventsStand s (takeCrossings xs t) := by
  induction xs generalizing t with
  | nil => exact h
  | cons x xs ih => exact ite (ih (h.after_takeCrossing ..)) (h.after_takeCrossing ..)

theorem after_boardFeedback (h : EventsStand s t) (before : Tracker) :
    EventsStand s (boardFeedback before t) := by
  unfold boardFeedback
  split
  · exact h
  · exact ite h.keep (h.after_takeCrossings _)

theorem after_takeTagAnswer (h : EventsStand s t) (a : TagAnswer) :
    EventsStand s (takeTagAnswer a t) := by
  unfold takeTagAnswer
  split
  · split
    · exact h.after_latch _
    · split
      · exact h.after_searchRead _
      · exact h.keep
      · exact h.keep
      · exact h
  · exact h

/-! ### The drive gate's frames (R2, R15, R18) -/

theorem after_takeSetpoint (h : EventsStand s t) (v : Word16) : EventsStand s (takeSetpoint v t) := by
  have stored : EventsStand s (storeSetpoint v t) := 
    (h.keep : EventsStand s { t with req := _, expiries := _ }).after_latchIf _ .setpointClamped
  exact stored.keep (by simp [takeSetpoint])

theorem after_takeFeedback (h : EventsStand s t) (f : FeedbackFields) :
    EventsStand s (takeFeedback f t) := by
  have gate : EventsStand s (gateFeedback f t) := by
    have taken (x : FeedbackRecord) (y : Standstill) (z : RunRecord) :
        EventsStand s (retest { t with fb := x, still := y, run := z }) := h.keep
    exact ite (taken ..) ((taken ..).after_causeReport ..)
  have track : EventsStand s (trackFeedback (t.fb.state == .silent) f (gateFeedback f t)) :=
    ((gate.after_latchIf ..).after_latchIf ..).after_setTracker _
  have turns : EventsStand s (feedbackTurns f t) := 
    (track.after_boardFeedback t.tracker).keep (by simp [feedbackTurns])
  exact ite (ite turns.keep turns.keep) (turns.after_latch _)

theorem after_feedbackSilent (h : EventsStand s t) : EventsStand s (feedbackSilent t) :=
  (h.keep : EventsStand s { t with fb := _, still := _ }).after_retest.after_causeReport ..

/-! ### The wind monitor and the field poller (R84 to R86, R89, R99) -/

theorem after_windCycleEnd (h : EventsStand s t) : EventsStand s (windCycleEnd t) := by
  have wind {u : State} (hu : EventsStand s u) : EventsStand s (reportWind u) := by
    unfold reportWind
    split
    · exact hu.keep
    · exact hu.keep
    · exact hu.after_causeReport ..
    · exact hu.after_causeReport ..
  have masts {u : State} (hu : EventsStand s u) : EventsStand s (reportMasts u) :=
    ite (hu.after_causeReport ..) (ite (hu.after_causeReport ..) hu.keep)
  have trace {u : State} (hu : EventsStand s u) (l : WindLevel) : EventsStand s (appendTrace l u) :=
    have traced (w : WindTrace) : EventsStand s { u with trace := w } := hu.keep
    ite ((traced _).after_latchIf ..) ((traced _).after_latchIf ..)
  exact trace (masts (wind h.keep)) _

theorem after_finishCycle (h : EventsStand s t) : EventsStand s (finishCycle t) :=
  (h.keep : EventsStand s { t with poller := _ }).after_windCycleEnd.after_profileCycleEnd

theorem after_startCycle (h : EventsStand s t) : EventsStand s (startCycle t) := by
  refine ite h ?_
  split
  · exact h.keep
  · exact h.after_finishCycle

theorem after_moveOn (h : EventsStand s t) (i : Nat) : EventsStand s (moveOn i t) := by
  unfold moveOn
  split
  · exact h.keep
  · have ended := h.after_finishCycle
    exact ite (ended.keep : EventsStand s { finishCycle t with poller := _ }).after_startCycle ended

theorem after_recordResult (h : EventsStand s t) (i : Nat) (r : PollResult) :
    EventsStand s (recordResult i r t) := by
  have fresh {u : State} (hu : EventsStand s u) (f : Freshness) :
      EventsStand s (reportFreshness i f u) := by
    unfold reportFreshness
    split
    · exact hu.keep
    · exact ite (hu.after_stationFreshness ..) hu
    · exact ite (hu.after_stationFreshness ..) hu
    · exact hu
    · exact hu
  exact ite h.keep (fresh h.keep _)

theorem after_handContent (h : EventsStand s t) (i : Nat) (c : AnswerContent) :
    EventsStand s (handContent i c t) := by
  cases c with
  | mast a => exact (h.keep : EventsStand s { t with masts := _ }).after_latchIf ..
  | station p a => exact ite (h.after_takeStationAnswer p a) h
  | tag a => exact h.after_takeTagAnswer a

theorem after_settleFrame (h : EventsStand s t) (i : Nat) (raw : RawFrame) :
    EventsStand s (settleFrame i raw t) := by
  unfold settleFrame
  split
  · exact ((h.after_latch _).after_recordResult ..).after_moveOn i
  · split
    · exact (h.after_recordResult ..).after_moveOn i
    · exact ((h.after_recordResult ..).after_handContent ..).after_moveOn i

theorem after_discardFieldFrame (h : EventsStand s t) : EventsStand s (discardFieldFrame t) :=
  ite h.keep ((h.keep : EventsStand s (setFieldBuffer .empty t)).after_latch _)

theorem after_fieldFrame (h : EventsStand s t) (raw : RawFrame) : EventsStand s (fieldFrame raw t) := by
  obtain ⟨i, -, hi⟩ | ⟨-, hi⟩ := fieldFrame_cases raw t <;> rw [hi]
  · exact (h.keep : EventsStand s (setFieldBuffer .empty t)).after_settleFrame i raw
  · exact h.after_discardFieldFrame

theorem after_overrun (h : EventsStand s t) (i : Nat) : EventsStand s (overrun i t) :=
  ((h.keep : EventsStand s (setFieldBuffer .receiving t)).after_recordResult ..).after_moveOn i

theorem after_takeAux (h : EventsStand s t) (line : Line) (f : Frame) :
    EventsStand s (takeAux line f t) := by
  refine ite ?_ (h.after_latch _)
  split
  · exact ite h.keep (h.after_latch _)
  · exact ite h.keep (h.after_latch _)

/-! ### Tables (R157, R158) -/

theorem after_storePoll (h : EventsStand s t) (first : Nat) (p : Option PollParams)
    (xs : List PollEntry) : EventsStand s (storePoll first p xs t) := by
  have source {u : State} (hu : EventsStand s u) (q : Station) (before : Option Nat × Option Nat) :
      EventsStand s (resource q before u) :=
    have released (r : StationRecord) : EventsStand s (writeStation q r u) := hu.keep
    (ite hu (released _)).after_stationFreshness ..
  have entries {u : State} (hu : EventsStand s u) (es : List PollEntry) :
      EventsStand s (storeEntries es u) := by
    have reset (rs : List ResultRecord) : EventsStand s { u with pollEntries := es, results := rs } :=
      hu.keep
    have told (rs : List ResultRecord) (b c : Option Nat × Option Nat) (ms : List Mast) :
        EventsStand s { resource .board c (resource .alight b
          { u with pollEntries := es, results := rs }) with masts := ms } :=
      (source (source (reset rs) .alight b) .board c).keep
    exact (told ..).after_retest
  have cut {u : State} (hu : EventsStand s u) : EventsStand s (cutCycle u) :=
    have idle (q : Poller) : EventsStand s { u with poller := q } := hu.keep
    ite (ite (idle _).after_startCycle (idle _)) hu
  exact cut (entries h.keep _)

theorem of_storeElements (h : EventsStand s t) {id : TableId} {first : Nat} {es : List (List Byte)}
    {u : State} (hu : storeElements id first es t = some u) : EventsStand s u := by
  cases id <;> simp only [storeElements, Option.map_eq_some_iff] at hu
  case ride =>
    split at hu <;> cases hu
    exact ite ((h.keep : EventsStand s { t with ride := _ }).after_setTracker _).after_retest h.keep
  case zone => split at hu <;> cases hu; exact h.keep
  case wind => split at hu <;> cases hu; exact h.keep rfl
  all_goals obtain ⟨x, -, rfl⟩ := hu
  case cabin => exact h.keep (by simp [storeCabins])
  case poll => exact h.after_storePoll ..
  all_goals exact h.keep rfl

theorem after_serveTableWrite (h : EventsStand s t) (id first : Byte) (data : List Byte) :
    EventsStand s (serveTableWrite id first data t).2 := by
  simp only [serveTableWrite, writeTable]
  have unchecked : EventsStand s (markUnchecked t) := h.keep rfl
  repeat' split
  case h_2 hu => exact unchecked.of_storeElements hu
  all_goals exact h

/-! ### The other requests (R180) -/

theorem ite_served {c : Prop} [Decidable c] {x y : Served} (h : EventsStand s x.2)
    (h' : EventsStand s y.2) : EventsStand s (if c then x else y).2 := by
  split
  · exact h
  · exact h'

theorem after_serveModeSet (h : EventsStand s t) (code : Byte) :
    EventsStand s (serveModeSet code t).2 := by
  have service : EventsStand s (serveModeService t).2 := by
    refine ite_served h ?_
    split
    · exact h
    · exact h.keep rfl
  exact ite_served service (ite_served (ite_served h (ite_served (h.keep rfl) h)) h)

theorem after_serveCabinSet (h : EventsStand s t) (cabin action count : Byte) :
    EventsStand s (serveCabinSet cabin action count t).2 := by
  have confirm (k n : Nat) (f : Cabin → Cabin) : EventsStand s (confirmCount k n f t) :=
    ((h.keep : EventsStand s (modifyCabin k _ t)).after_latchIf ..).after_cabinChanged.after_retest
  have answer (k : Nat) {o : Option State} (ho : ∀ u, o = some u → EventsStand s u) :
      EventsStand s (cabinSetReply k t o).2 := by
    cases o with
    | none => exact h
    | some u => exact ho u rfl
  refine ite_served h (ite_served ?verify (ite_served ?correct
    (ite_served ?takeOut (ite_served ?back h)))) <;> refine answer _ fun u hu => ?_
  case verify => unfold cabinVerify at hu; split at hu <;> cases hu; exact confirm ..
  case correct => unfold cabinCorrect at hu; split at hu <;> cases hu; exact confirm ..
  case takeOut => unfold cabinTakeOut at hu; split at hu <;> cases hu; exact h.keep
  case back => unfold cabinReturn at hu; split at hu <;> cases hu; exact h.keep

theorem after_serveHoldPlace (h : EventsStand s t) (code : Byte) :
    EventsStand s (serveHoldPlace code t).2 := by
  unfold serveHoldPlace
  split
  · exact h
  · exact h.after_causeReport ..

theorem after_serveHoldRelease (h : EventsStand s t) (code : Byte) :
    EventsStand s (serveHoldRelease code t).2 := by
  have released {e : HoldEntry} : EventsStand s (releasePosition e t) :=
    (h.keep : EventsStand s { putEntry (creepForm e) t with tracker := _ }).after_convert.after_retest
  have removed (src : HoldSource) : EventsStand s (removeEntry src t) := h.keep
  unfold serveHoldRelease
  split
  · exact h
  · split
    · exact h
    · split
      · exact h
      · exact h
      · exact h
      · exact ite_served released h
      · exact removed _
      · exact ite_served h (removed _)

theorem after_serveSnapshotTake (h : EventsStand s t) : EventsStand s (serveSnapshotTake t).2 := by
  refine ite_served h ?_
  split
  · exact h
  · exact h.keep rfl

theorem after_serveProfileRun (h : EventsStand s t) (tag n r w : Byte) :
    EventsStand s (serveProfileRun tag n r w t).2 := by
  unfold serveProfileRun
  split
  · exact h
  · exact h.keep (by simp [acceptRun])

/-- Of the eighteen requests STATUS READ alone clears latched events, whatever the arguments (R182). -/
theorem after_serveKind (h : EventsStand s t) {k : RequestKind} (hk : k ≠ .statusRead) (tag : Byte)
    (args : List Byte) : EventsStand s (serveKind k tag args t).2 := by
  have none0 {f : State → Served} (hf : EventsStand s (f t).2) : EventsStand s (serve0 f args t).2 := by
    unfold serve0; split
    · exact hf
    · exact h
  have one {f : Byte → State → Served} (hf : ∀ a, EventsStand s (f a t).2) :
      EventsStand s (serve1 f args t).2 := by
    unfold serve1; split
    · exact hf _
    · exact h
  have two {f : Byte → Byte → State → Served} (hf : ∀ a b, EventsStand s (f a b t).2) :
      EventsStand s (serve2 f args t).2 := by
    unfold serve2; split
    · exact hf ..
    · exact h
  have three {f : Byte → Byte → Byte → State → Served}
      (hf : ∀ a b c, EventsStand s (f a b c t).2) : EventsStand s (serve3 f args t).2 := by
    unfold serve3; split
    · exact hf ..
    · exact h
  have rest {f : Byte → Byte → List Byte → State → Served}
      (hf : ∀ a b d, EventsStand s (f a b d t).2) : EventsStand s (serveRest f args t).2 := by
    unfold serveRest; split
    · exact hf ..
    · exact h
  cases k with
  | statusRead => exact absurd rfl hk
  | modeSet => exact one h.after_serveModeSet
  | restart => exact none0 (ite_served h (h.keep rfl))
  | tableWrite => exact rest h.after_serveTableWrite
  | tableRead => exact three fun _ _ _ => h
  | cabinRead => exact two fun _ _ => ite_served h h
  | cabinSet => exact three h.after_serveCabinSet
  | holdPlace => exact one h.after_serveHoldPlace
  | holdRelease => exact one h.after_serveHoldRelease
  | holdList => exact none0 h
  | snapshotTake => exact none0 h.after_serveSnapshotTake
  | profileRun => exact three (h.after_serveProfileRun tag)
  | profileStop => exact none0 (ite_served (h.after_endRun .aborted) h)
  | profileStatus => exact none0 h
  | windRead => exact none0 h
  | traceTake => exact one fun _ => ite_served h (ite_served h (h.keep rfl))
  | pollNow => exact none0 (ite h.keep h.after_startCycle)
  | pollResults => exact none0 h

theorem after_takeRequest (h : EventsStand s t) {q : Request}
    (hq : requestKindOf q.code ≠ some .statusRead) : EventsStand s (takeRequest q t) := by
  have served : EventsStand s (serveRequest q t).2 := by
    unfold serveRequest
    split
    · exact h
    · next k hk => exact h.after_serveKind (fun he => hq (he ▸ hk)) ..
  unfold takeRequest placeReply
  split
  · exact served.keep
  · exact served

/-- A request that finds the buffer empty is served alone, or waits (R172). -/
theorem after_receiveRequest (h : EventsStand s t) (hr : t.requests = []) {code : Byte}
    (hq : requestKindOf code ≠ some .statusRead) (tag : Byte) (args : List Byte) :
    EventsStand s (receiveRequest ⟨code, tag, args⟩ t) := by
  cases hm : t.mayTake with
  | true =>
    have taken : receiveRequest ⟨code, tag, args⟩ t = takeRequest ⟨code, tag, args⟩ t :=
      Host.Outcome.next.inj (exec_request_of_empty hr hm ⟨code, tag, args⟩)
    rw [taken]
    exact h.after_takeRequest hq
  | false =>
    have waits : receiveRequest ⟨code, tag, args⟩ t =
        { t with requests := t.requests ++ [⟨code, tag, args⟩] } :=
      Host.Outcome.next.inj (exec_request_waits (by simp [hr]) hm ⟨code, tag, args⟩)
    rw [waits]
    exact h.keep

/-! ### Frames at their end and frames sent (R168 to R174) -/

/-- A frame that its line's tests discard is delivered nowhere. -/
theorem after_receiveFrame (h : EventsStand s t) {line : Line} {raw : RawFrame}
    (hd : discards line raw = true) : EventsStand s (receiveFrame line raw t) := by
  cases line with
  | field => exact h.after_fieldFrame raw
  | console | drive =>
    have hnone : receptionOf _ raw = none := Option.isNone_iff_eq_none.mp hd
    simp only [receiveFrame, hnone]
    exact h.after_latch _

/-- With no request waiting and no restart pending the frame leaves the queue and no more follows. -/
theorem after_consoleFrameSent (h : EventsStand s t) (hr : t.requests = [])
    (hp : t.modeRec.restartPending = false) : EventsStand s (consoleFrameSent t) := by
  unfold consoleFrameSent
  split
  · exact h
  · next rest _ =>
    have sent : EventsStand s { t with consoleQueue := rest } := h.keep
    rw [hp, Bool.false_and, if_neg Bool.false_ne_true,
      takeWaiting_nil (s := { t with consoleQueue := rest }) hr]
    exact sent

end EventsStand

/-- Settles O14: the two operations that clear latched events, a STATUS READ served and a reset, are out of
reach with no request waiting and no restart pending, and every other operation only latches. -/
theorem latchedEventsStand : Obligations.LatchedEventsStand := by
  intro c s t e hr hp hw hc he
  suffices h : EventsStand s t from h.has e
  have h := EventsStand.refl s
  cases c with
  | resetn | request | statusRead => exact hc.elim
  | setpoint v => cases he; exact h.after_takeSetpoint v
  | feedback f => cases he; exact h.after_takeFeedback f
  | auxFrame line kind payload => cases he; exact h.after_takeAux ..
  | discardedFrame line raw => cases he; exact h.after_receiveFrame (Bool.and_eq_true_iff.mp hw).2
  | answer raw => cases he; exact h.after_fieldFrame raw
  | lateAnswer raw | unsolicitedFrame raw => cases he; exact h.after_discardFieldFrame
  | replyWaitExpiry =>
    simp only [exec, execReplyWaitExpiry] at he
    split at he <;> cases he
    · exact (h.keep : EventsStand s { s with poller := _ }).after_recordResult ..
    · exact h
  | lateWindowEnd =>
    simp only [exec, execLateWindowEnd] at he
    split at he <;> cases he
    · exact h.after_moveOn _
    · exact h
  | settlingFrameOverrun =>
    simp only [exec, execSettlingFrameOverrun] at he
    split at he <;> cases he
    · exact h.after_overrun _
    · exact h.after_overrun _
    · exact h
  | poll =>
    simp only [exec, execPoll] at he
    split at he <;> cases he
    · exact .ite h.keep h
    · exact h
  | pollTimerExpiry =>
    simp only [exec, execPollTimerExpiry] at he
    have timed (x : Timers) : EventsStand s { s with timers := x } := h.keep
    split at he <;> cases he
    · exact (timed _).after_latch _
    · exact (timed _).after_startCycle
  | drivePeriodExpiry => cases he; exact h.keep
  | staleExpiry => cases he; exact .ite h.keep h
  | lossExpiry =>
    cases he
    have disarmed (x : AgeExpiries) : EventsStand s { s with expiries := x } := h.keep
    exact .ite ((disarmed _).after_causeReport ..) h
  | feedbackTimeout => cases he; exact .ite h.after_feedbackSilent h
  | statusPeriodExpiry => cases he; exact .ite h.keep h.keep
  | dwellTimerExpiry => cases he; exact .ite h.keep h
  | durationTimerExpiry => cases he; exact .ite h.keep h
  | restartTakesEffect =>
    cases he
    rw [if_neg (by simp [hp])]
    exact h
  | consoleFrameSent => cases he; exact h.after_consoleFrameSent hr hp
  | driveFrameSent => cases he; exact h.keep
  | entrySettled =>
    simp only [exec, execEntrySettled] at he
    split at he <;> cases he
    · exact h.keep
    · exact h
    · exact h.keep
  | unknownRequest code tag args =>
    cases he
    have hnone : requestKindOf code = none :=
      Option.isNone_iff_eq_none.mp (Bool.and_eq_true_iff.mp hw).1
    exact h.after_receiveRequest hr (by simp [hnone]) ..
  | _ => cases he; exact h.after_receiveRequest hr (by decide) ..

end Sys2Proof.Machine

/-! ## The step: the front of the queue, or the clock (log entries 2 and 3) -/

namespace Sys2Proof.Machine

set_option Elab.async false

variable {s t : State} {c i j : Instr} {is rest : List Instr}

/-! ### What each kind of step does -/

/-- A step with a command waiting takes the one at the front, with the queue's rest. -/
theorem step_of_pending_cons (h : s.pending = c :: rest) :
    step s = exec c { s with pending := rest } := by
  simp only [step, h]

/-- A step on an empty queue with an expiry to take takes it. -/
theorem step_of_nextDue_some (hq : s.pending = []) (h : nextDue s = some (i, t)) :
    step s = exec i t := by
  simp only [step, hq, h]

/-- A step on an empty queue with no expiry to take lets one ms pass. -/
theorem step_of_nextDue_none (hq : s.pending = []) (h : nextDue s = none) :
    step s = .next (tick s) := by
  simp only [step, hq, h]

/-! ### The expiry to take -/

theorem nextDue_of_nil (h : s.dueExpiries = []) : nextDue s = none := by
  simp only [nextDue, h]

/-- A single expiry due is taken with no choice made. -/
theorem nextDue_of_singleton (h : s.dueExpiries = [i]) : nextDue s = some (i, s) := by
  simp only [nextDue, h]

/-- Of several expiries due one is chosen, whichever the tie break names, and the choice is counted. -/
theorem nextDue_of_several (h : s.dueExpiries = i :: j :: is) :
    ∃ k ∈ s.dueExpiries, nextDue s = some (k, { s with freeCount := s.freeCount + 1 }) := by
  have hlt : Config.tieBreak s.freeCount % (i :: j :: is).length < (i :: j :: is).length :=
    Nat.mod_lt _ (Nat.zero_lt_succ _)
  refine ⟨(i :: j :: is)[Config.tieBreak s.freeCount % (i :: j :: is).length], ?_, ?_⟩
  · rw [h]
    exact List.getElem_mem hlt
  · simp only [nextDue, h, List.getD_eq_getElem _ _ hlt]

/-- Where expiries are due one of them is taken, in a state that differs in the count of free choices
alone. -/
theorem nextDue_of_ne_nil (h : s.dueExpiries ≠ []) :
    ∃ k ∈ s.dueExpiries, ∃ n, nextDue s = some (k, { s with freeCount := n }) := by
  match hdue : s.dueExpiries with
  | [] => exact absurd hdue h
  | [i] => exact ⟨i, List.mem_singleton_self i, s.freeCount, nextDue_of_singleton hdue⟩
  | i :: j :: is =>
    obtain ⟨k, hk, hnext⟩ := nextDue_of_several hdue
    exact ⟨k, hdue ▸ hk, _, hnext⟩

/-! ### The statements -/

/-- Settles O1: the queue's front is the command and its rest is what the command runs with. -/
theorem stepTakesFrontCommand : Obligations.StepTakesFrontCommand := fun _ _ _ =>
  step_of_pending_cons rfl

/-- Settles O2, by what the clock takes with none, one or several expiries due. -/
theorem idleStepIsTheClock : Obligations.IdleStepIsTheClock := by
  intro s hq
  refine ⟨fun hnone => ?_, fun i hone => ?_, fun hsome => ?_⟩
  · exact step_of_nextDue_none hq (nextDue_of_nil hnone)
  · exact step_of_nextDue_some hq (nextDue_of_singleton hone)
  · obtain ⟨i, hi, n, hnext⟩ := nextDue_of_ne_nil hsome
    exact ⟨i, hi, n, step_of_nextDue_some hq hnext⟩

end Sys2Proof.Machine

/-! ## Index assignment (R39, R40) -/

namespace Sys2Proof.Machine

set_option Elab.async false

/-- Of the places that lie whole pitches apart, one is the first at or beyond `a` (R39). -/
theorem firstPlace_iff {x a p m : Int} (hp : 0 < p) :
    (a ≤ x + m * p ∧ x + m * p < a + p) ↔ m = -((x - a) / p) := by
  have hdm := Int.mul_ediv_add_emod (x - a) p
  have hlo := Int.emod_nonneg (x - a) hp.ne'
  have hhi := Int.emod_lt_of_pos (x - a) hp
  constructor
  · rintro ⟨h1, h2⟩
    have hq : (x - a) / p = -m := (Int.ediv_emod_unique (r := x + m * p - a) hp).mpr
      ⟨by ring, by omega, by omega⟩ |>.1
    omega
  · rintro rfl
    rw [neg_mul, mul_comm]
    omega

/-- A read is placed by the one shift that brings it into the ID window (R39). -/
theorem windowShift_eq_some_iff {x : Int} {pitch : Nat} {z : ZoneTable} (hp : 0 < pitch)
    (hz : z.idEnd - z.idStart ≤ pitch) {m : Int} : windowShift x pitch z = some m ↔
      (z.idStart : Int) ≤ x + m * pitch ∧ x + m * pitch < z.idEnd := by
  have hfirst := firstPlace_iff (x := x) (a := z.idStart) (p := pitch) (m := m) (by omega)
  simp only [windowShift, Option.ite_none_right_eq_some, Option.some.injEq]
  constructor
  · rintro ⟨hhi, rfl⟩
    exact ⟨(hfirst.mpr rfl).1, hhi⟩
  · rintro ⟨hlo, hhi⟩
    obtain rfl := hfirst.mp ⟨hlo, by omega⟩
    exact ⟨hhi, rfl⟩

namespace Tracker

variable {t : Tracker} {required i : Nat}

theorem propose_of_enough (h : required ≤ if t.candidate = some i then t.candidateReads + 1 else 1) :
    t.propose required i = t.assigned i := if_pos h

/-- The candidate after as many reads of one proposal in a row as are short of the required reads. -/
theorem propose_replicate (hc : t.candidate = none) {k : Nat} (hk : k + 1 < required) :
    (List.replicate (k + 1) i).foldl (fun u p => u.propose required p) t =
      { t with candidate := some i, candidateReads := k + 1 } := by
  induction k with
  | zero => simp [propose, hc, Nat.not_le.mpr hk]
  | succ k ih =>
    rw [List.replicate_succ', List.foldl_append, ih (by omega)]
    simp [propose, Nat.not_le.mpr hk]

/-- The required reads of one proposal in a row assign the index (R40). -/
theorem propose_replicate_required (hc : t.candidate = none) (hr : 1 ≤ required) :
    (List.replicate required i).foldl (fun u p => u.propose required p) t = t.assigned i := by
  obtain ⟨k, rfl⟩ := Nat.exists_eq_add_of_le' hr
  rw [List.replicate_succ', List.foldl_append]
  cases k with
  | zero => exact propose_of_enough (by simp [hc])
  | succ k =>
    rw [propose_replicate hc (Nat.lt_succ_self _)]
    exact propose_of_enough (by simp)

end Tracker

/-- Settles O26, by the one shift into the window and the reads of one proposal counted. -/
theorem indexAssigned : Obligations.IndexAssigned := by
  refine ⟨fun x pitch z hp hz m => windowShift_eq_some_iff hp hz, fun t required i n hs hc hr => ?_⟩
  refine ⟨fun hn => ?_, ?_⟩
  · cases n with
    | zero => exact ⟨hs, rfl⟩
    | succ n =>
      simp only [Tracker.propose_replicate hc hn]
      exact ⟨hs, trivial⟩
  · simp only [Tracker.propose_replicate_required hc hr]
    exact ⟨rfl, rfl, rfl, rfl, rfl⟩

end Sys2Proof.Machine

/-! ## The work of the rim tracker at a FEEDBACK, step by step (R29 to R38, R43) -/

namespace Sys2Proof.Machine

set_option Elab.async false

namespace Tracker

variable {t u : Tracker} {r : RideTable} {f : FeedbackFields} {rim : Word32}

/-! ### The record of a frame (R29, R30) -/

theorem directionOf_countDiff (t : Tracker) (rim : Word32) : directionOf (t.countDiff rim) =
    match t.lastRim with
    | none => .still
    | some x => if 0 < (rim - x).toInt then .forward
                else if (rim - x).toInt < 0 then .reverse else .still := by
  unfold countDiff
  cases t.lastRim <;> rfl

/-- The record with the direction that a frame sets (R30). -/
def turned (t : Tracker) (rim : Word32) : Tracker := { t with direction := directionOf (t.countDiff rim) }

@[simp] theorem turned_state (t : Tracker) (rim : Word32) : (t.turned rim).state = t.state := rfl

/-- The record at a frame's end: its rim count, and whether cabin travel is handed on (R28, R29). -/
def ended (t : Tracker) (rim : Word32) : Tracker :=
  { t with lastRim := some rim, travelHanded := t.phaseKnown && t.index.isSome }

/-- A frame of no resumption without a latch has the tests of R35, R36 and R38 alone. -/
theorem afterFrame_of_unmarked (hf : f.marker = false) : t.afterFrame r false f =
    ((((t.turned f.rim).missTests r f.rim).1.ended f.rim), false,
      ((t.turned f.rim).missTests r f.rim).2) := by
  simp [afterFrame, upToLatch, hf, ended, travelKnown, turned]

/-- After a latch the tests of the frame run on the record that the latch left, as without one. -/
theorem afterFrame_of_latch {stray : Bool} (hf : f.marker = true)
    (hu : (t.turned f.rim).takeLatch r f.latch = (u.turned f.rim, stray)) :
    t.afterFrame r false f = ((u.afterFrame r false { f with marker := false }).1, stray,
      (u.afterFrame r false { f with marker := false }).2.2) := by
  have hup : t.upToLatch r false f = (t.turned f.rim).takeLatch r f.latch := by
    simp [upToLatch, hf, turned]
  simp only [afterFrame, hup, hu]
  rfl

/-- Within the bounds of R35, R36 and R38, and in LOST, the tests find no miss. -/
theorem missTests_of_inStep
    (h : (rim - t.m).toInt ≤ r.pitch + r.w ∧ -(r.w : Int) ≤ (rim - t.m).toInt ∨ t.state = .lost ∨
      t.state = .searching ∧ t.phaseKnown = false) :
    t.missTests r rim = (t, false) := by
  rcases h with ⟨hhi, hlo⟩ | hs | ⟨hs, hp⟩
  · have hahead : ¬(r.pitch : Int) + r.w < rimDiff rim t.m := not_lt.mpr hhi
    have hbehind : ¬rimDiff rim t.m < -(r.w : Int) := not_lt.mpr hlo
    unfold missTests missedMarkers drift
    simp only [hahead, hbehind, or_self, and_false, if_false, ite_self]
    cases t.state <;> rfl
  · simp [missTests, missedMarkers, hs]
  · simp [missTests, drift, hs, hp]

/-! ### Crossings round the rim (R32, R33) -/

theorem roundRim_next (j n : Nat) : roundRim ((j : Int) + 1) n = (j + 1) % n := by
  unfold roundRim
  rw [← Int.natCast_one, ← Int.natCast_add, ← Int.natCast_emod, Int.toNat_natCast]

theorem roundRim_previous (j n : Nat) : roundRim ((j : Int) + -1) n = (j + n - 1) % n := by
  unfold roundRim
  rcases Nat.eq_zero_or_pos n with rfl | hn
  · simp only [Nat.cast_zero, Int.emod_zero, Nat.mod_zero]
    omega
  · rw [← Int.add_emod_right, show (j : Int) + -1 + n = ((j + n - 1 : Nat) : Int) by omega,
      ← Int.natCast_emod, Int.toNat_natCast]

/-- A crossing with an index known locks the tracker, shifts the index and ends the streak. -/
theorem crossing_of_index {i : Nat} (hs : t.state = .locked ∨ t.state = .coasting)
    (hi : t.index = some i) (n : Nat) (by1 : Int) (m : Word32) : t.crossing n by1 m = { t with
      missStreak := 0, state := .locked
      mismatch := if t.state = .coasting then none else t.mismatch
      index := some (roundRim (i + by1) n), m := m } := by
  rcases hs with hs | hs <;> simp [crossing, hs, hi]

/-- A crossing in SEARCHING shifts the candidate. -/
theorem crossing_of_searching (hs : t.state = .searching) (n : Nat) (by1 : Int) (m : Word32) :
    t.crossing n by1 m =
      { t with m := m, candidate := t.candidate.map fun j : Nat => roundRim ((j : Int) + by1) n } := by
  unfold crossing
  rw [hs]
  cases t.candidate <;> rfl

/-! ### The classes of a latch (R31 to R34) -/

theorem takeLatch_forward {c : Word32} (hp : t.phaseKnown = true)
    (h : (rimDiff c t.m - r.pitch).natAbs ≤ r.w) : t.takeLatch r c = (t.crossing r.n 1 c, false) := by
  rw [takeLatch, if_pos hp, if_pos h]

theorem takeLatch_near {c : Word32} (hp : t.phaseKnown = true)
    (hfar : r.w < (rimDiff c t.m - r.pitch).natAbs) (hnear : (rimDiff c t.m).natAbs ≤ r.w) :
    t.takeLatch r c = (if t.direction = .reverse then
      t.crossing r.n (-1) (t.m - BitVec.ofNat 32 r.pitch) else t, false) := by
  rw [takeLatch, if_pos hp, if_neg hfar.not_ge, if_pos hnear]
  split <;> rfl

theorem takeLatch_stray {c : Word32} (hp : t.phaseKnown = true)
    (hfar : r.w < (rimDiff c t.m - r.pitch).natAbs) (hnear : r.w < (rimDiff c t.m).natAbs) :
    t.takeLatch r c = (t, true) := by
  rw [takeLatch, if_pos hp, if_neg hfar.not_ge, if_neg hnear.not_ge]

/-- With the phase unknown a latch sets it in SEARCHING and is disregarded in LOST (R31). -/
theorem takeLatch_of_unknown (hp : t.phaseKnown = false) (c : Word32) : t.takeLatch r c =
    (if t.state = .searching then { t with m := c, phaseKnown := true } else t, false) := by
  rw [takeLatch, if_neg (by simp [hp])]
  split <;> rfl

end Tracker

/-- Settles O24: each class of a latch leaves its record, and the tests run on it. -/
theorem markerLatchClassified : Obligations.MarkerLatchClassified := by
  intro t r f hf e direction inStep leaves forward reverse again stray back
  have hdir : (t.turned f.rim).direction = direction := t.directionOf_countDiff f.rim
  have leave {u : Tracker} {b : Bool} (hlast : u.lastRim = t.lastRim)
      (hu : (t.turned f.rim).takeLatch r f.latch = (u.turned f.rim, b)) : leaves u b := by
    have hframe := Tracker.afterFrame_of_latch hf hu
    refine ⟨hframe, fun hin => ?_⟩
    have hmiss : (u.turned f.rim).missTests r f.rim = (u.turned f.rim, false) :=
      Tracker.missTests_of_inStep (hin.imp id .inl)
    rw [hframe, Tracker.afterFrame_of_unmarked rfl, hmiss, Tracker.turned, Tracker.countDiff, hlast]
    exact congrArg (fun d => (({ u with direction := d }.ended f.rim : Tracker), b, false)) hdir
  have known (hp : t.phaseKnown = true) : (again → leaves t false) ∧ (stray → leaves t true) := by
    refine ⟨fun ⟨hfar, hnear, hd⟩ => leave rfl ?_, fun ⟨hfar, hnear⟩ => leave rfl ?_⟩
    · rw [Tracker.takeLatch_near (t := t.turned f.rim) hp hfar hnear, hdir, if_neg hd]
    · exact Tracker.takeLatch_stray (t := t.turned f.rim) hp hfar hnear
  refine ⟨fun i hs hp hi hn => ?_, fun hs hi => ⟨fun hp => ?_, fun hp => ?_⟩, fun hs hp => ?_⟩
  · intro crossed
    refine ⟨fun h => leave rfl ?_, fun ⟨hfar, hnear, hd⟩ => leave rfl ?_, known hp⟩
    · rw [Tracker.takeLatch_forward (t := t.turned f.rim) hp h,
        Tracker.crossing_of_index (t := t.turned f.rim) hs hi, Tracker.roundRim_next]
      rfl
    · rw [Tracker.takeLatch_near (t := t.turned f.rim) hp hfar hnear, hdir, if_pos hd,
        Tracker.crossing_of_index (t := t.turned f.rim) hs hi, Tracker.roundRim_previous]
      rfl
  · refine leave rfl ?_
    rw [Tracker.takeLatch_of_unknown (t := t.turned f.rim) hp, Tracker.turned_state, if_pos hs]
    rfl
  · refine ⟨fun h => leave rfl ?_, fun ⟨hfar, hnear, hd⟩ => leave rfl ?_, known hp⟩
    · rw [Tracker.takeLatch_forward (t := t.turned f.rim) hp h,
        Tracker.crossing_of_searching (t := t.turned f.rim) hs]
      simp only [Tracker.roundRim_next]
      rfl
    · rw [Tracker.takeLatch_near (t := t.turned f.rim) hp hfar hnear, hdir, if_pos hd,
        Tracker.crossing_of_searching (t := t.turned f.rim) hs]
      simp only [Tracker.roundRim_previous]
      rfl
  · refine leave rfl ?_
    rw [Tracker.takeLatch_of_unknown (t := t.turned f.rim) hp, Tracker.turned_state, if_neg (by simp [hs])]

end Sys2Proof.Machine

/-! ## Missed markers, drift and the resumption test (R35 to R38, R43) -/

namespace Sys2Proof.Machine

set_option Elab.async false

/-! ### Counts whole pitches beyond M -/

/-- A count moved on by a distance is that much nearer the rim count, if the difference does not wrap. -/
theorem rimDiff_add {c m : Word32} {n : Nat} (h : -2 ^ 31 ≤ rimDiff c m - n) :
    rimDiff c (m + BitVec.ofNat 32 n) = rimDiff c m - n := by
  unfold rimDiff at *
  rw [show c - (m + BitVec.ofNat 32 n) = (c - m) - BitVec.ofNat 32 n by ring, BitVec.toInt_sub,
    BitVec.toInt_ofNat', Int.sub_bmod_bmod]
  have := BitVec.toInt_lt (x := c - m)
  exact Int.bmod_eq_of_le (by omega) (by omega)

theorem rimDiff_sub {c m : Word32} {n : Nat} (h : rimDiff c m + n < 2 ^ 31) :
    rimDiff c (m - BitVec.ofNat 32 n) = rimDiff c m + n := by
  unfold rimDiff at *
  rw [show c - (m - BitVec.ofNat 32 n) = (c - m) + BitVec.ofNat 32 n by ring, BitVec.toInt_add,
    BitVec.toInt_ofNat', Int.add_bmod_bmod]
  have := BitVec.le_toInt (c - m)
  exact Int.bmod_eq_of_le (by omega) (by omega)

namespace Tracker

variable {t : Tracker} {r : RideTable} {rim : Word32} {by1 : Int} {i : Nat}

/-! ### One synthetic crossing or backing (R35 to R37) -/

/-- The record of a tracker that has taken `q` synthetic crossings or backings in COASTING. -/
def coasted (t : Tracker) (n : Nat) (index : Int) (q : Nat) (m : Word32) : Tracker :=
  { t with state := .coasting, index := some (index % n).toNat, m := m
           missStreak := t.missStreak + q, mismatch := none }

theorem synthetic_of_room (hi : t.index = some i) (h : t.missStreak + 1 ≤ r.missLimit) (m : Word32) :
    t.synthetic r by1 m = t.coasted r.n (i + by1) 1 m := by
  rw [synthetic, if_neg h.not_gt, hi]
  rfl

theorem synthetic_of_full (h : r.missLimit < t.missStreak + 1) (m : Word32) :
    t.synthetic r by1 m = { t with m := m }.becomeLost := if_pos h

/-- Synthetic crossings add up. -/
theorem coasted_coasted {n : Nat} (hn : 0 < n) (a b : Int) (p q : Nat) (m m' : Word32) :
    (t.coasted n a p m).coasted n ((a % n).toNat + b) q m' = t.coasted n (a + b) (p + q) m' := by
  have hmod : ((a % n).toNat + b : Int) % n = (a + b) % n := by
    rw [Int.toNat_of_nonneg (Int.emod_nonneg _ (by omega)), Int.emod_add_emod]
  simp only [coasted, hmod, Nat.add_assoc]

/-! ### The tests applied again while they find a miss (R35, R36) -/

/-- Whether the tests on a record whose M is `m` find a miss in the direction `by1`, which makes M the
count `m'`. -/
def MissFound (r : RideTable) (rim : Word32) (by1 : Int) (m m' : Word32) : Prop :=
  ∀ (u : Tracker) (fuel : Nat), u.state = .locked ∨ u.state = .coasting → u.m = m →
    missedMarkers r rim (fuel + 1) u = ((missedMarkers r rim fuel (u.synthetic r by1 m')).1, true)

theorem missFound_ahead {m : Word32} (h : (r.pitch : Int) + r.w < rimDiff rim m) :
    MissFound r rim 1 m (m + BitVec.ofNat 32 r.pitch) := by
  rintro u fuel hs rfl
  rw [missedMarkers, if_pos hs, if_pos h]

theorem missFound_behind {m : Word32} (h : rimDiff rim m < -(r.w : Int)) :
    MissFound r rim (-1) m (m - BitVec.ofNat 32 r.pitch) := by
  rintro u fuel hs rfl
  rw [missedMarkers, if_pos hs, if_neg (by omega), if_pos h]

theorem missedMarkers_of_within (hhi : rimDiff rim t.m ≤ r.pitch + r.w)
    (hlo : -(r.w : Int) ≤ rimDiff rim t.m) (fuel : Nat) : missedMarkers r rim fuel t = (t, false) := by
  cases fuel with
  | zero => rfl
  | succ fuel => rw [missedMarkers, if_neg hhi.not_gt, if_neg hlo.not_gt, ite_self]

theorem missedMarkers_of_lost (hs : t.state = .lost) (fuel : Nat) :
    missedMarkers r rim fuel t = (t, false) := by
  cases fuel with
  | zero => rfl
  | succ fuel => rw [missedMarkers, if_neg (by simp [hs])]

section

variable {place : Nat → Word32} {q : Nat}

/-- The tests after `k + 1` misses that the miss limit has room for: M has gone from place to place. -/
theorem missedMarkers_coasts {k : Nat} (hs : t.state = .locked ∨ t.state = .coasting)
    (hi : t.index = some i) (hn : i < r.n) (h0 : t.m = place 0)
    (hmiss : ∀ j ≤ k, MissFound r rim by1 (place j) (place (j + 1)))
    (hroom : t.missStreak + (k + 1) ≤ r.missLimit) (fuel : Nat) :
    missedMarkers r rim (fuel + (k + 1)) t = ((missedMarkers r rim fuel
      (t.coasted r.n (i + (k + 1 : Nat) * by1) (k + 1) (place (k + 1)))).1, true) := by
  induction k generalizing fuel with
  | zero =>
    rw [hmiss 0 le_rfl t fuel hs h0, synthetic_of_room hi hroom]
    simp
  | succ k ih =>
    have hnext := hmiss (k + 1) le_rfl
      (t.coasted r.n (i + (k + 1 : Nat) * by1) (k + 1) (place (k + 1))) fuel (.inr rfl) rfl
    have hsum : (i : Int) + (k + 1 : Nat) * by1 + by1 = i + (k + 1 + 1 : Nat) * by1 := by
      push_cast
      ring
    rw [synthetic_of_room rfl hroom, coasted_coasted (by omega), hsum] at hnext
    rw [show fuel + (k + 1 + 1) = fuel + 1 + (k + 1) by omega,
      ih (fun j hj => hmiss j (by omega)) (by omega), hnext]

/-- As many misses as the miss limit has room for, and then none: COASTING (R35, R36). -/
theorem missedMarkers_eq_coasted (hs : t.state = .locked ∨ t.state = .coasting)
    (hi : t.index = some i) (hn : i < r.n) (h0 : t.m = place 0) (hq : 1 ≤ q)
    (hmiss : ∀ j < q, MissFound r rim by1 (place j) (place (j + 1)))
    (hroom : t.missStreak + q ≤ r.missLimit) (hhi : rimDiff rim (place q) ≤ r.pitch + r.w)
    (hlo : -(r.w : Int) ≤ rimDiff rim (place q)) :
    missedMarkers r rim (r.missLimit + 1) t = (t.coasted r.n (i + q * by1) q (place q), true) := by
  obtain ⟨k, rfl⟩ := Nat.exists_eq_add_of_le' hq
  have hrun := missedMarkers_coasts (k := k) hs hi hn h0 (fun j hj => hmiss j (by omega)) (by omega)
    (r.missLimit - k)
  rw [show r.missLimit - k + (k + 1) = r.missLimit + 1 by omega] at hrun
  rw [hrun, missedMarkers_of_within (t := t.coasted r.n (i + (k + 1 : Nat) * by1) (k + 1) (place (k + 1)))
    hhi hlo]

/-- The miss that takes the streak above the miss limit makes the tracker LOST (R37). -/
theorem missedMarkers_eq_lost (hs : t.state = .locked ∨ t.state = .coasting)
    (hi : t.index = some i) (hn : i < r.n) (h0 : t.m = place 0)
    (hmiss : ∀ j < q, MissFound r rim by1 (place j) (place (j + 1)))
    (hq : r.missLimit - t.missStreak + 1 ≤ q) : missedMarkers r rim (r.missLimit + 1) t =
      ({ t with m := place (r.missLimit - t.missStreak + 1) }.becomeLost, true) := by
  cases hk : r.missLimit - t.missStreak with
  | zero =>
    rw [hmiss 0 (by omega) t r.missLimit hs h0, synthetic_of_full (by omega),
      missedMarkers_of_lost rfl]
  | succ k =>
    have hrun := missedMarkers_coasts hs hi hn h0 (fun j hj => hmiss j (by omega)) (k := k) (by omega)
      (r.missLimit - (k + 1) + 1)
    have hlast := hmiss (k + 1) (by omega)
      (t.coasted r.n (i + (k + 1 : Nat) * by1) (k + 1) (place (k + 1))) (r.missLimit - (k + 1))
      (.inr rfl) rfl
    have hfull : r.missLimit <
        (t.coasted r.n (i + (k + 1 : Nat) * by1) (k + 1) (place (k + 1))).missStreak + 1 := by
      simp only [coasted]
      omega
    rw [show r.missLimit - (k + 1) + 1 + (k + 1) = r.missLimit + 1 by omega] at hrun
    rw [hrun, hlast, synthetic_of_full hfull, missedMarkers_of_lost rfl]
    rfl

end

/-- The count `k` pitches ahead of M. -/
def placeAhead (t : Tracker) (r : RideTable) (k : Nat) : Word32 := t.m + BitVec.ofNat 32 (k * r.pitch)

/-- The count `k` pitches behind M. -/
def placeBehind (t : Tracker) (r : RideTable) (k : Nat) : Word32 := t.m - BitVec.ofNat 32 (k * r.pitch)

theorem placeAhead_succ (t : Tracker) (r : RideTable) (k : Nat) :
    t.placeAhead r (k + 1) = t.placeAhead r k + BitVec.ofNat 32 r.pitch := by
  rw [placeAhead, Nat.succ_mul, BitVec.ofNat_add, ← add_assoc, placeAhead]

theorem placeBehind_succ (t : Tracker) (r : RideTable) (k : Nat) :
    t.placeBehind r (k + 1) = t.placeBehind r k - BitVec.ofNat 32 r.pitch := by
  rw [placeBehind, Nat.succ_mul, BitVec.ofNat_add, ← sub_sub, placeBehind]

theorem rimDiff_placeAhead {k : Nat} (h : -2 ^ 31 ≤ rimDiff rim t.m - k * r.pitch) :
    rimDiff rim (t.placeAhead r k) = rimDiff rim t.m - k * r.pitch := by
  rw [placeAhead, rimDiff_add (by push_cast; exact h), Nat.cast_mul]

theorem rimDiff_placeBehind {k : Nat} (h : rimDiff rim t.m + k * r.pitch < 2 ^ 31) :
    rimDiff rim (t.placeBehind r k) = rimDiff rim t.m + k * r.pitch := by
  rw [placeBehind, rimDiff_sub (by push_cast; exact h), Nat.cast_mul]

theorem placeAhead_zero (t : Tracker) (r : RideTable) : t.placeAhead r 0 = t.m := by simp [placeAhead]

theorem placeBehind_zero (t : Tracker) (r : RideTable) : t.placeBehind r 0 = t.m := by simp [placeBehind]

/-- A rim count more than `q` pitches and the tolerance ahead of M has `q` markers missed (R35). -/
theorem missFound_placeAhead {q : Nat} (h : (q : Int) * r.pitch + r.w < rimDiff rim t.m) :
    ∀ j < q, MissFound r rim 1 (t.placeAhead r j) (t.placeAhead r (j + 1)) := by
  intro j hj
  have hle : ((j : Int) + 1) * r.pitch ≤ q * r.pitch := by exact_mod_cast Nat.mul_le_mul_right _ hj
  rw [add_mul] at hle
  rw [placeAhead_succ]
  refine missFound_ahead ?_
  rw [rimDiff_placeAhead (by omega)]
  omega

theorem missFound_placeBehind {q : Nat}
    (h : rimDiff rim t.m < -(r.w : Int) - ((q : Int) - 1) * r.pitch) :
    ∀ j < q, MissFound r rim (-1) (t.placeBehind r j) (t.placeBehind r (j + 1)) := by
  intro j hj
  have hle : ((j : Int) + 1) * r.pitch ≤ q * r.pitch := by exact_mod_cast Nat.mul_le_mul_right _ hj
  rw [add_mul] at hle
  rw [sub_mul] at h
  rw [placeBehind_succ]
  refine missFound_behind ?_
  rw [rimDiff_placeBehind (by omega)]
  omega

theorem missTests_of_indexed (hs : t.state = .locked ∨ t.state = .coasting) (rim : Word32) :
    t.missTests r rim = missedMarkers r rim (r.missLimit + 1) t := by
  unfold missTests
  rcases hs with hs | hs <;> rw [hs]

/-- Beyond the bounds the phase is lost in SEARCHING, and the candidate (R38). -/
theorem missTests_of_drift (hs : t.state = .searching) (hp : t.phaseKnown = true)
    (h : ¬(rimDiff rim t.m ≤ r.pitch + r.w ∧ -(r.w : Int) ≤ rimDiff rim t.m)) : t.missTests r rim =
      ({ t with phaseKnown := false, candidate := none, candidateReads := 0 }, true) := by
  have hout : (r.pitch : Int) + r.w < rimDiff rim t.m ∨ rimDiff rim t.m < -(r.w : Int) := by omega
  rw [show t.missTests r rim = t.drift r rim by simp only [missTests, hs]]
  exact if_pos ⟨hs, hp, hout⟩

/-! ### The resumption test (R43) -/

theorem resumed_of_near {d : Option Int} (h : t.state = .lost ∨ ∀ x, d = some x → x.natAbs ≤ r.w) :
    t.resumed r d = t := by
  cases d with
  | none => rfl
  | some x =>
    refine if_neg fun ⟨hfar, hs⟩ => ?_
    exact h.elim hs fun hnear => absurd (hnear x rfl) hfar.not_ge

theorem resumed_of_far {x : Int} (hs : t.state ≠ .lost) (h : r.w < x.natAbs) :
    t.resumed r (some x) = t.searchAnew := if_pos ⟨h, hs⟩

/-- A resumption acts before the frame's latch (R29, R43). -/
theorem afterFrame_of_resumption {u : Tracker} {f : FeedbackFields} (hlast : u.lastRim = t.lastRim)
    (h : (t.turned f.rim).resumed r (t.countDiff f.rim) = u.turned f.rim) :
    t.afterFrame r true f = u.afterFrame r false f := by
  have hup : t.upToLatch r true f = u.upToLatch r false f := by
    unfold turned countDiff at h
    simp only [upToLatch, if_true, Bool.false_eq_true, if_false, countDiff, hlast, h]
  simp only [afterFrame, hup]

end Tracker

/-- Settles O25: the misses are counted off place by place, and the resumption acts before the latch. -/
theorem missedMarkerCoastsOrLoses : Obligations.MissedMarkerCoastsOrLoses := by
  intro t r f hp hp' d moved within'
  have hdir : directionOf (t.countDiff f.rim) = moved.direction := t.directionOf_countDiff f.rim
  have hmoved : moved = (t.turned f.rim).ended f.rim := by
    simp only [Tracker.turned, Tracker.ended, hdir]
    rfl
  have hframe (hf : f.marker = false) {u : Tracker} {b : Bool}
      (h : (t.turned f.rim).missTests r f.rim = (u, b)) :
      t.afterFrame r false f = (u.ended f.rim, false, b) := by
    rw [Tracker.afterFrame_of_unmarked hf, h]
  have hdiff {x : Word32} (hx : t.lastRim = some x) : t.countDiff f.rim = some (rimDiff f.rim x) := by
    rw [Tracker.countDiff, hx]
    rfl
  refine ⟨fun hf i hs hk hi hn q hq => ?_, fun hf hs hk hi hout => ?_, fun hf h => ?_, fun h => ?_,
    fun x hx hfar hs => ?_⟩
  · intro ahead behind coasting lost last
    have hindexed := Tracker.missTests_of_indexed (t := t.turned f.rim) (r := r) hs f.rim
    have coasts {by1 : Int} {place : Nat → Word32} (h0 : t.m = place 0)
        (hmiss : ∀ j < q, Tracker.MissFound r f.rim by1 (place j) (place (j + 1)))
        (hroom : t.missStreak + q ≤ r.missLimit) (hhi : rimDiff f.rim (place q) ≤ r.pitch + r.w)
        (hlo : -(r.w : Int) ≤ rimDiff f.rim (place q)) : coasting (i + q * by1) (place q) := by
      have h := Tracker.missedMarkers_eq_coasted (t := t.turned f.rim) hs hi hn h0 hq hmiss hroom hhi hlo
      rw [← hindexed] at h
      refine (hframe hf h).trans ?_
      rw [hmoved]
      simp [Tracker.coasted, Tracker.ended, Tracker.turned, hi]
    have loses {by1 : Int} {place : Nat → Word32} (h0 : t.m = place 0)
        (hmiss : ∀ j < q, Tracker.MissFound r f.rim by1 (place j) (place (j + 1)))
        (hfull : r.missLimit < t.missStreak + q) : lost (place last) := by
      have h := Tracker.missedMarkers_eq_lost (t := t.turned f.rim) hs hi hn h0 hmiss
        (show r.missLimit - t.missStreak + 1 ≤ q by omega)
      rw [← hindexed] at h
      refine (hframe hf h).trans ?_
      rw [hmoved]
      rfl
    have hahead (h : ahead) := Tracker.missFound_placeAhead h.1
    have hbehind (h : behind) := Tracker.missFound_placeBehind h.1
    refine ⟨fun hroom => ⟨fun h => ?_, fun h => ?_⟩, fun hfull => ⟨fun h => ?_, fun h => ?_⟩⟩
    · obtain ⟨hlo, hhi⟩ := id h
      rw [add_mul, one_mul] at hhi
      have hgap : rimDiff f.rim (t.placeAhead r q) = d - q * r.pitch :=
        Tracker.rimDiff_placeAhead (show -2 ^ 31 ≤ d - q * r.pitch by omega)
      have hc := coasts (t.placeAhead_zero r).symm (hahead h) hroom (by omega) (by omega)
      rwa [mul_one] at hc
    · obtain ⟨hhi, hlo⟩ := id h
      rw [sub_mul, one_mul] at hhi
      have hgap : rimDiff f.rim (t.placeBehind r q) = d + q * r.pitch :=
        Tracker.rimDiff_placeBehind (show d + q * r.pitch < 2 ^ 31 by omega)
      have hc := coasts (t.placeBehind_zero r).symm (hbehind h) hroom (by omega) (by omega)
      rwa [mul_neg_one] at hc
    · exact loses (t.placeAhead_zero r).symm (hahead h) hfull
    · exact loses (t.placeBehind_zero r).symm (hbehind h) hfull
  · rw [hframe hf (Tracker.missTests_of_drift (t := t.turned f.rim) hs hk hout), hmoved]
    simp [Tracker.ended, Tracker.turned, hi]
  · rw [hframe hf (Tracker.missTests_of_inStep (t := t.turned f.rim) h), hmoved]
  · refine Tracker.afterFrame_of_resumption rfl (Tracker.resumed_of_near ?_)
    rcases h with h | ⟨x, hx, hnear⟩ | h
    · exact .inr (by simp [Tracker.countDiff, h])
    · refine .inr fun y hy => ?_
      rw [hdiff hx] at hy
      obtain rfl := Option.some.inj hy
      exact hnear
    · exact .inl h
  · refine Tracker.afterFrame_of_resumption (t := t) rfl ?_
    rw [hdiff hx]
    exact Tracker.resumed_of_far (t := t.turned f.rim) hs hfar

end Sys2Proof.Machine

/-! ## Identity windows: their reads and their outcomes (R41, R42, R56 to R58) -/

namespace Sys2Proof.Machine

set_option Elab.async false

/-! ### Reads counted (R57) -/

/-- How often a list of reads names cabin `j` at its end, without another between. -/
def lastRun (reads : List Nat) (j : Nat) : Nat := (reads.reverse.takeWhile fun x => x == j).length

theorem lastRun_concat (reads : List Nat) (j : Nat) :
    lastRun (reads ++ [j]) j = lastRun reads j + 1 := by
  simp [lastRun]

theorem lastRun_of_last_ne {reads : List Nat} {j : Nat} (h : reads.getLast? ≠ some j) :
    lastRun reads j = 0 := by
  unfold lastRun
  rw [List.getLast?_eq_head?_reverse] at h
  cases hr : reads.reverse with
  | nil => rfl
  | cons x xs =>
    have hx : x ≠ j := by simpa [hr] using h
    simp [hx]

/-- The wrong cabins among the reads of cabin `k`'s window. -/
def wrongReads (k : Nat) (reads : List Nat) : List Nat := reads.filter fun j => j != k

/-- The window of cabin `k` after these reads since it opened. -/
def IdWindow.afterReads (k : Nat) (reads : List Nat) : IdWindow :=
  reads.foldl (fun w j => w.count k j) ⟨true, 0, none, 0⟩

namespace IdWindow

variable {w : IdWindow} {k j : Nat}

theorem count_same (w : IdWindow) (k : Nat) :
    w.count k k = { w with matching := min 255 (w.matching + 1) } := if_pos rfl

theorem count_again (hne : j ≠ k) (h : w.other = some j) :
    w.count k j = { w with otherReads := min 255 (w.otherReads + 1) } := by
  rw [count, if_neg hne, if_pos h]

theorem count_other (hne : j ≠ k) (h : w.other ≠ some j) :
    w.count k j = { w with other := some j, otherReads := 1 } := by
  rw [count, if_neg hne, if_neg h]

/-- What a window holds of its reads. -/
theorem afterReads_spec (k : Nat) (reads : List Nat) :
    (afterReads k reads).isOpen = true ∧ (afterReads k reads).matching = min 255 (reads.count k) ∧
    (afterReads k reads).other = (wrongReads k reads).getLast? ∧
    (afterReads k reads).otherReads = min 255
      (((wrongReads k reads).getLast?.map (lastRun (wrongReads k reads))).getD 0) := by
  induction reads using List.reverseRecOn with
  | nil => exact ⟨rfl, rfl, rfl, rfl⟩
  | append_singleton reads j ih =>
    obtain ⟨hopen, hmatching, hother, hreads⟩ := ih
    have hnext : afterReads k (reads ++ [j]) = (afterReads k reads).count k j := by
      simp [afterReads]
    rw [hnext]
    by_cases hj : j = k
    · subst hj
      have hwrong : wrongReads j (reads ++ [j]) = wrongReads j reads := by simp [wrongReads]
      rw [hwrong, count_same]
      refine ⟨hopen, ?_, hother, hreads⟩
      simp only [hmatching, List.count_append, List.count_singleton_self]
      omega
    · have hwrong : wrongReads k (reads ++ [j]) = wrongReads k reads ++ [j] := by simp [wrongReads, hj]
      have hcount : (reads ++ [j]).count k = reads.count k := by simp [hj]
      rw [hwrong, hcount, List.getLast?_concat, Option.map_some, Option.getD_some, lastRun_concat]
      by_cases hlast : (wrongReads k reads).getLast? = some j
      · rw [count_again hj (hother.trans hlast)]
        refine ⟨hopen, hmatching, hother.trans hlast, ?_⟩
        simp only [hreads, hlast, Option.map_some, Option.getD_some]
        omega
      · rw [count_other hj (hother ▸ hlast), lastRun_of_last_ne hlast]
        exact ⟨hopen, hmatching, rfl, rfl⟩

end IdWindow

/-! ### The outcome judged (R58) -/

section

variable {n required k : Nat} {w : IdWindow}

theorem judgeWindow_of_matching (h : required ≤ w.matching) :
    judgeWindow n required k w = .matched := if_pos h

theorem judgeWindow_of_wrong {j : Nat} (h : w.matching < required) (hj : w.other = some j)
    (hr : required ≤ w.otherReads) :
    judgeWindow n required k w = .mismatch (((j : Int) - k) % n).toNat := by
  rw [judgeWindow, if_neg h.not_ge, hj]
  exact if_pos hr

theorem judgeWindow_of_few (h : w.matching < required)
    (hr : ∀ j, w.other = some j → w.otherReads < required) : judgeWindow n required k w = .none := by
  rw [judgeWindow, if_neg h.not_ge]
  cases hj : w.other with
  | none => rfl
  | some j => exact if_neg (hr j hj).not_ge

/-- The three outcomes, each with its condition. -/
theorem judgeWindow_iff (n required k : Nat) (w : IdWindow) :
    (judgeWindow n required k w = .matched ↔ required ≤ w.matching) ∧
    (∀ sh, judgeWindow n required k w = .mismatch sh ↔ w.matching < required ∧
      ∃ j, w.other = some j ∧ required ≤ w.otherReads ∧ sh = (((j : Int) - k) % n).toNat) ∧
    (judgeWindow n required k w = .none ↔ w.matching < required ∧
      ∀ j, w.other = some j → w.otherReads < required) := by
  rcases Nat.lt_or_ge w.matching required with hm | hm
  · by_cases hw : ∃ j, w.other = some j ∧ required ≤ w.otherReads
    · obtain ⟨j, hj, hr⟩ := hw
      rw [judgeWindow_of_wrong hm hj hr]
      refine ⟨by simp [hm], fun sh => ?_, by simp [hm, hj, hr]⟩
      simp [hm, hj, hr, eq_comm]
    · have hfew : ∀ j, w.other = some j → w.otherReads < required := fun j hj =>
        Nat.lt_of_not_le fun hr => hw ⟨j, hj, hr⟩
      rw [judgeWindow_of_few hm hfew]
      refine ⟨by simp [hm], fun sh => ?_, by simpa [hm] using hfew⟩
      simp only [reduceCtorEq, false_iff]
      rintro ⟨-, j, hj, hr, -⟩
      exact hw ⟨j, hj, hr⟩
  · rw [judgeWindow_of_matching hm]
    simp [hm]

end

/-! ### What an outcome does to the tracker (R41, R42) -/

section

variable {s : State} {o : IdOutcome}

theorem takeOutcome_of_unindexed (h : s.tracker.state = .searching ∨ s.tracker.state = .lost) :
    takeOutcome o s = s := by
  unfold takeOutcome
  rcases h with h | h <;> rw [h]

theorem takeOutcome_of_locked (h : s.tracker.state = .locked) :
    takeOutcome o s = setTracker (s.tracker.lockedOutcome o) s := by
  unfold takeOutcome
  rw [h]

/-- In LOCKED an outcome that is not a second MISMATCH of one shift is remembered, or the memory ends. -/
theorem takeOutcome_of_locked_kept {x : Option Nat} (h : s.tracker.state = .locked)
    (hx : s.tracker.lockedOutcome o = { s.tracker with mismatch := x }) :
    takeOutcome o s = { s with tracker := { s.tracker with mismatch := x } } := by
  rw [takeOutcome_of_locked h, hx]
  exact if_pos rfl

/-- SEARCHING reported over no POSITION entry: an automatic CREEP, and the conversion (R45, R46). -/
theorem reportTracker_of_searching_new (hs : s.tracker.state = .searching)
    (hp : s.entry .position = none) : reportTracker s =
      (s.withEntry ⟨.position, .creep, 1, none, s.ms, false, true⟩).converted := by
  simp only [reportTracker, hs, convert_eq, causeReport_new hp, addEntry_eq]
  rfl

/-- A second MISMATCH of one shift drops the index, with the report of SEARCHING (R41, R45, R46). -/
theorem takeOutcome_of_locked_again {sh : Nat} (h : s.tracker.state = .locked)
    (hm : s.tracker.mismatch = some sh) (hp : s.entry .position = none) :
    takeOutcome (.mismatch sh) s = (State.withEntry { s with tracker := s.tracker.dropIndex }
      ⟨.position, .creep, 1, none, s.ms, false, true⟩).converted := by
  have hdrop : s.tracker.lockedOutcome (.mismatch sh) = s.tracker.dropIndex := if_pos hm
  have hstate : s.tracker.dropIndex.state ≠ s.tracker.state := by simp [Tracker.dropIndex, h]
  rw [takeOutcome_of_locked h, hdrop, setTracker, if_neg hstate]
  exact reportTracker_of_searching_new rfl hp

/-- In COASTING a MATCH or a MISMATCH resynchronises, a nonzero shift with the conversion (R42, R46). -/
theorem takeOutcome_of_coasting {i : Nat} (h : s.tracker.state = .coasting)
    (hi : s.tracker.index = some i) :
    let resynchronised (sh : Nat) : State := { s with
      tracker := { s.tracker with index := some ((i + sh) % s.ride.n), missStreak := 0 } }
    takeOutcome .none s = s ∧ takeOutcome .matched s = resynchronised 0 ∧
    ∀ sh, takeOutcome (.mismatch sh) s =
      if sh = 0 then resynchronised sh else (resynchronised sh).converted := by
  intro resynchronised
  have hsync (sh : Nat) :
      { s with tracker := s.tracker.resynchronised s.ride.n sh } = resynchronised sh := by
    simp only [Tracker.resynchronised, hi, Option.map_some, resynchronised]
  refine ⟨?_, ?_, fun sh => ?_⟩
  · simp only [takeOutcome, h]
  · simp only [takeOutcome, h, hsync]
  · simp only [takeOutcome, h, hsync, convert_eq]
    split
    · next hsh => rw [hsh]
    · rfl

end

/-! ### The crossings of the window's points (R51, R56, R58) -/

/-- The state as cabin `k`'s window closes with an outcome, before the tracker is told (R58). -/
def State.windowJudged (s : State) (k : Nat) (c : Cabin) (o : IdOutcome) : State := { s with
  cabins := s.cabins.set k { c with
    window := ⟨false, 0, none, 0⟩, outcome := o
    withheld := if o.isMismatch then some .identity else c.withheld }
  latched := { s.latched with identityFault := s.latched.identityFault || o.isMismatch } }

section

variable {s : State} {k : Nat} {c : Cabin}

theorem modifyCabin_eq_set (h : s.cabins[k]? = some c) (f : Cabin → Cabin) :
    modifyCabin k f s = { s with cabins := s.cabins.set k (f c) } := by
  rw [modifyCabin, ← modifyCabin_cabins_of_getElem? h]
  rfl

theorem windowsOpen_iff (z : ZoneTable) (r : RideTable) : windowsOpen z r = true ↔
    z.idStart < z.idEnd ∧ z.idEnd ≤ r.n * r.pitch ∧ z.idEnd ≤ z.idStart + r.pitch := by
  simp only [windowsOpen, Bool.and_eq_true, decide_eq_true_iff, and_assoc, Nat.sub_le_iff_le_add']
  rfl

theorem takeCrossing_idEnd (h : s.cabins[k]? = some c) : takeCrossing k .idEnd s =
    if c.window.isOpen then
      takeOutcome (judgeWindow s.ride.n s.zone.requiredReads k c.window)
        (s.windowJudged k c (judgeWindow s.ride.n s.zone.requiredReads k c.window))
    else s := by
  have hjudged (o : IdOutcome) : latchIf o.isMismatch .identityFault
      (modifyCabin k (fun c => c.windowClosed o) s) = s.windowJudged k c o := by
    rw [modifyCabin_eq_set h, latchIf_eq]
    cases o <;> simp [State.windowJudged, Cabin.windowClosed, IdOutcome.isMismatch, LatchedSet.with,
      IdWindow.closed]
  simp only [takeCrossing, closeWindow, cabin_eq_of_getElem? h, hjudged]

end

/-- Settles O27: the window's counts, the outcome they give, and the tracker's turn with it. -/
theorem windowReadsCounted : Obligations.WindowReadsCounted := by
  constructor
  · intro n required k reads hreq w wrong run
    obtain ⟨hopen, hmatching, hother, hreads⟩ := IdWindow.afterReads_spec k reads
    obtain ⟨hmatched, hmismatch, hnone⟩ := judgeWindow_iff n required k w
    have hfew : w.matching < required ↔ reads.count k < required := by
      rw [show w.matching = min 255 (reads.count k) from hmatching]
      omega
    have hrun {j : Nat} (hj : wrong.getLast? = some j) : required ≤ w.otherReads ↔ required ≤ run j := by
      have hlast : w.otherReads = min 255 ((wrong.getLast?.map run).getD 0) := hreads
      rw [hlast, hj, Option.map_some, Option.getD_some]
      omega
    rw [show w.other = wrong.getLast? from hother] at hmismatch hnone
    refine ⟨hopen, hmatching, hother, hreads, ?_, fun sh => ?_, ?_⟩
    · rw [hmatched, ← not_lt, hfew, not_lt]
    · exact (hmismatch sh).trans (and_congr hfew
        (exists_congr fun j => and_congr_right fun hj => and_congr_left' (hrun hj)))
    · refine hnone.trans (and_congr hfew (forall_congr' fun j => forall_congr' fun hj => ?_))
      rw [← not_le, hrun hj, not_le]
  · intro s k c h put opens
    have hcross := takeCrossing_idEnd h
    refine ⟨fun ho => ?_, fun ho => ?_, fun hw => ?_, ?_⟩
    · exact (if_pos ((windowsOpen_iff ..).mpr ho)).trans (modifyCabin_eq_set h _)
    · exact if_neg (mt (windowsOpen_iff ..).mp ho)
    · rw [hcross, if_neg (by simp [hw])]
    · intro hw o ho wrong b
      have hwrong : wrong = o.isMismatch := by cases o <;> rfl
      have hb : b = s.windowJudged k c o := by
        simp only [b, hwrong]
        rfl
      rw [hcross, if_pos hw, ← ho, ← hb]
      refine ⟨takeOutcome_of_unindexed (s := b), fun hs => ⟨fun hright => ?_, ?_⟩, fun i hs hi hn => ?_⟩
      · refine takeOutcome_of_locked_kept (s := b) hs ?_
        cases o with
        | mismatch sh => exact Bool.noConfusion (show true = false from hright)
        | none => rfl
        | matched => rfl
      · rintro sh rfl
        exact ⟨fun hm => takeOutcome_of_locked_kept (s := b) hs (if_neg hm),
          fun hm hp => takeOutcome_of_locked_again (s := b) hs hm hp⟩
      · obtain ⟨hnone, hmatched, hmismatch⟩ := takeOutcome_of_coasting (s := b) hs hi
        exact ⟨fun ho => ho ▸ hnone, fun ho => ho ▸ hmatched, fun sh ho => ho ▸ hmismatch sh⟩

end Sys2Proof.Machine

/-! ## A settling frame: its tests and its content (R84, 9.5) -/

namespace Sys2Proof.Machine

set_option Elab.async false

/-! ### The first four tests (R84) -/

/-- A settling frame of an entry that is not discarded. -/
def Fits (e : PollEntry) (raw : RawFrame) (f : Frame) : Prop :=
  frameOf raw = some f ∧ f.kind = 0x51 ∧ f.address.toNat = e.address ∧
    f.payload.length = if e.kind = .tagReader then 10 else 5

section

variable {e : PollEntry} {raw : RawFrame} {f : Frame}

theorem answerLength_eq_some (hk : e.kind ≠ .unset) (n : Nat) :
    answerLength e.kind = some n ↔ n = if e.kind = .tagReader then 10 else 5 := by
  cases h : e.kind with
  | unset => exact absurd h hk
  | _ => simp [answerLength, eq_comm]

theorem answerFrame_eq_some (hk : e.kind ≠ .unset) : answerFrame e raw = some f ↔ Fits e raw f := by
  unfold answerFrame Fits
  cases frameOf raw with
  | none => simp
  | some g =>
    simp only [Option.ite_none_right_eq_some, Option.some.injEq, answerLength_eq_some hk, kindAnswer]
    constructor
    · rintro ⟨h, rfl⟩
      exact ⟨rfl, h⟩
    · rintro ⟨rfl, h⟩
      exact ⟨h, rfl⟩

theorem answerFrame_eq_none (hk : e.kind ≠ .unset) :
    answerFrame e raw = none ↔ ∀ f, ¬Fits e raw f := by
  simp only [← answerFrame_eq_some hk, Option.eq_none_iff_forall_ne_some, ne_eq]

end

/-! ### Fields of a payload -/

/-- The number in byte `k` of a payload. -/
def byteAt (p : List Byte) (k : Nat) : Nat := ((p[k]?).getD 0).toNat

theorem natOf_take_one (p : List Byte) (k : Nat) : natOf ((p.drop k).take 1) = byteAt p k := by
  rw [byteAt, ← List.head?_drop]
  cases p.drop k with
  | nil => rfl
  | cons b bs => simp [natOf]

theorem natOf_take_two {p : List Byte} {k : Nat} (h : k + 1 < p.length) :
    natOf ((p.drop k).take 2) = 256 * byteAt p k + byteAt p (k + 1) := by
  rw [List.drop_eq_getElem_cons (by omega), List.drop_eq_getElem_cons h, List.take_succ_cons,
    List.take_succ_cons, List.take_zero]
  simp [natOf, byteAt, List.getElem?_eq_getElem h, List.getElem?_eq_getElem (show k < p.length by omega)]
  omega

/-! ### The content by the kind of station (R84) -/

theorem doorStateOf_of_undefined {n : Nat} (h : 4 < n) : doorStateOf n = none := by
  obtain ⟨m, rfl⟩ := Nat.exists_eq_add_of_le' h
  rfl

theorem exists_door_of_le {n : Nat} (h : n ≤ 4) : ∃ d : DoorState, d.code = n := by
  interval_cases n
  · exact ⟨.none, rfl⟩
  · exact ⟨.open, rfl⟩
  · exact ⟨.closed, rfl⟩
  · exact ⟨.locked, rfl⟩
  · exact ⟨.fault, rfl⟩

theorem doorStateOf_code {d : DoorState} (h : d.code ≤ 4) : doorStateOf d.code = some d := by
  cases d with
  | notReported => exact absurd h (by decide)
  | notAtPlatform => exact absurd h (by decide)
  | _ => rfl

section

variable {p : List Byte} {st : Station}

theorem answerContent_mast (h : p.length = 5) : answerContent .mast p = if byteAt p 4 = 0 then
    some (.mast ⟨256 * byteAt p 0 + byteAt p 1, 256 * byteAt p 2 + byteAt p 3⟩) else none := by
  have h0 := natOf_take_two (p := p) (k := 0) (by omega)
  have h2 := natOf_take_two (p := p) (k := 2) (by omega)
  rw [List.drop_zero] at h0
  simp only [answerContent, cutFields, List.drop_drop, Nat.reduceAdd, h0, h2, natOf_take_one, zero_add]

theorem stationFields (p : List Byte) : cutFields [1, 1, 1, 1, 1] p =
    [byteAt p 0, byteAt p 1, byteAt p 2, byteAt p 3, byteAt p 4] := by
  have h0 := natOf_take_one p 0
  rw [List.drop_zero] at h0
  simp only [cutFields, List.drop_drop, Nat.reduceAdd, h0, natOf_take_one]

/-- Whether a coded field of a platform answer holds an undefined value. -/
abbrev stationUndefined (p : List Byte) : Prop :=
  1 < byteAt p 1 ∨ 4 < byteAt p 2 ∨ 63 < byteAt p 3 ∨ 1 < byteAt p 4

theorem answerContent_station (st : Station) (p : List Byte) :
    answerContent st.kind p = stationContent st p := by
  cases st <;> rfl

theorem stationContent_of_undefined (h : stationUndefined p) : stationContent st p = none := by
  unfold stationUndefined at h
  simp only [stationContent, stationFields]
  cases hd : doorStateOf (byteAt p 2) with
  | none => rfl
  | some d =>
    have : ¬4 < byteAt p 2 := fun h4 => by simp [doorStateOf_of_undefined h4] at hd
    exact if_neg (by omega)

theorem stationContent_of_defined (h : ¬stationUndefined p) {d : DoorState} (hd : d.code = byteAt p 2) :
    stationContent st p = some (.station st
      ⟨byteAt p 0, decide (byteAt p 1 = 1), d, byteAt p 3, decide (byteAt p 4 = 1)⟩) := by
  unfold stationUndefined at h
  have hdoor : doorStateOf (byteAt p 2) = some d := hd ▸ doorStateOf_code (by omega)
  simp only [stationContent, stationFields, hdoor]
  rw [if_pos (by omega)]
  rfl

theorem answerContent_tag (h : p.length = 10) : answerContent .tagReader p = if byteAt p 0 ≤ 1 then
    some (.tag ⟨decide (byteAt p 0 = 1), (p.drop 1).take 8, byteAt p 9⟩) else none := by
  obtain ⟨b, bs, rfl⟩ := List.exists_cons_of_length_eq_add_one h
  have hstrength : natOf (bs.drop 8) = byteAt (b :: bs) 9 := by
    rw [← natOf_take_one, List.drop_succ_cons, List.take_of_length_le]
    simp only [List.length_cons, List.length_drop] at *
    omega
  simp only [answerContent, hstrength, List.drop_succ_cons, List.drop_zero]
  rfl

/-- Whether a coded field of an answer holds an undefined value, or a mast reports a fault (R84). -/
def undefinedField (kind : StationKind) (p : List Byte) : Bool :=
  match kind with
  | .mast => byteAt p 4 != 0
  | .tagReader => decide (1 < byteAt p 0)
  | _ => decide (1 < byteAt p 1 ∨ 4 < byteAt p 2 ∨ 63 < byteAt p 3 ∨ 1 < byteAt p 4)

theorem answerContent_of_undefined {e : PollEntry} {raw : RawFrame} {f : Frame} (hf : Fits e raw f)
    (h : undefinedField e.kind f.payload = true) : answerContent e.kind f.payload = none := by
  obtain ⟨-, -, -, hlen⟩ := hf
  cases hk : e.kind <;> rw [hk] at h hlen
  case unset => rfl
  case mast => rw [answerContent_mast hlen, if_neg (by simpa [undefinedField] using h)]
  case alight => exact stationContent_of_undefined (of_decide_eq_true h)
  case board => exact stationContent_of_undefined (of_decide_eq_true h)
  case tagReader =>
    rw [answerContent_tag hlen, if_neg (by simpa [undefinedField] using h)]

end

end Sys2Proof.Machine

/-! ## A settling frame at its end: its result, the freshness it gives, and the walk (R84 to R88) -/

namespace Sys2Proof.Machine

set_option Elab.async false

variable {s u v : State} {i : Nat} {raw : RawFrame} {f : Frame} {r : ResultRecord}

/-! ### The walk goes on as after a late window -/

/-- What the end of a settling frame leaves is `u`, but for the emptied buffer, from which the walk moves
on as at the end of a late window. -/
def State.Leaves (s : State) (raw : RawFrame) (u : State) : Prop := ∃ t, exec (.answer raw) s = .next t ∧
  exec .lateWindowEnd { u with
    rx := { s.rx with field := .empty }
    poller := { s.poller with phase := .lateWindow } } = .next t

/-- The walk moves on alike from every phase. -/
theorem moveOn_setPhase (i : Nat) (ph : PollPhase) (s : State) :
    moveOn i { s with poller := { s.poller with phase := ph } } = moveOn i s := by
  have hnext : State.nextEntry { s with poller := { s.poller with phase := ph } } (i + 1) =
      s.nextEntry (i + 1) := nextEntry_congr rfl _
  cases h : s.nextEntry (i + 1) with
  | none =>
    rw [moveOn_of_none h, moveOn_of_none (hnext.trans h)]
    rfl
  | some j =>
    rw [moveOn_of_next h, moveOn_of_next (hnext.trans h)]

/-- A state with the poller of `s`, and the field line of `s` as its frame has ended. -/
def State.onLineOf (u s : State) : State :=
  { u with rx := { s.rx with field := .empty }, poller := s.poller }

theorem eq_onLineOf (hrx : u.rx = { s.rx with field := .empty }) (hp : u.poller = s.poller) :
    u = u.onLineOf s := by
  rw [State.onLineOf, ← hrx, ← hp]

theorem leaves_of_moveOn (hi : s.poller.inFlight = some i)
    (h : exec (.answer raw) s = .next (moveOn i v)) (hv : v = u.onLineOf s) : s.Leaves raw u := by
  obtain rfl := hv
  have hlate := exec_lateWindowEnd (i := i)
    (s := { u.onLineOf s with poller := { s.poller with phase := .lateWindow } }) rfl hi
  exact ⟨_, h, hlate.trans (congrArg _ (moveOn_setPhase i .lateWindow (u.onLineOf s)))⟩

/-! ### The frame judged (R84) -/

/-- The entry in flight is settled by the frame that ends (R83). -/
structure State.Settles (s : State) (i : Nat) : Prop where
  phase : s.poller.phase = .settling ∧ s.rx.field ≠ .lost ∨
    s.poller.phase = .replyWait ∧ s.rx.field = .empty
  inFlight : s.poller.inFlight = some i
  isSet : (s.pollEntry i).kind ≠ .unset

/-- The state as the frame is judged: its characters have left the buffer (R168). -/
abbrev State.received (s : State) : State := setFieldBuffer .empty s

theorem exec_answer_of_settles (h : s.Settles i) (raw : RawFrame) :
    exec (.answer raw) s = .next (settleFrame i raw s.received) := by
  have hby : s.settledBy = some i := by
    unfold State.settledBy
    obtain ⟨⟨hp, hr⟩ | ⟨hp, hr⟩, hi, -⟩ := h
    · cases hf : s.rx.field with
      | lost => exact absurd hf hr
      | _ => simp only [hp, hi]
    · simp only [hp, hr, hi]
  have hexec : exec (.answer raw) s = .next (fieldFrame raw s) := rfl
  rw [hexec, fieldFrame, hby]

/-- A frame that fails a test of R84 leaves what its BAD result does, with FRAME_DISCARDED. -/
theorem leaves_of_discarded (h : s.Settles i) (hf : ∀ f, ¬Fits (s.pollEntry i) raw f) :
    s.Leaves raw (recordResult i .bad (latch .frameDiscarded s.received)) := by
  refine leaves_of_moveOn h.inFlight ((exec_answer_of_settles h raw).trans ?_)
    (eq_onLineOf (by simp) (by simp))
  have hnone : answerFrame (s.received.pollEntry i) raw = none := (answerFrame_eq_none h.isSet).mpr hf
  rw [settleFrame, hnone]

/-- An undefined coded field or a mast's fault leaves what the BAD result does. -/
theorem leaves_of_undefined (h : s.Settles i) (hf : Fits (s.pollEntry i) raw f)
    (hu : undefinedField (s.pollEntry i).kind f.payload = true) :
    s.Leaves raw (recordResult i .bad s.received) := by
  refine leaves_of_moveOn h.inFlight ((exec_answer_of_settles h raw).trans ?_)
    (eq_onLineOf (by simp) (by simp))
  have hsome : answerFrame (s.received.pollEntry i) raw = some f := (answerFrame_eq_some h.isSet).mpr hf
  have hnone : answerContent (s.received.pollEntry i).kind f.payload = none :=
    answerContent_of_undefined hf hu
  simp only [settleFrame, hsome, hnone]

/-- Any other frame leaves its content handed on after the result (R86). -/
theorem leaves_of_content (h : s.Settles i) (hf : Fits (s.pollEntry i) raw f) {c : AnswerContent}
    (hc : answerContent (s.pollEntry i).kind f.payload = some c) :
    s.Leaves raw (handContent i c (recordResult i .answered s.received)) := by
  refine leaves_of_moveOn h.inFlight ((exec_answer_of_settles h raw).trans ?_)
    (eq_onLineOf (by simp) (by simp))
  have hsome : answerFrame (s.received.pollEntry i) raw = some f := (answerFrame_eq_some h.isSet).mpr hf
  have hcontent : answerContent (s.received.pollEntry i).kind f.payload = some c := hc
  simp only [settleFrame, hsome, hcontent]

/-! ### The result recorded (R86 to R88) -/

/-- A mast record as the freshness that a result gives entry `i` reaches it (R78, R95). -/
def State.believed (s : State) (i : Nat) (r : ResultRecord) (x : PollResult) (m : Mast) : Mast :=
  if (r.stepped s.pollParams x).freshness = r.freshness ∨
      ¬(m.address ≠ 0 ∧ s.walked.findIdx?
        (fun d : PollEntry => d.kind == .mast && d.address == m.address) = some i) ∨
      m.freshness = (r.stepped s.pollParams x).freshness then m
  else if m.freshness = .fresh then
    { m with freshness := (r.stepped s.pollParams x).freshness, seeded := false, acc := 0, window := [] }
  else { m with freshness := (r.stepped s.pollParams x).freshness }

/-- The state with a result of entry `i` recorded, and its freshness given to the masts it speaks for. -/
def State.noted (s : State) (i : Nat) (r : ResultRecord) (x : PollResult) : State := { s with
  results := s.results.set i (r.stepped s.pollParams x)
  masts := if (s.pollEntry i).kind = .mast then s.masts.map (s.believed i r x) else s.masts }

theorem noted_of_steady {x : PollResult} (h : (r.stepped s.pollParams x).freshness = r.freshness) :
    s.noted i r x = { s with results := s.results.set i (r.stepped s.pollParams x) } := by
  have hid : s.masts.map (s.believed i r x) = s.masts := by
    conv_rhs => rw [← List.map_id s.masts]
    exact List.map_congr_left fun m _ => if_pos (.inl h)
  simp only [State.noted, hid, ite_self]

theorem noted_of_no_mast (hk : (s.pollEntry i).kind ≠ .mast) (x : PollResult) :
    s.noted i r x = { s with results := s.results.set i (r.stepped s.pollParams x) } := by
  simp only [State.noted, if_neg hk]

/-- The entry speaks for no platform station: only the first of a station's kind does (R66). -/
def State.Mute (s : State) (i : Nat) : Prop :=
  ∀ p : Station, (s.pollEntry i).kind = p.kind → s.stationEntry p ≠ some i

theorem reportFreshness_of_mute {fr : Freshness} (hk : (s.pollEntry i).kind ≠ .mast) (h : s.Mute i) :
    reportFreshness i fr s = s := by
  unfold reportFreshness
  cases hk' : (s.pollEntry i).kind with
  | mast => exact absurd hk' hk
  | alight => exact if_neg (h .alight hk')
  | board => exact if_neg (h .board hk')
  | tagReader => rfl
  | unset => rfl

/-- Unless it changes the freshness of a platform station, a result is noted and no more. -/
theorem recordResult_eq_noted (hr : s.results[i]? = some r) {x : PollResult}
    (h : (r.stepped s.pollParams x).freshness = r.freshness ∨ s.Mute i) :
    recordResult i x s = s.noted i r x := by
  let n : State := { s with results := s.results.set i (r.stepped s.pollParams x) }
  rw [recordResult_eq hr]
  split
  · next hsame => exact (noted_of_steady hsame).symm
  · next hne =>
    by_cases hk : (s.pollEntry i).kind = .mast
    · rw [reportFreshness_mast (s := n) hk, State.noted, if_pos hk]
      refine congrArg (fun masts => { n with masts := masts }) (List.map_congr_left fun m _ => ?_)
      simp only [State.believed, hne, false_or]
      rfl
    · rw [noted_of_no_mast hk]
      exact reportFreshness_of_mute (s := n) hk (h.resolve_left hne)

/-- The freshness that a result gives, if it is another. -/
theorem stepped_freshness (p : PollParams) {x : PollResult}
    (h : (r.stepped p x).freshness ≠ r.freshness) :
    (r.stepped p x).freshness = if x = .answered then .fresh else .stale := by
  by_cases hx : x = .answered
  · simp only [ResultRecord.stepped, hx, if_true] at h ⊢
    cases hf : r.freshness <;> simp only [hf] at h ⊢
    all_goals
      split at h
      · next hr => rw [if_pos hr]
      · exact absurd rfl h
  · simp only [ResultRecord.stepped, hx, if_false] at h ⊢
    cases hf : r.freshness <;> simp only [hf] at h ⊢
    all_goals
      split at h
      · next hr => rw [if_pos hr]
      · exact absurd rfl h

/-! ### A mast's answer (R94) -/

theorem sampled_eq (m : Mast) (t : WindTable) (a : MastAnswer) : m.sampled t a =
    { (if m.freshness = .fresh then m.sampled t a else m) with
      lastRaw := some a.raw
      lastDirection := if a.direction ≤ 359 then some a.direction else m.lastDirection } := by
  unfold Mast.sampled
  simp only
  split <;> rfl

theorem takeMastAnswer_eq (address : Nat) (a : MastAnswer) (s : State) : takeMastAnswer address a s = { s with
    masts := s.masts.map fun m => if m.takes address then m.sampled s.windTable a else m
    latched := { s.latched with
      sampleSaturated := s.latched.sampleSaturated || s.masts.any fun m =>
        m.takes address && decide (700 < m.normalised a.raw) } } := by
  simp only [takeMastAnswer, latchIf_eq]
  generalize (s.masts.any fun m => m.takes address && decide (700 < m.normalised a.raw)) = saturated
  cases saturated <;> simp [LatchedSet.with]

theorem believed_keeps (s : State) (i : Nat) (r : ResultRecord) (x : PollResult) (m : Mast) :
    (s.believed i r x m).address = m.address ∧ (s.believed i r x m).halves = m.halves := by
  unfold State.believed
  split
  · exact ⟨rfl, rfl⟩
  · split <;> exact ⟨rfl, rfl⟩

/-- A mast's answer taken after its result has been noted: which records take it, and whether its speed
is cut, does not depend on the freshness noted. -/
theorem takeMastAnswer_noted (s : State) (i : Nat) (r : ResultRecord) (x : PollResult) (address : Nat)
    (a : MastAnswer) : takeMastAnswer address a (s.noted i r x) = { s.noted i r x with
      masts := (s.noted i r x).masts.map fun m => if m.takes address then
        { (if m.freshness = .fresh then m.sampled s.windTable a else m) with
          lastRaw := some a.raw
          lastDirection := if a.direction ≤ 359 then some a.direction else m.lastDirection }
        else m
      latched := { s.latched with
        sampleSaturated := s.latched.sampleSaturated || s.masts.any fun m =>
          m.takes address && decide (700 < m.normalised a.raw) } } := by
  have hany : (s.noted i r x).masts.any (fun m =>
      m.takes address && decide (700 < m.normalised a.raw)) =
      s.masts.any fun m => m.takes address && decide (700 < m.normalised a.raw) := by
    unfold State.noted
    simp only
    split
    · rw [List.any_map]
      congr 1
      funext m
      obtain ⟨haddress, hhalves⟩ := believed_keeps s i r x m
      have htakes : (s.believed i r x m).takes address = m.takes address := by
        rw [Mast.takes, Mast.takes, haddress]
      have hspeed : (s.believed i r x m).normalised a.raw = m.normalised a.raw := by
        rw [Mast.normalised, Mast.normalised, hhalves]
      simp only [Function.comp, htakes, hspeed]
    · rfl
  have htaken (m : Mast) : (if m.takes address then m.sampled s.windTable a else m) =
      if m.takes address then
        { (if m.freshness = .fresh then m.sampled s.windTable a else m) with
          lastRaw := some a.raw
          lastDirection := if a.direction ≤ 359 then some a.direction else m.lastDirection }
      else m := by
    split
    · exact sampled_eq m s.windTable a
    · rfl
  rw [takeMastAnswer_eq, hany]
  exact congrArg (fun f => { s.noted i r x with
    masts := (s.noted i r x).masts.map f
    latched := { s.latched with
      sampleSaturated := s.latched.sampleSaturated || s.masts.any fun m =>
        m.takes address && decide (700 < m.normalised a.raw) } }) (funext htaken)

end Sys2Proof.Machine

/-! ## A platform station's answer (R69 to R72, R74) -/

namespace Sys2Proof.Machine

set_option Elab.async false

variable {s : State} {src : HoldSource} {p : Station}

/-! ### Reports around the tests and the station records (R74, R124) -/

theorem testReport_testReport (c c' : CauseStates) (s : State) :
    testReport c (testReport c' s) = testReport c s := by
  simp only [testReport, List.map_map]
  rfl

/-- The effects of a STOP do not look at the flags of the entries, nor at that of the entry itself. -/
theorem testReport_stopped (c c' : CauseStates) (e : HoldEntry) (b : Bool) (s : State) :
    testReport c ((testReport c' s).stopped { e with present := b }) = testReport c (s.stopped e) := by
  simp only [State.stopped, testReport, List.length_map, List.map_map]
  rfl

theorem testReport_withEntry (c c' : CauseStates) (e : HoldEntry) (b : Bool) (s : State) :
    testReport c ((testReport c' s).withEntry { e with present := b }) =
      testReport c (s.withEntry e) := by
  simp only [State.withEntry, testReport, List.map_append, List.map_map, List.map_eq_nil_iff]
  rfl

theorem testReport_putEntry (c c' : CauseStates) (e : HoldEntry) (b : Bool) (s : State) :
    testReport c (putEntry { e with present := b } (testReport c' s)) = testReport c (putEntry e s) := by
  simp only [putEntry, testReport, List.map_map]
  congr 2
  funext h
  simp only [Function.comp]
  split <;> rfl

/-- States that the same tests make equal stay so through the effects of a STOP. -/
theorem testReport_stopped_congr {c : CauseStates} {x y : State} (h : testReport c x = testReport c y)
    (e : HoldEntry) (b : Bool) :
    testReport c (x.stopped { e with present := b }) = testReport c (y.stopped e) := by
  rw [← testReport_stopped c c _ b x, h, testReport_stopped]
  rfl

/-- The flags of the entries before a report do not show after the tests have been reported. -/
theorem testReport_causeReport (c c' : CauseStates) (k : Nat) (cls : HoldClass) (sub : Option Nat)
    (s : State) : testReport c (causeReport src k cls sub (testReport c' s)) =
      testReport c (causeReport src k cls sub s) := by
  have hentry : (testReport c' s).entry src =
      (s.entry src).map fun e => { e with present := presentFlag e.source c' } :=
    entry_of_holds_map (fun _ => rfl) rfl
  cases h : s.entry src with
  | none =>
    have h' : (testReport c' s).entry src = none := by rw [hentry, h]; rfl
    let e : HoldEntry := ⟨src, cls, k, sub, s.ms, latchedForm src k, presentFlag src s.causes⟩
    have hnew := testReport_withEntry c c' e (presentFlag src c') s
    rw [causeReport_new h, causeReport_new h', addEntry_eq, addEntry_eq]
    split
    · exact testReport_stopped_congr hnew e (presentFlag src c')
    · exact hnew
  | some old =>
    have h' := hentry
    rw [h, Option.map_some] at h'
    let e : HoldEntry := reportedEntry old k cls sub
    let b := presentFlag old.source c'
    have hform : reportedEntry { old with present := b } k cls sub = { e with present := b } := by
      simp only [e, reportedEntry]
      split <;> rfl
    have hput := testReport_putEntry c c' e b s
    rw [causeReport_old h, causeReport_old h', hform, stopEffectsIf, stopEffectsIf, stopEffects_eq,
      stopEffects_eq]
    split
    · exact testReport_stopped_congr hput e b
    · exact hput

/-- A report does not look at the station records. -/
theorem causeReport_writeStation (k : Nat) (cls : HoldClass) (sub : Option Nat) (x : StationRecord)
    (s : State) : causeReport src k cls sub (writeStation p x s) =
      writeStation p x (causeReport src k cls sub s) := by
  have hentry : (writeStation p x s).entry src = s.entry src := entry_congr (by simp)
  cases h : s.entry src with
  | none =>
    rw [causeReport_new h, causeReport_new (hentry.trans h), addEntry_eq, addEntry_eq]
    cases p <;> split <;> rfl
  | some old =>
    rw [causeReport_old h, causeReport_old (hentry.trans h), stopEffectsIf, stopEffectsIf,
      stopEffects_eq, stopEffects_eq]
    cases p <;> split <;> rfl

theorem testReport_causeReport_congr {c : CauseStates} {x y : State}
    (h : testReport c x = testReport c y) (k : Nat) (cls : HoldClass) (sub : Option Nat) :
    testReport c (causeReport src k cls sub x) = testReport c (causeReport src k cls sub y) := by
  rw [← testReport_causeReport c c k cls sub x, h, testReport_causeReport]

/-! ### An answer taken: what it writes, and what it reports (R69 to R71) -/

/-- The records that an answer writes: the cabin's if it is a valid answer for it, and the station's. -/
def State.answered (s : State) (p : Station) (a : StationAnswer) : State :=
  writeStation p { s.station p with pressed := a.pressed }
    (if s.validAnswer p a a.echo then modifyCabin a.echo (fun x =>
      { x with door := a.door, zoneCount := a.count, hasValid := true }) s else s)

/-- The DOOR_FAULT that an answer reports for the cabin (R70). -/
def State.faultReported (s : State) (k : Nat) (fault : Bool) : State :=
  if fault then doorCause 3 k s else s

/-- The causes that an answer reports: DOOR_FAULT, then BUTTON (R70, R71, log entry 28). -/
def State.answerReports (s : State) (p : Station) (k : Nat) (fault pressed : Bool) : State :=
  if pressed then platformCause 1 p (s.faultReported k fault) else s.faultReported k fault

theorem doorCause_writeStation (cause k : Nat) (x : StationRecord) (s : State) :
    doorCause cause k (writeStation p x s) = writeStation p x (doorCause cause k s) :=
  causeReport_writeStation ..

theorem doorCause_station (cause k : Nat) (s : State) (p : Station) :
    (doorCause cause k s).station p = s.station p := by
  cases p <;> simp [State.station]

theorem stationAddress_congr {t : State} (h : t.pollEntries = s.pollEntries) (p : Station) :
    t.stationAddress p = s.stationAddress p := by
  simp only [State.stationAddress, State.stationEntry, h]
  congr 1
  funext i
  simp only [State.addressOf, h]

theorem takeStationAnswer_eq (p : Station) (a : StationAnswer) (s : State) : takeStationAnswer p a s =
    retest ((s.answered p a).answerReports p a.echo
      (s.validAnswer p a a.echo && a.door == .fault) a.pressed) := by
  have hbutton (b : Bool) (x : State) :
      takeButton p a.pressed (x.faultReported a.echo b) =
      (writeStation p { x.station p with pressed := a.pressed } x).answerReports p a.echo b a.pressed := by
    cases b
    · rfl
    · simp only [takeButton, State.answerReports, State.faultReported, if_true, doorCause_station,
        doorCause_writeStation]
  unfold takeStationAnswer
  cases hv : s.validAnswer p a a.echo
  · have h := hbutton false s
    simp only [State.answered, hv, Bool.false_and]
    exact congrArg retest h
  · let x := modifyCabin a.echo (fun x =>
      { x with door := a.door, zoneCount := a.count, hasValid := true }) s
    have hx : x.station p = s.station p := by cases p <;> rfl
    have h := hbutton (a.door == .fault) x
    have happly : applyAnswer a a.echo s = x.faultReported a.echo (a.door == .fault) := by
      simp only [applyAnswer, State.faultReported, beq_iff_eq]
      rfl
    simp only [State.answered, hv, Bool.true_and, if_true, happly]
    rw [hx] at h
    exact congrArg retest h

theorem answered_testReport (c : CauseStates) (p : Station) (a : StationAnswer) (s : State) :
    (testReport c s).answered p a = testReport c (s.answered p a) := by
  have hv : (testReport c s).validAnswer p a a.echo = s.validAnswer p a a.echo := by cases p <;> rfl
  unfold State.answered
  rw [hv]
  cases p <;> split <;> rfl

theorem answerReports_tests (p : Station) (k : Nat) (fault pressed : Bool) (s : State) :
    (s.answerReports p k fault pressed).tests = s.tests := by
  cases fault <;> cases pressed <;> 
    simp [State.answerReports, State.faultReported, doorCause, platformCause, causeReport_tests]

theorem faultReported_stationAddress (k : Nat) (fault : Bool) (s : State) :
    (s.faultReported k fault).stationAddress p = s.stationAddress p :=
  stationAddress_congr (by unfold State.faultReported; split <;> simp) p

theorem faultReported_entry_platform (k : Nat) (fault : Bool) (s : State) :
    (s.faultReported k fault).entry .platform = s.entry .platform := by
  cases fault
  · rfl
  · exact entry_causeReport_other (by decide) ..

/-- The flags before an answer's reports do not show after the tests (R74, R124). -/
theorem retest_answerReports (c : CauseStates) (p : Station) (k : Nat) (fault pressed : Bool)
    (s : State) : retest ((testReport c s).answerReports p k fault pressed) =
      retest (s.answerReports p k fault pressed) := by
  have htests : (testReport c s).tests = s.tests := rfl
  unfold retest
  rw [answerReports_tests, answerReports_tests, htests]
  have hdoor : testReport s.tests ((testReport c s).faultReported k fault) =
      testReport s.tests (s.faultReported k fault) := by
    cases fault
    · exact testReport_testReport ..
    · exact testReport_causeReport ..
  cases pressed
  · exact hdoor
  · simp only [State.answerReports, if_true, platformCause, faultReported_stationAddress]
    exact testReport_causeReport_congr hdoor ..

/-! ### What the reports leave -/

/-- An entry with the flag that goes with the tests (R124). -/
def HoldEntry.flagged (c : CauseStates) (h : HoldEntry) : HoldEntry :=
  { h with present := presentFlag h.source c }

theorem entry_retest_flagged (s : State) (src : HoldSource) :
    (retest s).entry src = (s.entry src).map (HoldEntry.flagged s.tests) :=
  entry_of_holds_map (fun _ => rfl) rfl

/-- The entry that a report of a DOOR or PLATFORM cause leaves, with the flag of the tests: a latched
STOP, whatever stood before (R116). -/
theorem entry_causeReport_flagged (hs : src = .door ∨ src = .platform) (c : CauseStates) (k : Nat)
    (sub : Option Nat) (s : State) :
    ((causeReport src k .stop sub s).entry src).map (HoldEntry.flagged c) =
      some ⟨src, .stop, k, sub, ((s.entry src).map fun e => e.time).getD s.ms, true,
        presentFlag src c⟩ := by
  have hform : latchedForm src k = true := by rcases hs with rfl | rfl <;> rfl
  rw [entry_causeReport_same]
  cases h : s.entry src with
  | none => simp [HoldEntry.flagged, hform]
  | some old =>
    obtain rfl := (entry_source h).1
    simp only [Option.map_some, Option.getD_some, reportedEntry, HoldEntry.flagged]
    split
    · next hl => simp [higher_stop, hl]
    · simp [hform]

section

variable (s : State) (p : Station) (k : Nat) (fault pressed : Bool)

/-- What the reports of an answer leave as it was. -/
theorem answerReports_frame : let u := s.answerReports p k fault pressed
    u.alightStation = s.alightStation ∧ u.boardStation = s.boardStation ∧ u.results = s.results ∧
    u.tracker = s.tracker ∧ u.masts = s.masts ∧ u.wind = s.wind ∧ u.out = s.out ∧
    u.poller = s.poller ∧ u.rx = s.rx := by
  cases fault <;> cases pressed <;> simp [State.answerReports, State.faultReported]

/-- The first entry of the list bars the cabins in BOARDING (R62). -/
theorem answerReports_cabins : (s.answerReports p k fault pressed).cabins =
    if (fault || pressed) = true ∧ s.holds = [] then s.cabins.map fun c =>
      if c.state = .boarding then { c with entryBarred := true } else c else s.cabins := by
  have hdoor (x : State) : (doorCause 3 k x).cabins = _ := causeReport_stop_cabins 3 (some k)
  have hplat (x : State) : (platformCause 1 p x).cabins = _ :=
    causeReport_stop_cabins 1 (x.stationAddress p)
  have hne : (doorCause 3 k s).holds ≠ [] := causeReport_holds_ne_nil 3 .stop (some k)
  cases fault <;> cases pressed <;> 
    simp [State.answerReports, State.faultReported, hdoor, hplat, hne]

theorem answerReports_entry_door (c : CauseStates) :
    ((s.answerReports p k fault pressed).entry .door).map (HoldEntry.flagged c) =
      if fault then some ⟨.door, .stop, 3, some k, ((s.entry .door).map fun e => e.time).getD s.ms, true,
        presentFlag .door c⟩
      else (s.entry .door).map (HoldEntry.flagged c) := by
  have hplat (x : State) : (platformCause 1 p x).entry .door = x.entry .door :=
    entry_causeReport_other (by decide) ..
  have hdoor := entry_causeReport_flagged (.inl rfl) c 3 (some k) s
  have hbutton : (s.answerReports p k fault pressed).entry .door =
      (s.faultReported k fault).entry .door := by
    cases pressed
    · rfl
    · exact hplat _
  rw [hbutton]
  cases fault
  · rfl
  · exact hdoor

theorem answerReports_entry_platform (c : CauseStates) :
    ((s.answerReports p k fault pressed).entry .platform).map (HoldEntry.flagged c) =
      if pressed then some ⟨.platform, .stop, 1, s.stationAddress p,
        ((s.entry .platform).map fun e => e.time).getD s.ms, true, presentFlag .platform c⟩
      else (s.entry .platform).map (HoldEntry.flagged c) := by
  have hms : (s.faultReported k fault).ms = s.ms := by unfold State.faultReported; split <;> simp
  cases pressed
  · exact congrArg _ (faultReported_entry_platform ..)
  · have hplat := entry_causeReport_flagged (.inr rfl) c 1 (s.stationAddress p) (s.faultReported k fault)
    rw [faultReported_entry_platform, hms] at hplat
    simpa only [State.answerReports, platformCause, if_true, faultReported_stationAddress] using hplat

theorem answerReports_entry_other {src : HoldSource} (hd : src ≠ .door) (hp : src ≠ .platform) :
    (s.answerReports p k fault pressed).entry src = s.entry src := by
  have hplat (x : State) : (platformCause 1 p x).entry src = x.entry src :=
    entry_causeReport_other hp.symm ..
  have hdoor (x : State) : (doorCause 3 k x).entry src = x.entry src :=
    entry_causeReport_other hd.symm ..
  cases fault <;> cases pressed <;> 
    simp [State.answerReports, State.faultReported, hdoor, hplat]

theorem answerReports_sources : (s.answerReports p k fault pressed).holds.map (fun e => e.source) =
    s.holds.map (fun e => e.source) ++
      (if fault = true ∧ s.entry .door = none then [.door] else []) ++
      (if pressed = true ∧ s.entry .platform = none then [.platform] else []) := by
  have new (o : Option HoldEntry) (x : HoldSource) :
      (if o.isSome then [] else [x]) = if o = none then [x] else [] := by cases o <;> rfl
  have hdoor : (s.faultReported k fault).holds.map (fun e => e.source) =
      s.holds.map (fun e => e.source) ++ (if fault = true ∧ s.entry .door = none then [.door] else []) := by
    cases fault
    · simp [State.faultReported]
    · refine (sources_causeReport 3 .stop (some k)).trans ?_
      simp only [new, true_and]
  rw [← hdoor]
  cases pressed
  · simp [State.answerReports]
  · refine (sources_causeReport 1 .stop _).trans ?_
    simp only [new, true_and, faultReported_entry_platform]

/-- A new entry has the effects of a STOP (R126). -/
theorem answerReports_stops
    (h : fault = true ∧ s.entry .door = none ∨ pressed = true ∧ s.entry .platform = none) :
    (s.answerReports p k fault pressed).req.armed = false ∧
      (s.answerReports p k fault pressed).run.running = false := by
  rcases h with ⟨rfl, hnone⟩ | ⟨rfl, hnone⟩
  · have hdoor : (doorCause 3 k s).req.armed = false ∧ (doorCause 3 k s).run.running = false :=
      causeReport_new_stop_stops hnone ..
    cases pressed
    · exact hdoor
    · exact causeReport_keeps_stopped hdoor ..
  · exact causeReport_new_stop_stops ((faultReported_entry_platform ..).trans hnone) ..

end

/-- The state after an answer with a cause to report, field by field. -/
theorem retest_answerReports_spec {fault pressed : Prop} [Decidable fault] [Decidable pressed]
    (h : fault ∨ pressed) {address : Nat} (ha : s.stationAddress p = some address) (k : Nat) :
    let u := retest (s.answerReports p k (decide fault) (decide pressed))
    let reported (src : HoldSource) (cause subject : Nat) : Option HoldEntry :=
      some ⟨src, .stop, cause, some subject, ((s.entry src).map fun e => e.time).getD s.ms, true,
        presentFlag src s.tests⟩
    u.alightStation = s.alightStation ∧ u.boardStation = s.boardStation ∧ u.results = s.results ∧
    u.causes = s.tests ∧ u.tracker = s.tracker ∧ u.masts = s.masts ∧ u.wind = s.wind ∧ u.out = s.out ∧
    u.cabins = (if s.holds = [] then s.cabins.map fun c =>
        if c.state = .boarding then { c with entryBarred := true } else c
      else s.cabins) ∧
    u.entry .door = (if fault then reported .door 3 k else (s.entry .door).map (HoldEntry.flagged s.tests)) ∧
    u.entry .platform = (if pressed then reported .platform 1 address
      else (s.entry .platform).map (HoldEntry.flagged s.tests)) ∧
    (∀ src, src ≠ .door → src ≠ .platform →
      u.entry src = (s.entry src).map (HoldEntry.flagged s.tests)) ∧
    u.holds.map (fun e => e.source) = s.holds.map (fun e => e.source) ++
      (if fault ∧ s.entry .door = none then [.door] else []) ++
      (if pressed ∧ s.entry .platform = none then [.platform] else []) ∧
    (fault ∧ s.entry .door = none ∨ pressed ∧ s.entry .platform = none →
      u.req.armed = false ∧ u.run.running = false) := by
  intro u reported
  have htests := answerReports_tests p k (decide fault) (decide pressed) s
  obtain ⟨halight, hboard, hresults, htracker, hmasts, hwind, hout, -⟩ :=
    answerReports_frame s p k (decide fault) (decide pressed)
  have hcabins := answerReports_cabins s p k (decide fault) (decide pressed)
  have hdoor := answerReports_entry_door s p k (decide fault) (decide pressed) s.tests
  have hplat := answerReports_entry_platform s p k (decide fault) (decide pressed) s.tests
  have hsources := answerReports_sources s p k (decide fault) (decide pressed)
  have hstops := answerReports_stops s p k (decide fault) (decide pressed)
  have hentry (src : HoldSource) := entry_retest_flagged (s.answerReports p k (decide fault) (decide pressed)) src
  simp only [htests] at hentry
  simp only [decide_eq_true_iff, Bool.or_eq_true, h, true_and, ha] at hcabins hdoor hplat hsources hstops
  refine ⟨halight, hboard, hresults, htests, htracker, hmasts, hwind, hout, hcabins,
    (hentry _).trans hdoor, (hentry _).trans hplat, fun src hd hp => ?_, ?_, hstops⟩
  · rw [hentry, answerReports_entry_other s p k _ _ hd hp]
  · rw [retest_holds, List.map_map]
    exact hsources

/-! ### The freshness that an answer gives its station (R72, R87, R88) -/

theorem writeStation_self (p : Station) (s : State) : writeStation p (s.station p) s = s := by
  cases p <;> rfl

/-- A station answering in time to be FRESH: its record is written, and the tests are reported. -/
theorem stationFreshness_fresh (p : Station) (s : State) : stationFreshness p .fresh s =
    if (s.station p).freshness = .fresh then s
    else retest (writeStation p { s.station p with freshness := .fresh } s) := by
  simp only [stationFreshness]
  split
  · rfl
  · next h => simp [h]

theorem takeStationAnswer_testReport (c : CauseStates) (p : Station) (a : StationAnswer) (s : State) :
    takeStationAnswer p a (testReport c s) = takeStationAnswer p a s := by
  have hv : (testReport c s).validAnswer p a a.echo = s.validAnswer p a a.echo := by cases p <;> rfl
  rw [takeStationAnswer_eq, takeStationAnswer_eq, answered_testReport, hv, retest_answerReports]

/-- The state with an answer of entry `i`, a platform station's, recorded: its result, and the freshness
that reaches the station's record. -/
def State.heard (s : State) (i : Nat) (p : Station) (r : ResultRecord) : State :=
  writeStation p
    { s.station p with
      freshness := if (r.stepped s.pollParams .answered).freshness = r.freshness then
        (s.station p).freshness else (r.stepped s.pollParams .answered).freshness }
    { s with results := s.results.set i (r.stepped s.pollParams .answered) }

/-- The content of a platform station's answer is taken on the record that its result leaves. -/
theorem handContent_station {i : Nat} {r : ResultRecord} (hr : s.results[i]? = some r)
    (hk : (s.pollEntry i).kind = p.kind) (he : s.stationEntry p = some i) (a : StationAnswer) :
    handContent i (.station p a) (recordResult i .answered s) = takeStationAnswer p a (s.heard i p r) := by
  have htaken (x : State) (hx : x.pollEntries = s.pollEntries) :
      handContent i (.station p a) x = takeStationAnswer p a x :=
    if_pos ((congrArg (sourceOf p.kind) hx).trans he)
  rw [htaken _ (by simp), recordResult_eq hr, State.heard]
  split
  · cases p <;> rfl
  · next hne =>
    let n : State := { s with results := s.results.set i (r.stepped s.pollParams .answered) }
    have hfresh : (r.stepped s.pollParams .answered).freshness = .fresh := stepped_freshness _ hne
    have hreport := reportFreshness_station (s := n) (f := .fresh) hk he
    rw [hfresh, hreport, stationFreshness_fresh]
    split
    · next h =>
      have hst : n.station p = s.station p := by cases p <;> rfl
      have hself : { s.station p with freshness := .fresh } = n.station p := by
        rw [← hst, ← h]
      rw [hself]
      exact congrArg _ (writeStation_self p n).symm
    · exact takeStationAnswer_testReport _ p a _

/-- A record that is none of a cabin not loaded stands in the table. -/
theorem getElem?_cabin {k : Nat} (h : s.cabin k ≠ Cabin.notLoaded) : s.cabins[k]? = some (s.cabin k) := by
  unfold State.cabin at *
  rw [List.getD_eq_getElem?_getD] at *
  cases hc : s.cabins[k]? with
  | none => exact absurd (by rw [hc]; rfl) h
  | some c => rfl

/-- Whether an answer is valid does not depend on the freshness that it gives (R69). -/
theorem heard_validAnswer_iff (i : Nat) (r : ResultRecord) (a : StationAnswer) :
    (s.heard i p r).validAnswer p a a.echo = true ↔ (s.station p).shown = some a.echo ∧
      (s.cabin a.echo).state = p.zone ∧ a.present = true := by
  cases p <;> simp [State.validAnswer, State.heard, State.station, writeStation, State.cabin, and_assoc]

/-- The records that an answer leaves, result and content together. -/
theorem answered_heard {i : Nat} {r : ResultRecord} {a : StationAnswer} {valid : Prop} [Decidable valid]
    (hv : valid ↔ (s.station p).shown = some a.echo ∧ (s.cabin a.echo).state = p.zone ∧
      a.present = true) :
    (s.heard i p r).answered p a = writeStation p
      { s.station p with
        pressed := a.pressed
        freshness := if (r.stepped s.pollParams .answered).freshness = r.freshness then
          (s.station p).freshness else (r.stepped s.pollParams .answered).freshness }
      { s with
        results := s.results.set i (r.stepped s.pollParams .answered)
        cabins := if valid then s.cabins.set a.echo { s.cabin a.echo with
          door := a.door, zoneCount := a.count, hasValid := true } else s.cabins } := by
  have hvalid : (s.heard i p r).validAnswer p a a.echo = true ↔ valid := by
    rw [hv, heard_validAnswer_iff]
  unfold State.answered
  by_cases h : valid
  · have hc : s.cabins[a.echo]? = some (s.cabin a.echo) := by
      refine getElem?_cabin fun hn => ?_
      have hz := (hv.mp h).2.1
      rw [hn] at hz
      cases p <;> cases hz
    have hc' : (s.heard i p r).cabins[a.echo]? = some (s.cabin a.echo) := by cases p <;> exact hc
    rw [if_pos (hvalid.mpr h), if_pos h, modifyCabin_eq_set hc']
    cases p <;> rfl
  · rw [if_neg (mt hvalid.mp h), if_neg h]
    cases p <;> rfl

/-- A platform station's answer taken: its records, its reports, and the tests. -/
theorem takeStationAnswer_heard {i : Nat} {r : ResultRecord} {a : StationAnswer} {valid : Prop}
    [Decidable valid] (hv : valid ↔ (s.station p).shown = some a.echo ∧
      (s.cabin a.echo).state = p.zone ∧ a.present = true) :
    takeStationAnswer p a (s.heard i p r) = retest (State.answerReports (writeStation p
      { s.station p with
        pressed := a.pressed
        freshness := if (r.stepped s.pollParams .answered).freshness = r.freshness then
          (s.station p).freshness else (r.stepped s.pollParams .answered).freshness }
      { s with
        results := s.results.set i (r.stepped s.pollParams .answered)
        cabins := if valid then s.cabins.set a.echo { s.cabin a.echo with
          door := a.door, zoneCount := a.count, hasValid := true } else s.cabins })
      p a.echo (decide (valid ∧ a.door = .fault)) a.pressed) := by
  have hfault : ((s.heard i p r).validAnswer p a a.echo && a.door == .fault) =
      decide (valid ∧ a.door = .fault) := by
    rw [Bool.eq_iff_iff, Bool.and_eq_true, heard_validAnswer_iff, ← hv, beq_iff_eq, decide_eq_true_iff]
  rw [takeStationAnswer_eq, hfault, answered_heard hv]

/-! ### A station gone STALE by a BAD answer (R72, R88) -/

/-- The entry that a PLATFORM cause leaves. -/
theorem entry_platformCause (cause : Nat) (p : Station) (s : State) : ∃ e,
    (platformCause cause p s).entry .platform = some e ∧ e.cls = .stop ∧ e.cause = cause ∧
      e.subject = s.stationAddress p := by
  refine ⟨_, entry_causeReport_same cause .stop (s.stationAddress p), ?_⟩
  cases s.entry .platform with
  | none => exact ⟨rfl, rfl, rfl⟩
  | some old => exact reportedEntry_stop old cause (s.stationAddress p)

/-- The entries that a station going STALE leaves, whatever stood before. -/
theorem stationStale_reported (p : Station) (s : State) :
    (∃ e, (stationStale p s).entry .platform = some e ∧ e.cls = .stop ∧ e.cause = 2 ∧
      e.subject = s.stationAddress p) ∧
    ∀ k, s.zoneCabin p = some k → ∃ e, (stationStale p s).entry .door = some e ∧ e.cls = .stop ∧
      e.cause = 4 ∧ e.subject = some k := by
  have hplat := entry_platformCause 2 p s
  unfold stationStale
  cases s.zoneCabin p with
  | none => exact ⟨hplat, fun k hk => by cases hk⟩
  | some k =>
    have hkeep : (doorCause 4 k (platformCause 2 p s)).entry .platform =
        (platformCause 2 p s).entry .platform := entry_causeReport_other (by decide) ..
    refine ⟨by simpa only [hkeep] using hplat, fun k' hk => ?_⟩
    obtain rfl := Option.some.inj hk
    exact entry_doorCause 4 k _

theorem retest_cabins (s : State) : (retest s).cabins = s.cabins := by simp

/-- A result that makes a platform station STALE, field by field (R62, R72). -/
theorem recordResult_stale_spec {i : Nat} {r : ResultRecord} (hr : s.results[i]? = some r)
    (hk : (s.pollEntry i).kind = p.kind) (he : s.stationEntry p = some i)
    (hfresh : (s.station p).freshness = r.freshness)
    (hne : (r.stepped s.pollParams .bad).freshness ≠ r.freshness) :
    let u := recordResult i .bad s
    u.results = s.results.set i (r.stepped s.pollParams .bad) ∧ u.masts = s.masts ∧
    u.tracker = s.tracker ∧ u.wind = s.wind ∧
    u.station p = { s.station p with freshness := .stale } ∧
    u.cabins.map (fun c => { c with entryBarred := false }) =
      s.cabins.map (fun c => { c with entryBarred := false }) ∧
    (u.entry .platform).any (fun h => h.cause == 2 && h.subject == some (s.pollEntry i).address &&
      h.cls == .stop) = true ∧
    (∀ k, s.zoneCabin p = some k → (u.entry .door).any (fun h => h.cause == 4 &&
      h.subject == some k && h.cls == .stop) = true) ∧
    (p = .board → ∀ c ∈ u.cabins, c.state = .boarding → c.entryBarred = true) := by
  intro u
  let n : State := { s with results := s.results.set i (r.stepped s.pollParams .bad) }
  have hstale : (r.stepped s.pollParams .bad).freshness = .stale := stepped_freshness _ hne
  have hn : (n.station p).freshness ≠ .stale := by
    have hst : (n.station p).freshness = (s.station p).freshness := by cases p <;> rfl
    rw [hst, hfresh, ← hstale]
    exact hne.symm
  have hu : u = retest (stationStale p (n.staled p)) := by
    rw [← stationFreshness_stale hn, ← reportFreshness_station (s := n) hk he, ← hstale]
    exact (recordResult_eq hr .bad).trans (if_neg hne)
  obtain ⟨halight, hboard, -, hresults, htracker, hmasts, hwind, -⟩ :=
    stationStale_staled_frame (s := n) p
  obtain ⟨-, -, -, hzone, -, haddress, -⟩ := staled_frame (s := n) p
  have hcabins := staled_stale_cabins (s := n) p
  rw [← retest_cabins, ← hu] at hcabins
  obtain ⟨⟨e, hentry, hcls, hcause, hsub⟩, hdoor⟩ := stationStale_reported p (n.staled p)
  have haddr : n.stationAddress p = some (s.pollEntry i).address := by
    have hmap : n.stationAddress p = (s.stationEntry p).map s.addressOf := rfl
    rw [hmap, he]
    rfl
  refine ⟨hu ▸ hresults, hu ▸ hmasts, hu ▸ htracker, hu ▸ hwind, ?_, ?_, ?_, fun k hz => ?_,
    fun hp c hc hb => ?_⟩
  · rw [hu]
    cases p
    · exact halight
    · exact hboard
  · rw [hcabins]
    split
    · rw [List.map_map]
      refine List.map_congr_left fun c _ => ?_
      simp only [Function.comp]
      split <;> rfl
    · rfl
  · rw [hu, entry_retest, hentry]
    simp [hcls, hcause, hsub, haddress, haddr]
  · obtain ⟨d, hentry, hcls, hcause, hsub⟩ := hdoor k (hzone.trans hz)
    rw [hu, entry_retest, hentry]
    simp [hcls, hcause, hsub]
  · rw [hcabins, if_pos (.inl hp)] at hc
    obtain ⟨d, -, rfl⟩ := List.mem_map.mp hc
    split
    · rfl
    · next hd => simp [hd] at hb

end Sys2Proof.Machine

/-! ## A tag reader's answer (R39, R49, R55, R57) -/

namespace Sys2Proof.Machine

set_option Elab.async false

variable {s : State} {j k : Nat}

/-! ### The lookup of a tag (R49) -/

theorem lookupFrom_eq_findIdx? (tag : List Byte) (k : Nat) (cs : List Cabin) : lookupFrom tag k cs =
    (cs.findIdx? fun c => decide (c.capacity ≠ 0 ∧ c.tag = tag)).map fun i => k + i := by
  induction cs generalizing k with
  | nil => rfl
  | cons c cs ih =>
    unfold lookupFrom
    by_cases h : c.capacity ≠ 0 ∧ c.tag = tag
    · simp [h, List.findIdx?_cons]
    · rw [if_neg h, ih, List.findIdx?_cons, decide_eq_false h]
      simp [Function.comp_def, Nat.add_assoc, Nat.add_comm 1]

/-- Whether cabin `j` of the ride is loaded and has this tag. -/
def State.Named (s : State) (tag : List Byte) (j : Nat) : Prop :=
  j < s.ride.n ∧ ∃ c, s.cabins[j]? = some c ∧ c.capacity ≠ 0 ∧ c.tag = tag

theorem lookup_eq_none {tag : List Byte} (h : ∀ j, ¬s.Named tag j) : s.lookup tag = none := by
  rw [State.lookup, lookupFrom_eq_findIdx?, Option.map_eq_none_iff, List.findIdx?_eq_none_iff]
  intro c hc
  obtain ⟨j, hj⟩ := List.mem_iff_getElem?.mp hc
  rw [List.getElem?_take] at hj
  split at hj
  · next hlt => exact decide_eq_false fun hn => h j ⟨hlt, c, hj, hn⟩
  · cases hj

theorem lookup_eq_some {tag : List Byte} (h : s.Named tag j) (hfirst : ∀ l, l < j → ¬s.Named tag l) :
    s.lookup tag = some j := by
  obtain ⟨hj, c, hc, hn⟩ := h
  have htake : (s.cabins.take s.ride.n)[j]? = some c := by rw [List.getElem?_take, if_pos hj, hc]
  obtain ⟨hlt, hget⟩ := List.getElem?_eq_some_iff.mp htake
  have hfind : (s.cabins.take s.ride.n).findIdx? (fun c => decide (c.capacity ≠ 0 ∧ c.tag = tag)) =
      some j := by
    refine List.findIdx?_eq_some_iff_getElem.mpr ⟨hlt, by rw [hget]; exact decide_eq_true hn, fun l hl => ?_⟩
    have hl' : s.cabins[l]? = some (s.cabins.take s.ride.n)[l] := by
      rw [← List.getElem?_take_of_lt (hl.trans hj), List.getElem?_eq_getElem]
    simpa using fun hc ht => hfirst l hl ⟨hl.trans hj, _, hl', hc, ht⟩
  rw [State.lookup, lookupFrom_eq_findIdx?, hfind, Option.map_some, Nat.zero_add]

/-! ### The open window (R57) -/

/-- Whether cabin `k` stands in the ID window with its window OPEN. -/
def State.OpenAt (s : State) (k : Nat) : Prop :=
  (s.cabin k).window.isOpen = true ∧
    ∃ d, s.tracker.travel s.ride k = some d ∧ s.zone.idStart ≤ d ∧ d < s.zone.idEnd

theorem windowCabin_succ_of_open (h : s.OpenAt k) : s.windowCabin (k + 1) = some k := by
  obtain ⟨ho, d, ht, hlo, hhi⟩ := h
  simp [State.windowCabin, ht, ho, hlo, hhi]

theorem windowCabin_succ_of_not (h : ¬s.OpenAt k) : s.windowCabin (k + 1) = s.windowCabin k := by
  rw [State.windowCabin]
  cases ht : s.tracker.travel s.ride k with
  | none => rfl
  | some d =>
    refine if_neg fun hc => h ?_
    simp only [Bool.and_eq_true, decide_eq_true_iff] at hc
    obtain ⟨⟨ho, hlo⟩, hhi⟩ := hc
    exact ⟨ho, d, ht, hlo, hhi⟩

theorem windowCabin_eq_none {n : Nat} (h : ∀ k < n, ¬s.OpenAt k) : s.windowCabin n = none := by
  induction n with
  | zero => rfl
  | succ n ih =>
    rw [windowCabin_succ_of_not (h n (Nat.lt_succ_self n))]
    exact ih fun k hk => h k (Nat.lt_succ_of_lt hk)

theorem windowCabin_eq_some {n : Nat} (hk : k < n) (ho : s.OpenAt k)
    (hone : ∀ l < n, s.OpenAt l → l = k) : s.windowCabin n = some k := by
  induction n with
  | zero => cases hk
  | succ n ih =>
    by_cases hn : s.OpenAt n
    · rw [windowCabin_succ_of_open hn, hone n (Nat.lt_succ_self n) hn]
    · have hne : k ≠ n := fun h => hn (h ▸ ho)
      rw [windowCabin_succ_of_not hn]
      exact ih (by omega) fun l hl => hone l (Nat.lt_succ_of_lt hl)

theorem offerRead_of_none (h : windowsOpen s.zone s.ride = false ∨ ∀ k < s.ride.n, ¬s.OpenAt k)
    (j : Nat) : offerRead j s = s := by
  unfold offerRead
  rcases h with h | h
  · rw [if_neg (by simp [h])]
  · rw [windowCabin_eq_none h, ite_self]

/-- A read is counted in the one window that is open. -/
theorem offerRead_of_one (hw : windowsOpen s.zone s.ride = true) (hk : k < s.ride.n) (ho : s.OpenAt k)
    (hone : ∀ l < s.ride.n, s.OpenAt l → l = k) (j : Nat) : offerRead j s =
      { s with cabins := s.cabins.set k { s.cabin k with window := (s.cabin k).window.count k j } } := by
  have hc : s.cabins[k]? = some (s.cabin k) := getElem?_cabin fun hn => by
    have hopen := ho.1
    rw [hn] at hopen
    cases hopen
  unfold offerRead
  rw [if_pos hw, windowCabin_eq_some hk ho hone]
  exact modifyCabin_eq_set hc _

/-! ### The read taken by the SEARCHING tracker (R39, R40, R45) -/

/-- An unlatched POSITION entry goes as the tracker comes to LOCKED (R45). -/
theorem reportTracker_of_locked (hs : s.tracker.state = .locked)
    (hl : (s.entry .position).any (fun h => h.latched) = false) :
    reportTracker s = { s with holds := s.holds.filter fun h => h.source != .position } := by
  simp only [reportTracker, hs, absenceReport]
  cases he : s.entry .position with
  | some e =>
    have hlatched : e.latched = false := by simpa [he] using hl
    simp only [hlatched, Bool.false_eq_true, if_false]
    rfl
  | none =>
    have hself : (s.holds.filter fun h => h.source != .position) = s.holds :=
      List.filter_eq_self.mpr fun e hm => by simpa using entry_eq_none_iff.mp he e hm
    simp only [hself]

theorem propose_state (t : Tracker) (required i : Nat) :
    (t.propose required i).state = t.state ∨ (t.propose required i).state = .locked := by
  rw [Tracker.propose]
  generalize (if t.candidate = some i then t.candidateReads + 1 else 1) = reads
  by_cases h : required ≤ reads
  · exact .inr (by rw [if_pos h]; rfl)
  · exact .inl (by rw [if_neg h])

theorem searchRead_of_no_proposal (h : s.proposal j = none) : searchRead j s = s := by
  simp only [searchRead, h]

/-- A proposal short of the required reads leaves the tracker SEARCHING, without a report. -/
theorem searchRead_of_waiting {m : Nat} (h : s.proposal j = some m)
    (hs : (s.tracker.propose s.zone.requiredReads m).state = s.tracker.state) :
    searchRead j s = { s with tracker := s.tracker.propose s.zone.requiredReads m } := by
  simp only [searchRead, h]
  exact if_pos hs

/-- The index assigned is reported: an unlatched POSITION entry goes (R40, R45). -/
theorem searchRead_of_assigned {m : Nat} (h : s.proposal j = some m)
    (hs : (s.tracker.propose s.zone.requiredReads m).state ≠ s.tracker.state)
    (hl : (s.entry .position).any (fun h => h.latched) = false) : searchRead j s =
      { s with
        tracker := s.tracker.propose s.zone.requiredReads m
        holds := s.holds.filter fun h => h.source != .position } := by
  have hlocked := (propose_state s.tracker s.zone.requiredReads m).resolve_left hs
  simp only [searchRead, h]
  exact (if_neg hs).trans (reportTracker_of_locked
    (s := { s with tracker := s.tracker.propose s.zone.requiredReads m }) hlocked hl)

/-! ### The answer taken (R55) -/

section

variable {a : TagAnswer}

theorem takeTagAnswer_of_no_read (h : ¬(a.present = true ∧ s.zone.tagFloor ≤ a.strength)) :
    takeTagAnswer a s = s := if_neg (by simpa using h)

theorem takeTagAnswer_of_unknown (h : a.present = true ∧ s.zone.tagFloor ≤ a.strength)
    (hn : ∀ j, ¬s.Named a.tag j) : takeTagAnswer a s = latch .unknownTag s := by
  unfold takeTagAnswer
  rw [if_pos (by simpa using h), lookup_eq_none hn]

section

variable (h : a.present = true ∧ s.zone.tagFloor ≤ a.strength) (hj : s.Named a.tag j)
  (hfirst : ∀ l, l < j → ¬s.Named a.tag l)

include h hj hfirst

theorem takeTagAnswer_of_lost (hs : s.tracker.state = .lost) : takeTagAnswer a s = s := by
  simp [takeTagAnswer, h, lookup_eq_some hj hfirst, hs]

theorem takeTagAnswer_of_searching (hs : s.tracker.state = .searching) :
    takeTagAnswer a s = searchRead j s := by
  simp [takeTagAnswer, h, lookup_eq_some hj hfirst, hs]

theorem takeTagAnswer_of_indexed (hs : s.tracker.state = .locked ∨ s.tracker.state = .coasting) :
    takeTagAnswer a s = offerRead j s := by
  rcases hs with hs | hs <;> simp [takeTagAnswer, h, lookup_eq_some hj hfirst, hs]

end

end

end Sys2Proof.Machine

/-! ## A settling frame judged, whole (R84 to R86) -/

namespace Sys2Proof.Machine

set_option Elab.async false

theorem mute_of_kind {s : State} {i : Nat}
    (h : (s.pollEntry i).kind = .mast ∨ (s.pollEntry i).kind = .tagReader) : s.Mute i := by
  intro p hp
  rw [hp] at h
  cases p <;> simp [Station.kind] at h

theorem Station.kind_inj {p q : Station} (h : p.kind = q.kind) : p = q := by
  cases p <;> cases q <;> simp_all [Station.kind]

section

variable {s : State} {raw : RawFrame} {i : Nat} {r : ResultRecord} {f : Frame} {p : Station}

/-- A mast's content is taken by every record of its address (R94). -/
theorem leaves_of_mast (h : s.Settles i) (hr : s.results[i]? = some r) (hf : Fits (s.pollEntry i) raw f)
    (hk : (s.pollEntry i).kind = .mast)
    (hu : undefinedField (s.pollEntry i).kind f.payload = false) :
    s.Leaves raw (takeMastAnswer (s.pollEntry i).address
      ⟨256 * byteAt f.payload 0 + byteAt f.payload 1, 256 * byteAt f.payload 2 + byteAt f.payload 3⟩
      (s.received.noted i r .answered)) := by
  have hlen : f.payload.length = 5 := by
    obtain ⟨-, -, -, hlen⟩ := hf
    rwa [hk] at hlen
  have hfault : byteAt f.payload 4 = 0 := by simpa [undefinedField, hk] using hu
  have hleaves := leaves_of_content h hf (hk ▸ (answerContent_mast hlen).trans (if_pos hfault))
  rwa [recordResult_eq_noted (s := s.received) hr (.inr (mute_of_kind (.inl hk)))] at hleaves

/-- A tag reader's content is a read, if it carries one (R55). -/
theorem leaves_of_tag (h : s.Settles i) (hr : s.results[i]? = some r) (hf : Fits (s.pollEntry i) raw f)
    (hk : (s.pollEntry i).kind = .tagReader)
    (hu : undefinedField (s.pollEntry i).kind f.payload = false) :
    s.Leaves raw (takeTagAnswer ⟨decide (byteAt f.payload 0 = 1), (f.payload.drop 1).take 8,
      byteAt f.payload 9⟩ (s.received.noted i r .answered)) := by
  have hlen : f.payload.length = 10 := by
    obtain ⟨-, -, -, hlen⟩ := hf
    rwa [hk] at hlen
  have hpresent : byteAt f.payload 0 ≤ 1 := by simpa [undefinedField, hk] using hu
  have hleaves := leaves_of_content h hf (hk ▸ (answerContent_tag hlen).trans (if_pos hpresent))
  rwa [recordResult_eq_noted (s := s.received) hr (.inr (mute_of_kind (.inr hk)))] at hleaves

theorem not_stationUndefined (hk : (s.pollEntry i).kind = p.kind)
    (hu : undefinedField (s.pollEntry i).kind f.payload = false) : ¬stationUndefined f.payload := by
  rw [hk] at hu
  cases p <;> exact of_decide_eq_false hu

theorem answerContent_of_station (hk : (s.pollEntry i).kind = p.kind)
    (hu : undefinedField (s.pollEntry i).kind f.payload = false) {d : DoorState}
    (hd : d.code = byteAt f.payload 2) : answerContent (s.pollEntry i).kind f.payload =
      some (.station p ⟨byteAt f.payload 0, decide (byteAt f.payload 1 = 1), d, byteAt f.payload 3,
        decide (byteAt f.payload 4 = 1)⟩) := by
  rw [hk, answerContent_station, stationContent_of_defined (not_stationUndefined hk hu) hd]

/-- The content of a platform station's answer goes to the station, and to the cabin it shows. -/
theorem leaves_of_station (h : s.Settles i) (hr : s.results[i]? = some r)
    (hf : Fits (s.pollEntry i) raw f) (hk : (s.pollEntry i).kind = p.kind)
    (hu : undefinedField (s.pollEntry i).kind f.payload = false) (he : s.stationEntry p = some i)
    {d : DoorState} (hd : d.code = byteAt f.payload 2) :
    s.Leaves raw (takeStationAnswer p ⟨byteAt f.payload 0, decide (byteAt f.payload 1 = 1), d,
      byteAt f.payload 3, decide (byteAt f.payload 4 = 1)⟩ (s.received.heard i p r)) := by
  have hleaves := leaves_of_content h hf (answerContent_of_station hk hu hd)
  rwa [handContent_station (s := s.received) hr hk he] at hleaves

/-- An entry that speaks for no station hands its content to none (R66). -/
theorem leaves_of_mute_station (h : s.Settles i) (hr : s.results[i]? = some r)
    (hf : Fits (s.pollEntry i) raw f) (hk : (s.pollEntry i).kind = p.kind)
    (hu : undefinedField (s.pollEntry i).kind f.payload = false) (he : s.stationEntry p ≠ some i) :
    s.Leaves raw (s.received.noted i r .answered) := by
  have hmute : s.Mute i := fun q hq => Station.kind_inj (hk.symm.trans hq) ▸ he
  obtain ⟨d, hd⟩ : ∃ d : DoorState, d.code = byteAt f.payload 2 := by
    have hdefined := not_stationUndefined hk hu
    exact exists_door_of_le (by omega)
  have hleaves := leaves_of_content h hf (answerContent_of_station hk hu hd)
  have hnone : handContent i (.station p ⟨byteAt f.payload 0, decide (byteAt f.payload 1 = 1), d,
      byteAt f.payload 3, decide (byteAt f.payload 4 = 1)⟩) (s.received.noted i r .answered) =
      s.received.noted i r .answered := if_neg he
  rwa [recordResult_eq_noted (s := s.received) hr (.inr hmute), hnone] at hleaves

end

/-- Settles O37: what each frame leaves by the tests it fails, the kind of its entry and, for a tag, the
state of the tracker. -/
theorem answerJudged : Obligations.AnswerJudged := by
  intro s raw i r hphase hflight hr hset e leaves fits at' undefined fresh source believed noted discarded
  have hs : s.Settles i := ⟨hphase, hflight, hset⟩
  refine ⟨fun h => ⟨fun hf => ?_, fun f hf hu => ?_⟩, fun p hk he hfresh hne hf => ?_,
    fun f hf hk hu => ?_, fun f p hf hk hu he => leaves_of_mute_station hs hr hf hk hu he,
    fun f p d hf hk hu he hd => ?_, fun f hf hk hu => ?_⟩
  · have hleaves := leaves_of_discarded hs hf
    rw [recordResult_eq_noted (s := latch .frameDiscarded s.received) hr (h.imp id fun h p _ => h p)]
      at hleaves
    exact hleaves
  · have hleaves := leaves_of_undefined hs hf hu
    rw [recordResult_eq_noted (s := s.received) hr (h.imp id fun h p _ => h p)] at hleaves
    exact hleaves
  · have hrecord (l : LatchedSet) := recordResult_stale_spec (s := { s.received with latched := l })
      hr hk he (by cases p <;> exact hfresh) hne
    by_cases hfit : ∃ f, fits f
    · have ⟨f, hff⟩ := hfit
      obtain ⟨hresults, hmasts, htracker, hwind, hspec⟩ := hrecord s.latched
      exact ⟨_, leaves_of_undefined hs hff (hf f hff), hresults, hmasts, htracker, hwind,
        (recordResult_frameDiscarded i .bad s.received).trans (if_pos hfit).symm, hspec⟩
    · obtain ⟨hresults, hmasts, htracker, hwind, hspec⟩ := hrecord (s.latched.with .frameDiscarded)
      exact ⟨_, leaves_of_discarded hs (not_exists.mp hfit), hresults, hmasts, htracker, hwind,
        (recordResult_frameDiscarded i .bad (latch .frameDiscarded s.received)).trans (if_neg hfit).symm,
        hspec⟩
  · have hleaves := leaves_of_mast hs hr hf hk hu
    rw [takeMastAnswer_noted] at hleaves
    exact hleaves
  · intro k valid fault pressed w flagged reported
    let a : StationAnswer := ⟨byteAt f.payload 0, decide (byteAt f.payload 1 = 1), d,
      byteAt f.payload 3, decide (byteAt f.payload 4 = 1)⟩
    have hmast : e.kind ≠ .mast := by
      rw [hk]
      cases p <;> decide
    have hv : valid ↔ (s.received.station p).shown = some a.echo ∧
        (s.received.cabin a.echo).state = p.zone ∧ a.present = true := by
      have hst : s.received.station p = s.station p := by cases p <;> rfl
      rw [hst]
      exact and_congr Iff.rfl (and_congr Iff.rfl decide_eq_true_iff.symm)
    have hnoted : noted .answered =
        { s with results := s.results.set i (r.stepped s.pollParams .answered) } :=
      noted_of_no_mast hmast .answered
    have hleaves : s.Leaves raw (takeStationAnswer p a (s.received.heard i p r)) :=
      leaves_of_station hs hr hf hk hu he hd
    have hreports : takeStationAnswer p a (s.received.heard i p r) =
        retest ((w.onLineOf s).answerReports p k (decide fault) a.pressed) := by
      rw [takeStationAnswer_heard hv]
      simp only [w, hnoted]
      cases p <;> rfl
    rw [hreports] at hleaves
    obtain ⟨hholds, htracker, hmasts, hwind, hout, hpoll, hms⟩ : w.holds = s.holds ∧
        w.tracker = s.tracker ∧ w.masts = s.masts ∧ w.wind = s.wind ∧ w.out = s.out ∧
        w.pollEntries = s.pollEntries ∧ w.ms = s.ms := by
      simp only [w, hnoted]
      cases p <;> exact ⟨rfl, rfl, rfl, rfl, rfl, rfl, rfl⟩
    refine ⟨fun hnf hnp => ?_, fun h => ⟨_, hleaves, ?_⟩⟩
    · rw [decide_eq_false hnf, show a.pressed = false from decide_eq_false hnp] at hleaves
      rw [← hholds]
      exact hleaves
    · have haddress : (w.onLineOf s).stationAddress p = some e.address := by
        refine (stationAddress_congr (s := s) (t := w.onLineOf s) hpoll p).trans ?_
        rw [State.stationAddress, he]
        rfl
      have hentry (src : HoldSource) : (w.onLineOf s).entry src = s.entry src := entry_congr hholds
      have hspec := retest_answerReports_spec (s := w.onLineOf s) h haddress k
      have hmsLine : (w.onLineOf s).ms = s.ms := hms
      have hholdsLine : (w.onLineOf s).holds = s.holds := hholds
      simp only [hentry, hmsLine, hholdsLine] at hspec
      obtain ⟨halight, hboard, hresults, hcauses, htracker', hmasts', hwind', hout', hcabins, hdoor, hplat,
        hothers, hsources, hstops⟩ := hspec
      exact ⟨halight, hboard, hresults, hcauses, htracker'.trans htracker, hmasts'.trans hmasts,
        hwind'.trans hwind, hout'.trans hout, hcabins, hdoor, hplat, hothers, hsources, hstops⟩
  · intro v carries named
    let x : State := s.received.noted i r .answered
    let a : TagAnswer :=
      ⟨decide (byteAt f.payload 0 = 1), (f.payload.drop 1).take 8, byteAt f.payload 9⟩
    have hleaves : s.Leaves raw (takeTagAnswer a x) := leaves_of_tag hs hr hf hk hu
    have hcarries : carries ↔ a.present = true ∧ x.zone.tagFloor ≤ a.strength :=
      and_congr decide_eq_true_iff.symm Iff.rfl
    refine ⟨fun hc => ?_, fun hc hn => ?_, fun hc j hj hfirst => ?_⟩
    · rw [takeTagAnswer_of_no_read (mt hcarries.mpr hc)] at hleaves
      exact hleaves
    · rw [takeTagAnswer_of_unknown (hcarries.mp hc) hn] at hleaves
      exact hleaves
    · have hread := hcarries.mp hc
      refine ⟨fun hst => ?_, fun hst => ?_, fun hst => ?_⟩
      · rw [takeTagAnswer_of_lost hread hj hfirst hst] at hleaves
        exact hleaves
      · rw [takeTagAnswer_of_searching hread hj hfirst hst] at hleaves
        refine ⟨fun hp => ?_, fun m hp => ?_⟩
        · rw [searchRead_of_no_proposal (s := x) hp] at hleaves
          exact hleaves
        · intro t
          refine ⟨fun ht => ?_, fun ht hl => ?_⟩
          · rw [searchRead_of_waiting (s := x) hp (ht.trans hst.symm)] at hleaves
            exact hleaves
          · rw [searchRead_of_assigned (s := x) hp (fun h => ht (h.trans hst)) hl] at hleaves
            exact hleaves
      · rw [takeTagAnswer_of_indexed hread hj hfirst hst] at hleaves
        intro within'
        refine ⟨fun hnone => ?_, fun hw k hk hone => ?_⟩
        · rw [offerRead_of_none (s := x) (hnone.imp id fun h k hk ho => h k ⟨hk, ho⟩)] at hleaves
          exact hleaves
        · obtain ⟨hlt, ho⟩ := hk
          intro y counted
          rw [offerRead_of_one (s := x) hw hlt ho fun l hl ho => hone l ⟨hl, ho⟩] at hleaves
          exact hleaves

end Sys2Proof.Machine
